-- ==== Sys2Proof/Word.lean ====
section
/-!
DEFINITION. The words of the part: the byte the service link carries, its 16-bit fields, the 256-bit digest.
-/

namespace Sys2Proof

/-- One byte of the service link, of a frame or of a chunk. -/
abbrev Byte := BitVec 8

/-- A 16-bit field of a packet header (aux, a check). -/
abbrev Half := BitVec 16

/-- A plan epoch or a deferred tag: 32 bits that wrap (R122, R142). -/
abbrev Epoch := BitVec 32

/-- A chunk's digest: the 256-bit SHA-256 value, byte 0 most significant (R56). -/
abbrev Digest := BitVec 256

end Sys2Proof
end

