-- ==== Sys2Proof/Syntax.lean ====
section
/-!
DEFINITION. The commands of the part: one constructor for each row of spec/opcode_table.json, in the table's order.

Three kinds of row stand in the table. An EVENT of the outside world (a header arrives, a second passes, the button is
pressed) carries what the event brings. A REQUEST row is the step at which the owning block takes the oldest request
that waits for it in the input buffer: tag, aux and payload stand in that place of the buffer (R5, R11), so the
constructor carries none. An INTERNAL step (a walk step, a scan step, a timer expiry) carries the number of the
stream, plan or bay it is a step of.
-/

namespace Sys2Proof

/-- What arrives at the receiver when a header is decided (R2): all eight bytes, or a header cut short by quiet. -/
inductive HeaderArrival where
  | whole (bytes : Vector Byte 8)
  | cut
  deriving DecidableEq, Repr

/-- The commands, one for each row of spec/opcode_table.json. -/
inductive Instr where
  /-- R167: power is applied; `sense` is what the four presence sense lines show (R155). -/
  | powerOnReset (sense : Vector Bool 4)
  /-- R2: a header arrives, or is cut by quiet; `underHold` says that it began while HOLD was driven. -/
  | headerReceived (header : HeaderArrival) (underHold : Bool)
  /-- R3: payload and payload check of a long non-batch packet have arrived. -/
  | packetComplete (payload : List Byte) (check : Half)
  /-- R3: quiet inside a non-batch packet. -/
  | packetBreak
  /-- R4: the stated length of a batch packet has arrived. -/
  | batchComplete (payload : List Byte)
  /-- R4: quiet inside a batch packet after the bytes given. -/
  | batchBreak (received : List Byte)
  /-- R14: the transmitter starts the next packet. -/
  | transmitPacket
  /-- R5: the last byte of the packet being sent has gone. -/
  | packetSendEnd
  /-- R6: the powered host begins training. -/
  | trainingStart
  /-- R6: training completes. -/
  | trainingComplete
  /-- R9: training is lost. -/
  | trainingLost
  /-- R7: the host signals IDLE. -/
  | hostIdle
  /-- R7: the host signals WAKE. -/
  | hostWake
  /-- R8: the host signals SLEEP_ACK. -/
  | sleepAck
  /-- R9: the host signals RESET. -/
  | hostReset
  /-- R15. -/
  | linkStatus
  /-- R15 with aux 1. -/
  | linkStatusClearCounts
  /-- R18. -/
  | noticeRead
  /-- R19. -/
  | noticeClear
  /-- R19. -/
  | noticeMask
  /-- R21. -/
  | settingsRead
  /-- R20. -/
  | settingsWrite
  /-- R22: one second of the crystal; `sense` is what the four presence sense lines show at it (R155). -/
  | secondEvent (sense : Vector Bool 4)
  /-- R25. -/
  | clockSet
  /-- R26. -/
  | clockRead
  /-- R30. -/
  | clientSet
  /-- R38. -/
  | clientRead
  /-- R39. -/
  | clientRetire
  /-- R36. -/
  | scheduleSet
  /-- R46. -/
  | streamOpen
  /-- R47. -/
  | streamData
  /-- R58. -/
  | streamCommit
  /-- R60. -/
  | streamFinish
  /-- R61: completion of the stream given. -/
  | streamCompletion (stream : Fin 8)
  /-- R64. -/
  | streamAbort
  /-- R66. -/
  | streamRead
  /-- R90. -/
  | chunkRead
  /-- R101. -/
  | collectionOpen
  /-- R102. -/
  | collectionClose
  /-- R104. -/
  | memberAdd
  /-- R105. -/
  | memberRemove
  /-- R108. -/
  | collectionRead
  /-- R109. -/
  | membersFetch
  /-- R110. -/
  | objectRead
  /-- R103. -/
  | retireCollection
  /-- R112: the RTU takes the oldest walkable order. -/
  | walkOrderTake
  /-- R113: a walk step removes the lowest member. -/
  | memberRemoval
  /-- R115: a walk step releases the first reference. -/
  | referenceRemoval
  /-- R106: a walk step frees an object whose recipe is empty. -/
  | objectFree
  /-- R113: a walk step frees a collection whose list is empty. -/
  | collectionFree
  /-- R119. -/
  | releaseTake
  /-- R120. -/
  | releaseTakeLastBatch
  /-- R122. -/
  | deferredCheck
  /-- R126. -/
  | walkStatus
  /-- R128. -/
  | grantSet
  /-- R137. -/
  | grantClear
  /-- R138. -/
  | grantRead
  /-- R139: GRANT_READ with selector 2. -/
  | grantReadDecision
  /-- R143. -/
  | planOpen
  /-- R145: one scan step of the plan given. -/
  | scanStep (plan : Fin 16)
  /-- R148. -/
  | planFetch
  /-- R151. -/
  | planCheck
  /-- R153. -/
  | planDone
  /-- R158. -/
  | bayHold
  /-- R158. -/
  | bayRelease
  /-- R166. -/
  | bayStatus
  /-- R160: the head of the spin-up queue starts. -/
  | spinUpStart
  /-- R161: expiry of the bay's spin-up timer. -/
  | spinUpExpiry (bay : Fin 4)
  /-- R162: expiry of the bay's idle timer. -/
  | idleTimerExpiry (bay : Fin 4)
  /-- R163: expiry of the bay's spin-down timer. -/
  | spinDownExpiry (bay : Fin 4)
  /-- R164: the BPC takes a loss of presence at the bay. -/
  | presenceLoss (bay : Fin 4)
  /-- R164: the BPC takes an arrival of presence at the bay. -/
  | presenceArrival (bay : Fin 4)
  /-- R170. -/
  | standbyEnter
  /-- R171: sleep acknowledged and every bay OFF or EMPTY. -/
  | standbyEntryComplete
  /-- R172: the handshake timer expires. -/
  | handshakeTimerExpiry
  /-- R175. -/
  | returnPrior
  /-- R178. -/
  | powerStatus
  /-- R168: the wake timer expires. -/
  | wakeTimerExpiry
  /-- R168: the pause timer expires. -/
  | pauseTimerExpiry
  /-- R174: the front button goes from released to pressed. -/
  | buttonPress
  /-- R179: a frame arrives at the port; `good` says that its frame check sequence is good. -/
  | frameReceived (frame : List Byte) (good : Bool)
  /-- R180. -/
  | frameOut
  /-- R180: the MAC begins to transmit the oldest frame. -/
  | frameTransmitStart
  /-- R180: the transmission ends. -/
  | frameTransmitEnd
  /-- R186, aux 0. -/
  | filterSet
  /-- R186, aux 1. -/
  | filterRead
  /-- R185, aux 0. -/
  | templateSet
  /-- R185, aux 1. -/
  | templateRead
  /-- R188. -/
  | tablesInit
  /-- R189. -/
  | imageExport
  /-- R190, aux 0. -/
  | imageNext
  /-- R190, aux 1. -/
  | imageNextAgain
  /-- R190. -/
  | imageCancel
  /-- R191. -/
  | imageImport
  /-- R191. -/
  | imagePut
  /-- R192. -/
  | imageEnd
  /-- R2: the receive line returns to quiet after discarded bytes. -/
  | receiveLineQuiet
  deriving DecidableEq, Repr

end Sys2Proof
end

