-- ==== Sys2Proof/Decode.lean ====
section
/-!
DEFINITION. The command a word spells by the bits of spec/opcode_table.json. No row of that table gives a match, a mask
or a field, so no word spells a command.
-/

namespace Sys2Proof

/-- The rows of spec/opcode_table.json that give bits: there are none. -/
def rowsWithBits : List (Nat × Nat × Instr) := []

/-- The command whose row has `nbits` bits and reads `w` (none: no row gives bits). -/
def decodeTableWord (nbits w : Nat) : Option Instr :=
  (rowsWithBits.find? fun r => r.1 == nbits && r.2.1 == w).map (·.2.2)

end Sys2Proof
end

