-- ==== Sys2Proof/Config.lean ====
section
/-!
DEFINITION. The sizes the manual fixes for the part, and what the manual leaves open: a free byte and an order of requests.
-/

namespace Sys2Proof.Config

/-- Places of the input buffer (R5). -/
abbrev inputPlaces : Nat := 8
/-- Largest payload of a packet (section 1.1, R2). -/
abbrev maxPayload : Nat := 16384
/-- Top of box time; it saturates there (R22). -/
abbrev maxTime : Nat := 4294967295
/-- Largest object length, 2^36 - 1 (Table 5.1). -/
abbrev maxObjectLength : Nat := 68719476735
/-- Object records (section 5.2). -/
abbrev objectCount : Nat := 1048576
/-- Collection records (section 5.4). -/
abbrev collectionCount : Nat := 1024
/-- Chunk entries (section 4.1). -/
abbrev chunkCount : Nat := 33554432
/-- Ways of one bucket (section 4.1). -/
abbrev ways : Nat := 16
/-- Grant records (section 7.1). -/
abbrev grantCount : Nat := 256
/-- Pages of the page pool (section 5.1). -/
abbrev poolPages : Nat := 4194304
/-- Slots of one page (section 5.1). -/
abbrev pageSlots : Nat := 64
/-- Largest member list, reserved slots included (R99). -/
abbrev maxMembers : Nat := 262144
/-- The pinned refcount (R78). -/
abbrev pinned : Nat := 16777215
/-- Extents of the release list (R117). -/
abbrev releaseMax : Nat := 4096
/-- Places of the deferred release list (R121). -/
abbrev deferredMax : Nat := 256
/-- Items of one outstanding list (R44). -/
abbrev outstandingMax : Nat := 64
/-- Bytes of the boundary window (R49). -/
abbrev windowSize : Nat := 48
/-- Frames of the receive queue (R179). -/
abbrev receiveMax : Nat := 64
/-- Frames of the transmit buffer (R180). -/
abbrev transmitMax : Nat := 4
/-- Bytes of one disk block (section 4.1 of the introduction). -/
abbrev blockBytes : Nat := 4096
/-- Largest block number plus one (Table 4.1). -/
abbrev blockCount : Nat := 17179869184
/-- Bytes of one MiB (section 4.1 of the introduction). -/
abbrev mib : Nat := 1048576
/-- Largest quota in MiB (Table 2.4). -/
abbrev maxQuota : Nat := 16777215
/-- Draw a spin-up needs, in units (Table 9.2). -/
abbrev spinUpDraw : Nat := 5
/-- Wake timer, pause timer and handshake timer in seconds (R167, R168, R171). -/
abbrev wakeSeconds : Nat := 30
abbrev pauseSeconds : Nat := 5
abbrev handshakeSeconds : Nat := 10

/-- A byte of a result record whose content the manual does not state (assumption 3): nothing is known of it.
It is applied to the model's own counter `State.free`, which every use advances. -/
opaque freeByte : Nat → Byte

/-- How many of the requests that wait at the Client Table it takes between the charge of a chunk and the refund of a
POOL_FULL, which R70 lets come in either order (assumption 26): nothing is known of it. It is applied to the model's own
counter `State.free`, which every use advances. -/
opaque requestsBetween : Nat → Nat

end Sys2Proof.Config
end

