-- ==== Sys2Proof/Machine/Table.lean ====
section
/-!
DEFINITION. Record arrays. A large array of records is a list of (number, record) pairs in one canonical form: numbers
strictly rising, and no pair whose record is the unused one, so that equal arrays are equal lists. A small array is a
vector read and written by number.
-/

namespace Sys2Proof.Machine

/-- The records in use, by number. -/
abbrev Table (α : Type) := List (Nat × α)

/-- The record of number `k`; a number that is not listed holds the unused record `d`. -/
def Table.read {α : Type} (d : α) : Table α → Nat → α
  | [], _ => d
  | (n, v) :: rest, k => if n = k then v else Table.read d rest k

/-- The list without number `k`. -/
def Table.erase {α : Type} : Table α → Nat → Table α
  | [], _ => []
  | (n, v) :: rest, k => if n = k then rest else (n, v) :: Table.erase rest k

/-- The list with `v` at number `k`, at its rising place. -/
def Table.insert {α : Type} : Table α → Nat → α → Table α
  | [], k, v => [(k, v)]
  | (n, w) :: rest, k, v =>
    if k < n then (k, v) :: (n, w) :: rest
    else if n = k then (k, v) :: rest
    else (n, w) :: Table.insert rest k v

/-- Writes `v` at number `k`; writing the unused record takes the number out. -/
def Table.write {α : Type} [DecidableEq α] (d : α) (t : Table α) (k : Nat) (v : α) : Table α :=
  if v = d then Table.erase t k else Table.insert t k v

/-- Numbers strictly rising. -/
def Table.sorted {α : Type} : Table α → Bool
  | [] => true
  | [_] => true
  | (n, _) :: (m, w) :: rest => decide (n < m) && Table.sorted ((m, w) :: rest)

/-- The canonical form: numbers strictly rising, below `bound`, and no unused record listed. -/
def Table.wf {α : Type} [DecidableEq α] (d : α) (bound : Nat) (t : Table α) : Bool :=
  Table.sorted t && t.all fun p => decide (p.2 ≠ d) && decide (p.1 < bound)

/-- The lowest number from `k` on that a rising list does not list. -/
def Table.lowestFreeFrom {α : Type} : Nat → Table α → Nat
  | k, [] => k
  | k, (n, _) :: rest => if n = k then Table.lowestFreeFrom (k + 1) rest else k

/-- The lowest number below `bound` that is not in use. -/
def Table.lowestFree {α : Type} (bound : Nat) (t : Table α) : Option Nat :=
  let k := Table.lowestFreeFrom 0 t
  if k < bound then some k else none

/-- Entry `i` of a small array; `d` outside it. -/
def slot {α : Type} {n : Nat} (d : α) (v : Vector α n) (i : Nat) : α := v[i]?.getD d

/-- The small array with `x` at entry `i`. -/
def put {α : Type} {n : Nat} (v : Vector α n) (i : Nat) (x : α) : Vector α n := v.setIfInBounds i x

/-- The numbers `0` to `n - 1` at which the small array's entry satisfies `p`, rising. -/
def numbersWhere {α : Type} {n : Nat} (p : α → Bool) (v : Vector α n) : List Nat :=
  (List.range n).filter fun i => match v[i]? with
    | some x => p x
    | none => false

end Sys2Proof.Machine
end

