-- ==== Sys2Proof/Machine/State.lean ====
section
/-!
DEFINITION. The state of the DZ7104, block by block (Table 0.2), as plain data, and the state right after power-on
reset. INVENTORY.md lists every field with the rule that names it.
-/

namespace Sys2Proof.Machine

/-! ### Service Link Controller (chapter 1) -/

/-- Link states (Table 1.4). -/
inductive LinkState where
  | down | training | active | idle | sleep
  deriving DecidableEq, Repr

/-- Causes of the link start record (R10). -/
inductive StartCause where
  | powerUp | hostReset | trainingLost
  deriving DecidableEq, Repr

/-- What a complete packet brought: a payload, or the good entries 0 to k-1 of a batch and whether every entry of the
packet was good and complete (R4). -/
inductive Body where
  | plain (payload : List Byte)
  | batch (entries : List (List Byte)) (whole : Bool)
  deriving DecidableEq, Repr

/-- What the request in a place is doing (R5). "Being taken" does not stand here: a step is whole. -/
inductive PlacePhase where
  | receiving
  | waiting (body : Body)
  | answered
  deriving DecidableEq, Repr

/-- One place of the input buffer in use. `slot` tells the places apart and is the model's own number. -/
structure Place where
  slot : Nat
  kind : Byte
  tag : Byte
  aux : Half
  length : Nat
  phase : PlacePhase
  deriving DecidableEq, Repr

/-- A packet of the part: a response (with the place it will free), ATTENTION, or a FRAME_IN. -/
inductive OutPacket where
  | response (slot : Option Nat) (tag : Byte) (aux : Half) (payload : List Byte)
  | attention
  | frameIn (lost : Bool) (frame : List Byte)
  deriving DecidableEq, Repr

/-- What the receiver is doing (R2, R3): waiting for a header, discarding bytes until quiet, or taking the payload of
the place given. -/
inductive Receiver where
  | quiet
  | discarding
  | payload (slot : Nat)
  deriving DecidableEq, Repr

/-- The settings record (Table 1.8). -/
structure Settings where
  zone : Int
  lmin : Nat
  ltgt : Nat
  lmax : Nat
  budget : Nat
  spinUp : Nat
  idle : Nat
  spinDown : Nat
  deriving DecidableEq, Repr

/-- Defaults of Table 1.8. -/
def Settings.default : Settings :=
  { zone := 0, lmin := 8192, ltgt := 32768, lmax := 131072, budget := 12, spinUp := 12, idle := 900, spinDown := 3 }

/-- The Service Link Controller. `wakeOut` is the part's WAKE signal: true after a step in which the part signalled it.
HOLD is driven while all 8 places are in use and is computed from `places` (R5). -/
structure Slc where
  link : LinkState
  startCause : StartCause
  acked : Bool
  receiver : Receiver
  places : List Place
  outgoing : List OutPacket
  sending : Option OutPacket
  deferred : Vector (Option (Byte × Half)) 8
  sleepReq : Bool
  wakeOut : Bool
  linkErrors : Nat
  breaks : Nat
  latched : BitVec 11
  enables : BitVec 11
  owed : Bool
  settings : Settings
  deriving DecidableEq, Repr

/-! ### Box Clock and Client Table (chapter 2) -/

/-- The Box Clock (Table 2.1); the zone offset is a field of the settings record. -/
structure Bck where
  boxTime : Nat
  clockSet : Bool
  deriving DecidableEq, Repr

/-- Roles (Table 2.4); `unset` is the role of a FREE record, which reads 0. -/
inductive Role where
  | unset | source | viewer | family
  deriving DecidableEq, Repr

/-- A schedule (Table 2.4). -/
structure Schedule where
  period : Nat
  nextDue : Nat
  lead : Nat
  deriving DecidableEq, Repr

/-- A wake filter (Table 2.4). -/
structure Filter where
  offset : Nat
  pattern : List Byte
  mask : List Byte
  deriving DecidableEq, Repr

/-- Status of a frame hold (R183). -/
inductive HoldStatus where
  | empty | one | two | lost
  deriving DecidableEq, Repr

/-- A client record (Table 2.4). -/
structure Client where
  active : Bool
  generation : Nat
  role : Role
  address : List Byte
  label : List Byte
  quota : Option Nat
  charged : Nat
  schedule : Option Schedule
  missed : Nat
  filters : List Filter
  holdStatus : HoldStatus
  held : List (List Byte)
  deriving DecidableEq, Repr

/-- A FREE record of generation `g` (Table 2.4, note 1). -/
def Client.free (g : Nat) : Client :=
  { active := false, generation := g, role := .unset, address := List.replicate 6 0, label := List.replicate 16 0,
    quota := none, charged := 0, schedule := none, missed := 0, filters := [], holdStatus := .empty, held := [] }

/-! ### Chunking Engine (chapter 3) -/

/-- Stream states (Table 3.2). -/
inductive StreamState where
  | closed | open | ended | finishing | halted
  deriving DecidableEq, Repr

/-- Halt reasons (Table 3.1). -/
inductive HaltReason where
  | quota | poolFull | writeFailed | bayLost | tooLong
  deriving DecidableEq, Repr

/-- The four kinds of outstanding item (section 3.2). -/
inductive ItemKind where
  | owedNew (handle : Nat)
  | owedPrivate (digest : Digest) (length : Nat)
  | owedRewrite (handle : Nat)
  | pending (handle : Nat)
  deriving DecidableEq, Repr

/-- An outstanding item. -/
structure Item where
  ordinal : Nat
  kind : ItemKind
  deriving DecidableEq, Repr

/-- A running digest: the chaining value, the bytes of the block under way as one number, and the byte count. -/
structure Running where
  chain : BitVec 256
  block : BitVec 512
  count : Nat
  deriving DecidableEq, Repr

/-- A running digest of no bytes (the initial chaining value of SHA-256; assumption 4). -/
def Running.start : Running :=
  { chain := 0x6a09e667bb67ae853c6ef372a54ff53a510e527f9b05688c1f83d9ab5be0cd19#256, block := 0#512, count := 0 }

/-- A stream context (Table 3.1) with the running digest of its current chunk (R56). -/
structure Stream where
  state : StreamState
  client : Nat
  generation : Nat
  object : Nat
  collection : Nat
  bay : Nat
  bayHeld : Bool
  lmin : Nat
  ltgt : Nat
  lmax : Nat
  position : Nat
  chunkLength : Nat
  window : List Byte
  ordinal : Nat
  haltReason : Option HaltReason
  outstanding : List Item
  running : Running
  deriving DecidableEq, Repr

/-- A CLOSED context (Table 3.1). -/
def Stream.closed : Stream :=
  { state := .closed, client := 0, generation := 0, object := 0, collection := 0, bay := 0, bayHeld := false,
    lmin := 0, ltgt := 0, lmax := 0, position := 0, chunkLength := 0, window := List.replicate 48 0, ordinal := 0,
    haltReason := none, outstanding := [], running := Running.start }

/-! ### Chunk Index (chapter 4) -/

/-- States of a chunk entry (Table 4.2). -/
inductive ChunkState where
  | empty | reserved | present | needsWriter | damaged | rewriting
  deriving DecidableEq, Repr

/-- A disk location: bay and first block. -/
structure Loc where
  bay : Nat
  block : Nat
  deriving DecidableEq, Repr

/-- A chunk entry (Table 4.1). -/
structure Chunk where
  state : ChunkState
  digest : Digest
  length : Nat
  loc : Option Loc
  refcount : Nat
  payer : Option (Nat × Nat)
  writer : Option Nat
  deriving DecidableEq, Repr

/-- An EMPTY entry (Table 4.1). -/
def Chunk.empty : Chunk :=
  { state := .empty, digest := 0, length := 0, loc := none, refcount := 0, payer := none, writer := none }

/-! ### Object Catalogue (chapter 5) -/

/-- A recipe reference (Table 5.3). -/
inductive Ref where
  | indexed (handle : Nat)
  | priv (loc : Option Loc) (length : Nat) (digest : Digest) (damaged : Bool)
  deriving DecidableEq, Repr

/-- States of an object (Table 5.2). -/
inductive ObjectState where
  | free | building | complete | retiring
  deriving DecidableEq, Repr

/-- An object record (Table 5.1). -/
structure Obj where
  state : ObjectState
  owner : Nat × Nat
  length : Nat
  holders : Nat
  planHolds : Nat
  recipe : List Ref
  deriving DecidableEq, Repr

/-- A FREE object (Table 5.1). -/
def Obj.free : Obj :=
  { state := .free, owner := (0, 0), length := 0, holders := 0, planHolds := 0, recipe := [] }

/-- States of a collection (Table 5.5). -/
inductive CollState where
  | free | open | closed | retiring
  deriving DecidableEq, Repr

/-- Kinds of collection (Table 5.4). -/
inductive CollKind where
  | snapshot | album
  deriving DecidableEq, Repr

/-- A collection record (Table 5.4). -/
structure Coll where
  state : CollState
  kind : CollKind
  owner : Nat × Nat
  created : Nat
  closed : Option Nat
  members : List Nat
  reserved : Nat
  deriving DecidableEq, Repr

/-- A FREE collection (Table 5.4). -/
def Coll.free : Coll :=
  { state := .free, kind := .snapshot, owner := (0, 0), created := 0, closed := none, members := [], reserved := 0 }

/-- The Object Catalogue: object records, collection records, the count of free pages (R91). -/
structure Oct where
  objects : Table Obj
  colls : Table Coll
  freePages : Nat
  deriving DecidableEq, Repr

/-! ### Retirement Unit (chapter 6) -/

/-- A retire order (R111). -/
inductive Order where
  | coll (n : Nat)
  | object (n : Nat)
  deriving DecidableEq, Repr

/-- Walk states (Table 6.1). -/
inductive WalkState where
  | idle | walking | paused | frozen
  deriving DecidableEq, Repr

/-- An extent (R117). -/
structure Extent where
  bay : Nat
  block : Nat
  length : Nat
  deriving DecidableEq, Repr

/-- An extent of the deferred release list with its tag (R121). -/
structure Deferred where
  extent : Extent
  tag : Epoch
  deriving DecidableEq, Repr

/-- The Retirement Unit. -/
structure Rtu where
  orders : List Order
  current : Option Order
  nested : Option Nat
  walk : WalkState
  release : List Extent
  deferred : List Deferred
  reserved : Nat
  lastBatch : List Extent
  deriving DecidableEq, Repr

/-- The Retirement Unit after power-on reset (R125). -/
def Rtu.empty : Rtu :=
  { orders := [], current := none, nested := none, walk := .idle, release := [], deferred := [], reserved := 0,
    lastBatch := [] }

/-! ### Grant Table (chapter 7) -/

/-- Who a grant is for (Table 7.1). -/
inductive Grantee where
  | client (n : Nat)
  | anyViewer
  deriving DecidableEq, Repr

/-- What a grant is on (Table 7.1). -/
inductive Target where
  | album (n : Nat)
  | allOf (owner : Nat)
  deriving DecidableEq, Repr

/-- Modes of a grant (Table 7.1). -/
inductive Mode where
  | deny | inWindow | outOfWindow | allow
  deriving DecidableEq, Repr

/-- A grant record (Table 7.1). -/
structure Grant where
  live : Bool
  grantee : Grantee
  target : Target
  mode : Mode
  windowStart : Nat
  windowEnd : Nat
  expiry : Option Nat
  deriving DecidableEq, Repr

/-- A FREE grant (Table 7.1). -/
def Grant.free : Grant :=
  { live := false, grantee := .client 0, target := .album 0, mode := .deny, windowStart := 0, windowEnd := 0,
    expiry := none }

/-! ### Read Plan Builder (chapter 8) -/

/-- Plan states (Table 8.2). -/
inductive PlanState where
  | free | scanning | waiting | ready | bayLost
  deriving DecidableEq, Repr

/-- A check context (Table 8.1, R151). -/
structure CheckContext where
  ordinal : Nat
  loc : Loc
  expected : Nat
  received : Nat
  running : Running
  deriving DecidableEq, Repr

/-- A plan slot (Table 8.1). A set of bays is a word of one bit per bay, bit i for bay i. -/
structure Plan where
  state : PlanState
  client : Nat
  object : Nat
  epoch : Epoch
  heldBays : BitVec 4
  scanPos : Option Nat
  scanBays : Option (BitVec 4)
  check : Option CheckContext
  deriving DecidableEq, Repr

/-- A FREE slot (Table 8.1). -/
def Plan.free : Plan :=
  { state := .free, client := 0, object := 0, epoch := 0, heldBays := 0, scanPos := none, scanBays := none,
    check := none }

/-- The Read Plan Builder: 16 slots and the plan epoch counter (R142). -/
structure Rpb where
  plans : Vector Plan 16
  epoch : Epoch
  deriving DecidableEq, Repr

/-! ### Bay Power Controller (chapter 9) -/

/-- Bay states (Table 9.2). -/
inductive BayState where
  | empty | off | queued | spinningUp | ready | spinningDown
  deriving DecidableEq, Repr

/-- Bay timers (Table 9.3). -/
inductive BayTimer where
  | spinUp | idle | spinDown
  deriving DecidableEq, Repr

/-- A bay record (Table 9.1). `present` is the presence line as last taken; `differ` counts the consecutive second
events, up to 2, at which the line showed the other level (R155). -/
structure Bay where
  state : BayState
  streamHolds : Nat
  planHolds : Nat
  manual : Bool
  timer : Option (BayTimer × Nat)
  respin : Bool
  present : Bool
  differ : Nat
  deriving DecidableEq, Repr

/-- A bay right after power-on reset, by what its sense line shows (R155). -/
def Bay.atReset (sense : Bool) : Bay :=
  { state := if sense then .off else .empty, streamHolds := 0, planHolds := 0, manual := false, timer := none,
    respin := false, present := sense, differ := 0 }

/-- The Bay Power Controller: bay records, spin-up queue, standby force. -/
structure Bpc where
  bays : Vector Bay 4
  queue : List Nat
  force : Bool
  deriving DecidableEq, Repr

/-! ### Box Power Controller (chapter 10) -/

/-- Box power states (Table 10.1). -/
inductive PowerState where
  | run | standbyEntry | standby | waking | halted
  deriving DecidableEq, Repr

/-- Wake causes (Table 10.2). -/
inductive WakeCause where
  | powerOn | button
  | network (client : Nat)
  | schedule (client : Nat)
  deriving DecidableEq, Repr

/-- Wake phases (Table 10.2). -/
inductive WakePhase where
  | powered | pause
  deriving DecidableEq, Repr

/-- The three power timers (Table 10.2). -/
inductive PowerTimer where
  | wake | pause | handshake
  deriving DecidableEq, Repr

/-- What abandoned standby entry (R172). -/
inductive StandbyFailure where
  | none | handshakeTimeout
  | due (client : Nat)
  | network (client : Nat)
  | button
  | linkReset
  deriving DecidableEq, Repr

/-- The Box Power Controller (Table 10.2). `returnStandby` is the return state: true for STANDBY. The host power
enable line is a function of the power state and the phase (Table 10.1). -/
structure Bxp where
  power : PowerState
  returnStandby : Bool
  cause : WakeCause
  failures : Nat
  phase : WakePhase
  timer : Option (PowerTimer × Nat)
  sleepAcked : Bool
  lastFailure : StandbyFailure
  due : BitVec 16
  deriving DecidableEq, Repr

/-! ### Network Watch Unit (chapter 11) -/

/-- Pass mode or watch mode. -/
inductive NetMode where
  | pass | watch
  deriving DecidableEq, Repr

/-- A frame of the receive queue with its lost flag. -/
structure RxFrame where
  lost : Bool
  bytes : List Byte
  deriving DecidableEq, Repr

/-- A presence template (Table 11.1). -/
structure Template where
  offset : Nat
  pattern : List Byte
  mask : List Byte
  reply : List Byte
  deriving DecidableEq, Repr

/-- The Network Watch Unit (Table 11.1). `onWire` holds the bytes the MAC is transmitting: a frame
padded to 60 bytes and its frame check sequence (R180). -/
structure Nwu where
  mode : NetMode
  receive : List RxFrame
  transmit : List (List Byte)
  onWire : Option (List Byte)
  templates : Vector (Option Template) 4
  deriving DecidableEq, Repr

/-! ### Table Image Unit (chapter 12) -/

/-- Load states (Table 12.1). -/
inductive LoadState where
  | unloaded | loading | loaded | loadFailed
  deriving DecidableEq, Repr

/-- Where an import stands: the last record applied (section 0 before the first), what of it is still to come in
continuations (`want` members or references; `filterHead` a filter whose mask is still to come), the image records
applied in each of the sections 1 to 9, and the trailer's counts once it has been applied. -/
structure ImportCursor where
  number : Nat
  part : Nat
  want : Nat
  filterHead : Option (Nat × List Byte)
  applied : List Nat
  trailer : Option (List Nat)
  deriving DecidableEq, Repr

/-- An import cursor before the first record. -/
def ImportCursor.start : ImportCursor :=
  { number := 0, part := 0, want := 0, filterHead := none, applied := List.replicate 9 0, trailer := none }

/-- The Table Image Unit. `section_` is the cursor's section code, `moved` the image records returned by the export or
applied by the import, `total` the export total (Table 12.4). -/
structure Tiu where
  load : LoadState
  exporting : Bool
  section_ : Nat
  moved : Nat
  total : Option Nat
  settingsCopy : Settings
  lastBatch : List (List Byte)
  cursor : ImportCursor
  deriving DecidableEq, Repr

/-! ### The part -/

/-- Who raises a fault: no command of the part does. The part has no instruction that could fault and no memory that an
access could miss; every error is a response status or a state of a record, which are next states (safe: a closed
type without constructors proves nothing about the hardware beyond that). -/
inductive Fault where
  deriving DecidableEq, Repr

/-- Why a command is refused. No meaning of the model raises one: every row of the table has its effect. -/
inductive Refusal where
  /-- Raised by exec's arm of a command that has no meaning yet, and by nothing else: safe, since nothing can be
  proved of a command that is refused. No arm raises it now. -/
  | notModelled (mnemonic : String)
  deriving DecidableEq, Repr

/-- The state of the part, and the queue of the commands that wait (`pending`, first in, first out). `free` is the
model's own counter for values the manual does not state (assumptions 3 and 26). -/
structure State where
  pending : List Instr
  slc : Slc
  bck : Bck
  clients : Vector Client 16
  streams : Vector Stream 8
  chunks : Table Chunk
  oct : Oct
  rtu : Rtu
  grants : Table Grant
  rpb : Rpb
  bpc : Bpc
  bxp : Bxp
  nwu : Nwu
  tiu : Tiu
  free : Nat
  deriving DecidableEq, Repr

/-- The part right after power-on reset with the presence sense lines given (R167, R155, R16, R21, R22, R28, R42, R68,
R92, R98, R125, R127, R141, R142, R187, Table 11.1). -/
def State.powerOn (sense : Vector Bool 4) : State where
  pending := []
  slc :=
    { link := .down, startCause := .powerUp, acked := false, receiver := .quiet, places := [], outgoing := [],
      sending := none, deferred := Vector.replicate 8 none, sleepReq := false, wakeOut := false, linkErrors := 0,
      breaks := 0, latched := 0, enables := BitVec.allOnes 11, owed := false, settings := Settings.default }
  bck := { boxTime := 0, clockSet := false }
  clients := Vector.replicate 16 (Client.free 0)
  streams := Vector.replicate 8 Stream.closed
  chunks := []
  oct := { objects := [], colls := [], freePages := Config.poolPages }
  rtu := Rtu.empty
  grants := []
  rpb := { plans := Vector.replicate 16 Plan.free, epoch := 0 }
  bpc := { bays := sense.map Bay.atReset, queue := [], force := false }
  bxp :=
    { power := .waking, returnStandby := false, cause := .powerOn, failures := 0, phase := .powered,
      timer := some (.wake, Config.wakeSeconds), sleepAcked := false, lastFailure := .none, due := 0 }
  nwu := { mode := .watch, receive := [], transmit := [], onWire := none, templates := Vector.replicate 4 none }
  tiu :=
    { load := .unloaded, exporting := false, section_ := 0, moved := 0, total := none,
      settingsCopy := Settings.default, lastBatch := [], cursor := ImportCursor.start }
  free := 0

/-- The part after power-on reset. What the sense lines show is the board's: here they show no drive (assumption 2);
the command POWER_ON_RESET takes any levels. -/
def State.reset : State := State.powerOn (Vector.replicate 4 false)

end Sys2Proof.Machine
end

