-- ==== Sys2Proof/Machine/Bytes.lean ====
section
/-!
DEFINITION. Byte order, the CRC-16 of R1 and the bytes of a packet on the line (Table 1.1).
-/

namespace Sys2Proof.Machine

/-- `n` as `k` bytes, low byte first (Table 1.1, note 1). -/
def le : Nat → Nat → List Byte
  | 0, _ => []
  | k + 1, n => BitVec.ofNat 8 n :: le k (n / 256)

/-- The number that bytes stand for, low byte first. -/
def ofLe : List Byte → Nat
  | [] => 0
  | b :: bs => b.toNat + 256 * ofLe bs

/-- `len` bytes of `p` from offset `off`. -/
def slice (p : List Byte) (off len : Nat) : List Byte := (p.drop off).take len

/-- The field of `len` bytes at offset `off`, low byte first. -/
def field (p : List Byte) (off len : Nat) : Nat := ofLe (slice p off len)

/-- One byte field. -/
abbrev byteAt (p : List Byte) (off : Nat) : Nat := field p off 1

/-- A 2-byte signed field. -/
def signedField (p : List Byte) (off : Nat) : Int := (BitVec.ofNat 16 (field p off 2)).toInt

/-- A signed number as 2 bytes. -/
def leSigned (z : Int) : List Byte := le 2 (BitVec.ofInt 16 z).toNat

/-- A yes-or-no byte. -/
def flagByte (b : Bool) : Byte := if b then 1 else 0

/-- A digest as 32 bytes, byte 0 the most significant (R56). -/
def digestBytes (d : Digest) : List Byte := (List.range 32).map fun i => BitVec.ofNat 8 (d.toNat >>> (8 * (31 - i)))

/-- The digest that 32 bytes stand for, byte 0 the most significant. -/
def digestOf (bs : List Byte) : Digest := BitVec.ofNat 256 (bs.foldl (fun n b => n * 256 + b.toNat) 0)

/-- The bucket of a digest: its first 21 bits (R56). -/
def bucketOf (d : Digest) : Nat := d.toNat >>> 235

/-- One bit of the CRC-16 of R1: generator 1021h, most significant bit first. -/
def crcBit (crc : Half) : Half := if crc.msb then (crc <<< 1) ^^^ 0x1021#16 else crc <<< 1

/-- One byte of the CRC-16 of R1. -/
def crcByte (crc : Half) (b : Byte) : Half :=
  let c := crc ^^^ (b.setWidth 16 <<< 8)
  crcBit (crcBit (crcBit (crcBit (crcBit (crcBit (crcBit (crcBit c)))))))

/-- The check of R1 over the bytes given: initial value FFFFh, not inverted. -/
def crc16 (bs : List Byte) : Half := bs.foldl crcByte 0xFFFF#16

/-- A check stands low byte first (R1). -/
def checkBytes (c : Half) : List Byte := le 2 c.toNat

/-- The 8-byte header of a packet (Table 1.1). -/
def headerBytes (kind tag : Byte) (aux : Half) (length : Nat) : List Byte :=
  let h := kind :: tag :: (le 2 aux.toNat ++ le 2 length)
  h ++ checkBytes (crc16 h)

/-- A long packet of the part: header, payload, payload check (section 1.1). -/
def longPacket (kind tag : Byte) (aux : Half) (payload : List Byte) : List Byte :=
  headerBytes kind tag aux payload.length ++ payload ++ checkBytes (crc16 payload)

/-- The bytes the part sends for a packet: RESPONSE is F0h (R12), ATTENTION F1h with tag and aux 0 (R17), FRAME_IN F2h
with tag 0 and aux 1 for the lost flag (R179). -/
def OutPacket.bytes : OutPacket → List Byte
  | .response _ tag aux payload => longPacket 0xF0#8 tag aux payload
  | .attention => headerBytes 0xF1#8 0#8 0#16 0
  | .frameIn lost frame => longPacket 0xF2#8 0#8 (if lost then 1#16 else 0#16) frame

/-- Zeros after `bs` up to `n` bytes. -/
def padTo (n : Nat) (bs : List Byte) : List Byte := bs ++ List.replicate (n - bs.length) 0#8

/-- One bit of the frame check sequence of an Ethernet frame, the least significant bit first (assumption 22). -/
def fcsBit (r : BitVec 32) : BitVec 32 := if r.getLsbD 0 then r >>> 1 ^^^ 0xEDB88320#32 else r >>> 1

/-- One byte of the frame check sequence. -/
def fcsByte (r : BitVec 32) (b : Byte) : BitVec 32 := (List.range 8).foldl (fun r _ => fcsBit r) (r ^^^ b.setWidth 32)

/-- The frame check sequence of a frame's bytes, as its 4 bytes follow them on the wire (R180, assumption 22). -/
def frameCheck (frame : List Byte) : List Byte := le 4 (~~~ frame.foldl fcsByte (BitVec.allOnes 32)).toNat

/-- Blocks that `length` bytes cover: ceil(length / 4,096). -/
def blocksOf (length : Nat) : Nat := (length + (Config.blockBytes - 1)) / Config.blockBytes

end Sys2Proof.Machine
end

