-- ==== Sys2Proof/Machine/Operands.lean ====
section
/-!
DEFINITION. What a request says and how it is answered: status codes (Table 1.6), packet kinds and their owners
(Table 1.2), batch kinds (Table 1.3), the request that waits for a block (R5, R11), and its fields.
-/

namespace Sys2Proof.Machine

/-- Status codes (Table 1.6), in the order of their values. -/
inductive Status where
  | ok | badPacket | badRequest | badField | broken | reset | notLoaded | imageBusy | noSuch | state | full | poolFull
  | backlog | quota | denied | retiring | addressTaken | ownsRecords | streamsOpen | plansOpen | baysHeld | wakePending
  | staysRun | aborted | writeFailed | bayLost | tooLong | stale | already | halted
  deriving DecidableEq, Repr

/-- The value of a status (Table 1.6). -/
def Status.code : Status → Byte
  | .ok => 0x00#8 | .badPacket => 0x01#8 | .badRequest => 0x02#8 | .badField => 0x03#8 | .broken => 0x04#8
  | .reset => 0x05#8 | .notLoaded => 0x06#8 | .imageBusy => 0x07#8 | .noSuch => 0x08#8 | .state => 0x09#8
  | .full => 0x0A#8 | .poolFull => 0x0B#8 | .backlog => 0x0C#8 | .quota => 0x0D#8 | .denied => 0x0E#8
  | .retiring => 0x0F#8 | .addressTaken => 0x10#8 | .ownsRecords => 0x11#8 | .streamsOpen => 0x12#8
  | .plansOpen => 0x13#8 | .baysHeld => 0x14#8 | .wakePending => 0x15#8 | .staysRun => 0x16#8 | .aborted => 0x17#8
  | .writeFailed => 0x18#8 | .bayLost => 0x19#8 | .tooLong => 0x1A#8 | .stale => 0x1B#8 | .already => 0x1C#8
  | .halted => 0x1D#8

/-- A halt reason as a status (Table 1.6, note 2). -/
def HaltReason.status : HaltReason → Status
  | .quota => .quota | .poolFull => .poolFull | .writeFailed => .writeFailed | .bayLost => .bayLost
  | .tooLong => .tooLong

/-- Blocks that own requests (Table 1.2). -/
inductive Block where
  | slc | bck | clt | cke | cix | oct | rtu | grt | rpb | bpc | bxp | nwu | tiu
  deriving DecidableEq, Repr

/-- Request kinds (Table 1.2), in table order. -/
inductive Kind where
  | linkStatus | noticeRead | noticeClear | noticeMask | settingsRead | settingsWrite
  | clockSet | clockRead
  | clientSet | clientRead | clientRetire | scheduleSet
  | streamOpen | streamData | streamCommit | streamFinish | streamAbort | streamRead
  | chunkRead
  | collectionOpen | collectionClose | memberAdd | memberRemove | collectionRead | membersFetch | objectRead
  | retireCollection
  | releaseTake | walkStatus
  | grantSet | grantClear | grantRead
  | planOpen | planFetch | planCheck | planDone
  | bayHold | bayRelease | bayStatus
  | standbyEnter | returnPrior | powerStatus
  | frameOut | filterSet | templateSet
  | tablesInit | imageExport | imageNext | imageCancel | imageImport | imagePut | imageEnd
  deriving DecidableEq, Repr

/-- The kind byte of a request kind (Table 1.2, note 1). -/
def Kind.code : Kind → Byte
  | .linkStatus => 0x01#8 | .noticeRead => 0x02#8 | .noticeClear => 0x03#8 | .noticeMask => 0x04#8
  | .settingsRead => 0x05#8 | .settingsWrite => 0x06#8
  | .clockSet => 0x10#8 | .clockRead => 0x11#8
  | .clientSet => 0x12#8 | .clientRead => 0x13#8 | .clientRetire => 0x14#8 | .scheduleSet => 0x15#8
  | .streamOpen => 0x20#8 | .streamData => 0x21#8 | .streamCommit => 0x22#8 | .streamFinish => 0x23#8
  | .streamAbort => 0x24#8 | .streamRead => 0x25#8
  | .chunkRead => 0x30#8
  | .collectionOpen => 0x40#8 | .collectionClose => 0x41#8 | .memberAdd => 0x42#8 | .memberRemove => 0x43#8
  | .collectionRead => 0x44#8 | .membersFetch => 0x45#8 | .objectRead => 0x46#8 | .retireCollection => 0x47#8
  | .releaseTake => 0x50#8 | .walkStatus => 0x51#8
  | .grantSet => 0x58#8 | .grantClear => 0x59#8 | .grantRead => 0x5A#8
  | .planOpen => 0x60#8 | .planFetch => 0x61#8 | .planCheck => 0x62#8 | .planDone => 0x63#8
  | .bayHold => 0x70#8 | .bayRelease => 0x71#8 | .bayStatus => 0x72#8
  | .standbyEnter => 0x78#8 | .returnPrior => 0x79#8 | .powerStatus => 0x7A#8
  | .frameOut => 0x80#8 | .filterSet => 0x81#8 | .templateSet => 0x82#8
  | .tablesInit => 0x90#8 | .imageExport => 0x91#8 | .imageNext => 0x92#8 | .imageCancel => 0x93#8
  | .imageImport => 0x94#8 | .imagePut => 0x95#8 | .imageEnd => 0x96#8

/-- Every request kind. -/
def Kind.all : List Kind :=
  [.linkStatus, .noticeRead, .noticeClear, .noticeMask, .settingsRead, .settingsWrite, .clockSet, .clockRead,
   .clientSet, .clientRead, .clientRetire, .scheduleSet, .streamOpen, .streamData, .streamCommit, .streamFinish,
   .streamAbort, .streamRead, .chunkRead, .collectionOpen, .collectionClose, .memberAdd, .memberRemove,
   .collectionRead, .membersFetch, .objectRead, .retireCollection, .releaseTake, .walkStatus, .grantSet, .grantClear,
   .grantRead, .planOpen, .planFetch, .planCheck, .planDone, .bayHold, .bayRelease, .bayStatus, .standbyEnter,
   .returnPrior, .powerStatus, .frameOut, .filterSet, .templateSet, .tablesInit, .imageExport, .imageNext,
   .imageCancel, .imageImport, .imagePut, .imageEnd]

/-- The request kind a kind byte names, if it is a request kind of Table 1.2 (R3). -/
def Kind.ofCode (b : Byte) : Option Kind := Kind.all.find? fun k => decide (k.code = b)

/-- The owning block (Table 1.2). -/
def Kind.owner : Kind → Block
  | .linkStatus | .noticeRead | .noticeClear | .noticeMask | .settingsRead | .settingsWrite => .slc
  | .clockSet | .clockRead => .bck
  | .clientSet | .clientRead | .clientRetire | .scheduleSet => .clt
  | .streamOpen | .streamData | .streamCommit | .streamFinish | .streamAbort | .streamRead => .cke
  | .chunkRead => .cix
  | .collectionOpen | .collectionClose | .memberAdd | .memberRemove | .collectionRead | .membersFetch | .objectRead
  | .retireCollection => .oct
  | .releaseTake | .walkStatus => .rtu
  | .grantSet | .grantClear | .grantRead => .grt
  | .planOpen | .planFetch | .planCheck | .planDone => .rpb
  | .bayHold | .bayRelease | .bayStatus => .bpc
  | .standbyEnter | .returnPrior | .powerStatus => .bxp
  | .frameOut | .filterSet | .templateSet => .nwu
  | .tablesInit | .imageExport | .imageNext | .imageCancel | .imageImport | .imagePut | .imageEnd => .tiu

/-- The entry size of a batch kind, its check included (Table 1.3). -/
def Kind.entrySize : Kind → Option Nat
  | .streamCommit => some 16
  | .memberAdd => some 8
  | .memberRemove => some 8
  | .grantSet => some 16
  | .imagePut => some 64
  | _ => none

/-- Whether a kind carries a batch payload (section 1.2). -/
def Kind.isBatch (k : Kind) : Bool := k.entrySize.isSome

/-- The entry size of the batch kind a kind byte names, if it names one. -/
def entrySizeOf (kind : Byte) : Option Nat := (Kind.ofCode kind).bind Kind.entrySize

/-- A request that waits for its owning block. -/
structure Request where
  slot : Nat
  kind : Kind
  tag : Byte
  aux : Half
  body : Body
  deriving DecidableEq, Repr

/-- The request in a place, if a complete one waits there. -/
def Place.request (p : Place) : Option Request :=
  match p.phase, Kind.ofCode p.kind with
  | .waiting body, some k => some { slot := p.slot, kind := k, tag := p.tag, aux := p.aux, body := body }
  | _, _ => none

/-- The oldest request that waits for the block given (R11: requests for one block are taken in order of arrival). -/
def Slc.offered (slc : Slc) (b : Block) : Option Request :=
  (slc.places.filterMap Place.request).find? fun r => decide (r.kind.owner = b)

/-- The payload of a non-batch request. -/
def Request.payload (r : Request) : List Byte :=
  match r.body with
  | .plain p => p
  | .batch _ _ => []

/-- The good entries of a batch request (R4). -/
def Request.entries (r : Request) : List (List Byte) :=
  match r.body with
  | .plain _ => []
  | .batch es _ => es

/-- Whether every entry of a batch request arrived whole and with a good check (R4). -/
def Request.whole (r : Request) : Bool :=
  match r.body with
  | .plain _ => true
  | .batch _ w => w

/-- Low byte of aux (header byte 2). -/
def Request.auxLow (r : Request) : Nat := r.aux.toNat % 256

/-- High byte of aux (header byte 3). -/
def Request.auxHigh (r : Request) : Nat := r.aux.toNat / 256

/-- aux as a number. -/
abbrev Request.auxNat (r : Request) : Nat := r.aux.toNat

/-- The payload has the length stated for its kind (R11). -/
abbrev Request.hasLength (r : Request) (n : Nat) : Bool := decide (r.payload.length = n)

/-- The status of the first check that fails, in order; none when every check passes. A check is written with the
condition under which it FAILS. -/
def firstFail : List (Bool × Status) → Option Status
  | [] => none
  | (fails, st) :: rest => if fails then some st else firstFail rest

/-- The good entries of a batch: entries of `size` bytes up to the first that is incomplete or whose entry check is bad
(R4). `fuel` bounds the number of entries. -/
def goodEntries (size : Nat) : Nat → List Byte → List (List Byte)
  | 0, _ => []
  | fuel + 1, bs =>
    let e := bs.take size
    if e.length = size ∧ field e (size - 2) 2 = (crc16 (e.take (size - 2))).toNat then
      e :: goodEntries size fuel (bs.drop size)
    else []

/-- The body of a batch packet of which `bytes` arrived; `complete` says that its stated length did (R4). -/
def batchBody (size : Nat) (bytes : List Byte) (complete : Bool) : Body :=
  let es := goodEntries size bytes.length bytes
  .batch es (complete && decide (es.length * size = bytes.length))

/-- LOADED outside an export (Table 12.1, R187). -/
def State.loaded (s : State) : Bool := decide (s.tiu.load = .loaded)

/-- The gate of the requests that read records: NOT_LOADED outside LOADED. -/
def readGate (s : State) : List (Bool × Status) := [(!s.loaded, .notLoaded)]

/-- The gate of the requests that change records: NOT_LOADED outside LOADED, IMAGE_BUSY during an export. -/
def changeGate (s : State) : List (Bool × Status) := [(!s.loaded, .notLoaded), (s.tiu.exporting, .imageBusy)]

/-- Client record `n` as it stands. -/
abbrev State.client (s : State) (n : Nat) : Client := slot (Client.free 0) s.clients n

/-- Stream context `n` as it stands. -/
abbrev State.stream (s : State) (n : Nat) : Stream := slot Stream.closed s.streams n

/-- Plan slot `n` as it stands. -/
abbrev State.plan (s : State) (n : Nat) : Plan := slot Plan.free s.rpb.plans n

/-- Bay record `n` as it stands. -/
abbrev State.bay (s : State) (n : Nat) : Bay := slot (Bay.atReset false) s.bpc.bays n

/-- Chunk entry of handle `h` as it stands. -/
abbrev State.chunk (s : State) (h : Nat) : Chunk := Table.read Chunk.empty s.chunks h

/-- Object record `n` as it stands. -/
abbrev State.object (s : State) (n : Nat) : Obj := Table.read Obj.free s.oct.objects n

/-- Collection record `n` as it stands. -/
abbrev State.coll (s : State) (n : Nat) : Coll := Table.read Coll.free s.oct.colls n

/-- Grant record `n` as it stands. -/
abbrev State.grant (s : State) (n : Nat) : Grant := Table.read Grant.free s.grants n

/-- The state with client record `n` set. -/
abbrev State.setClient (s : State) (n : Nat) (c : Client) : State := { s with clients := put s.clients n c }

/-- The state with stream context `n` set. -/
abbrev State.setStream (s : State) (n : Nat) (x : Stream) : State := { s with streams := put s.streams n x }

/-- The state with plan slot `n` set. -/
abbrev State.setPlan (s : State) (n : Nat) (p : Plan) : State := { s with rpb.plans := put s.rpb.plans n p }

/-- The state with chunk entry `h` set. -/
abbrev State.setChunk (s : State) (h : Nat) (c : Chunk) : State :=
  { s with chunks := Table.write Chunk.empty s.chunks h c }

/-- The state with object record `n` set. -/
abbrev State.setObject (s : State) (n : Nat) (o : Obj) : State :=
  { s with oct.objects := Table.write Obj.free s.oct.objects n o }

/-- The state with collection record `n` set. -/
abbrev State.setColl (s : State) (n : Nat) (c : Coll) : State :=
  { s with oct.colls := Table.write Coll.free s.oct.colls n c }

/-- The state with grant record `n` set. -/
abbrev State.setGrant (s : State) (n : Nat) (g : Grant) : State :=
  { s with grants := Table.write Grant.free s.grants n g }

/-- `n` bytes whose content the manual does not state (assumption 3). -/
def State.freeBytes (s : State) (n : Nat) : List Byte := (List.range n).map fun i => Config.freeByte (s.free + i)

/-- The counter past `n` such bytes. -/
def State.spend (s : State) (n : Nat) : State := { s with free := s.free + n }

end Sys2Proof.Machine
end

