-- ==== Sys2Proof/Machine/Flags.lean ====
section
/-!
DEFINITION. The notices (Table 1.7, R16): latched flags, level conditions, the pending set and the pending enabled set.
-/

namespace Sys2Proof.Machine

/-- The eleven notices in priority order (Table 1.7). -/
inductive Notice where
  | damageFound | walkPaused | releaseReady | streamHalted
  | standbyFailed | scheduleDue | button | bayChanged | planReady
  | imageDone | clockUnset
  deriving DecidableEq, Repr

/-- The bit of a notice in a set: bit 0 for DAMAGE_FOUND to bit 10 for CLOCK_UNSET (R16). -/
def Notice.bit : Notice → Nat
  | .damageFound => 0 | .walkPaused => 1 | .releaseReady => 2 | .streamHalted => 3
  | .standbyFailed => 4 | .scheduleDue => 5 | .button => 6 | .bayChanged => 7 | .planReady => 8
  | .imageDone => 9 | .clockUnset => 10

/-- The codes of the notices, group × 16 + number, in priority order (R16). -/
def noticeCodes : List Byte :=
  [0x11#8, 0x12#8, 0x13#8, 0x14#8, 0x21#8, 0x22#8, 0x23#8, 0x24#8, 0x25#8, 0x31#8, 0x32#8]

/-- A set of one notice. -/
def Notice.set (n : Notice) : BitVec 11 := 1#11 <<< n.bit

/-- The latched notices (Table 1.7): DAMAGE_FOUND, STANDBY_FAILED, BUTTON, BAY_CHANGED, PLAN_READY, IMAGE_DONE. -/
def latchedNotices : BitVec 11 :=
  Notice.damageFound.set ||| Notice.standbyFailed.set ||| Notice.button.set ||| Notice.bayChanged.set
    ||| Notice.planReady.set ||| Notice.imageDone.set

/-- A set of one notice, or the empty set. -/
def Notice.setIf (n : Notice) (b : Bool) : BitVec 11 := if b then n.set else 0#11

/-- The level notices whose conditions hold (Table 1.7). -/
def State.levelNotices (s : State) : BitVec 11 :=
  Notice.walkPaused.setIf (decide (s.rtu.walk = .paused))
    ||| Notice.releaseReady.setIf (!s.rtu.release.isEmpty)
    ||| Notice.streamHalted.setIf (s.streams.toList.any fun x => decide (x.state = .halted))
    ||| Notice.scheduleDue.setIf (decide (s.bxp.due ≠ 0#16))
    ||| Notice.clockUnset.setIf (!s.bck.clockSet)

/-- The pending set (R16). -/
def State.pendingNotices (s : State) : BitVec 11 := s.slc.latched ||| s.levelNotices

/-- The pending enabled set (R16). -/
def State.pendingEnabled (s : State) : BitVec 11 := s.pendingNotices &&& s.slc.enables

/-- The code of the highest-priority notice of a set; 00h for the empty set (R18). -/
def topNotice (set : BitVec 11) : Byte :=
  ((List.range 11).find? fun i => set.getLsbD i).elim 0#8 fun i => noticeCodes.getD i 0#8

/-- A set of notices as 2 bytes; bits 11 to 15 are 0 (R16). -/
def noticeBytes (set : BitVec 11) : List Byte := le 2 set.toNat

/-- The set of notices that 2 bytes carry; bits 11 to 15 are not examined (R16). -/
def noticeSet (p : List Byte) : BitVec 11 := BitVec.ofNat 11 (field p 0 2)

/-- The owning block reports the latching event of a notice (R16): its flag is set, enabled or not. -/
def latch (n : Notice) (s : State) : State := { s with slc.latched := s.slc.latched ||| n.set }

end Sys2Proof.Machine
end

