-- ==== Sys2Proof/Machine/Ops.lean ====
section
/-!
DEFINITION. The operations every command shares: answering a request (R12), ATTENTION (R17), the link's entries to
ACTIVE and DOWN (R6, R17), and the shape of a step: a change of the state, then what the SLC does at it.
-/

namespace Sys2Proof.Machine

/-! ### Answering -/

/-- A response is placed in the outgoing queue; the place it answers waits for it to be sent (R5, R14). -/
def Slc.answer (slc : Slc) (place : Nat) (tag : Byte) (aux : Half) (payload : List Byte) : Slc :=
  { slc with
    places := slc.places.map fun p => if p.slot = place then { p with phase := .answered } else p
    outgoing := slc.outgoing ++ [.response (some place) tag aux payload] }

/-- The response to a request: status, kind and result record (R12, Table 1.5). -/
def answer (r : Request) (st : Status) (result : List Byte) (s : State) : State :=
  { s with slc := s.slc.answer r.slot r.tag r.aux (st.code :: r.kind.code :: result) }

/-- A refusal: an empty result record, or an applied count of 0 for a batch (R4, R12). -/
def refuse (r : Request) (st : Status) (s : State) : State :=
  answer r st (if r.kind.isBatch then [0#8, 0#8] else []) s

/-- The response to a batch whose entries were taken (R4): applied, the entry statuses, and OK or BROKEN. -/
def answerBatch (r : Request) (statuses : List Status) (s : State) : State :=
  answer r (if r.whole then .ok else .broken) (le 2 statuses.length ++ statuses.map Status.code) s

/-- A request is checked in order; the first check that fails gives its status, and it has no effect. -/
def guarded (checks : List (Bool × Status)) (r : Request) (effect : State → State) (s : State) : State :=
  match firstFail checks with
  | some st => refuse r st s
  | none => effect s

/-! ### The outgoing line -/

/-- An ATTENTION is placed in the outgoing queue unless one waits there unsent (R17). Whether one that is partly sent still
waits there R17 does not say: the model takes a packet off the queue at its start, so a second one is placed (DESIGN
CHOICE, assumption 11). -/
def Slc.placeAttention (slc : Slc) : Slc :=
  if .attention ∈ slc.outgoing then slc else { slc with outgoing := slc.outgoing ++ [.attention] }

/-- Whether an ATTENTION that is discarded now was unsent: in the queue, or partly sent (assumption 11). -/
def Slc.attentionUnsent (slc : Slc) : Bool :=
  decide (.attention ∈ slc.outgoing) || decide (slc.sending = some .attention)

/-- The link enters ACTIVE (R17): an ATTENTION is placed if the pending enabled set is non-empty and either the owed
flag is set or the entry is from TRAINING; the owed flag is then cleared in every case. -/
def Slc.enterActive (slc : Slc) (pendingEnabled : BitVec 11) (fromTraining : Bool) : Slc :=
  let slc := { slc with link := .active }
  let slc := if pendingEnabled ≠ 0#11 ∧ (slc.owed || fromTraining) then slc.placeAttention else slc
  { slc with owed := false }

/-- The link enters ACTIVE. -/
def enterActive (fromTraining : Bool) (s : State) : State :=
  { s with slc := s.slc.enterActive s.pendingEnabled fromTraining }

/-- The part signals WAKE and the link enters ACTIVE (R7, R8). -/
def partWake (s : State) : State :=
  let s := enterActive false s
  { s with slc.wakeOut := true }

/-- What link reset and entry to DOWN do alike (R5, R6, R9): the partial packet is dropped, the buffer freed, the
outgoing queue and the deferred responses discarded, SLEEP_REQ withdrawn. An ATTENTION discarded unsent becomes owed. -/
def Slc.drop (slc : Slc) : Slc :=
  { slc with
    receiver := .quiet
    places := []
    outgoing := []
    sending := none
    deferred := Vector.replicate 8 none
    sleepReq := false
    owed := slc.owed || slc.attentionUnsent }

/-- Removal of host power takes the link to DOWN (R6), and the receive queue is emptied (R179). -/
def linkDown (s : State) : State :=
  { s with
    slc := { s.slc.drop with link := .down }
    nwu.receive := [] }

/-- The deferred response of stream `i` is placed in the outgoing queue with the status given (R13); nothing is placed
when none is kept. It carries the kind of STREAM_FINISH and no result record. -/
def sendDeferred (i : Nat) (st : Status) (s : State) : State :=
  match slot none s.slc.deferred i with
  | none => s
  | some (tag, aux) =>
    { s with
      slc.deferred := put s.slc.deferred i none
      slc.outgoing := s.slc.outgoing ++ [.response none tag aux [st.code, Kind.streamFinish.code]] }

/-! ### The shape of a step -/

/-- R17, first half: the pending enabled set went from empty to non-empty in a step. -/
def noticeChange (before after : State) : State :=
  if before.pendingEnabled = 0#11 ∧ after.pendingEnabled ≠ 0#11 then
    match after.slc.link with
    | .active => { after with slc := after.slc.placeAttention }
    | .idle => { after with slc := after.slc.placeAttention }
    | _ => { after with slc.owed := true }
  else after

/-- R7: a packet to send while the link is IDLE makes the part signal WAKE. -/
def wakeForPacket (s : State) : State :=
  if s.slc.link = .idle ∧ ¬ (s.slc.outgoing = [] ∧ s.nwu.receive = []) then partWake s else s

/-- What the SLC does at the end of a step that changed `before` into `after`. -/
def settle (before after : State) : State := wakeForPacket (noticeChange before after)

/-- The state with no WAKE signal from the part: the signal lasts one step. -/
def State.quiet (s : State) : State := { s with slc.wakeOut := false }

/-- One step: the change of the state, then what the SLC does at it. -/
def event (change : State → State) (s : State) : Host.Outcome State Fault Refusal :=
  .next (settle s.quiet (change s.quiet))

/-- The owning block takes its oldest waiting request, when that request is of the kind and form given; otherwise this
step does not take place now (assumption 1). -/
def take (k : Kind) (form : Request → Bool) (effect : Request → State → State) (s : State) :
    Host.Outcome State Fault Refusal :=
  event (fun s => match s.slc.offered k.owner with
    | some r => if r.kind = k ∧ form r then effect r s else s
    | none => s) s

/-- Any form of a request. -/
def anyForm (_ : Request) : Bool := true

end Sys2Proof.Machine
end

