-- ==== Sys2Proof/Machine/BayOps.lean ====
section
/-!
DEFINITION. The Bay Power Controller's shared operations (chapter 9): draw and budget, the spin-up queue, holds and
releases, the standby force, the timers and the presence lines at a second event. Lengths of timers and the budget are
read from the settings record at the event (R159, section 9.4).
-/

namespace Sys2Proof.Machine

/-- Draw of a bay state, in units (Table 9.2). -/
def BayState.draw : BayState → Nat
  | .empty => 0 | .off => 0 | .queued => 0 | .spinningUp => Config.spinUpDraw | .ready => 2 | .spinningDown => 2

/-- Power switch of a bay in a state (Table 9.2): off in EMPTY, OFF and QUEUED, on in the others. -/
def BayState.powered : BayState → Bool
  | .empty => false | .off => false | .queued => false | .spinningUp => true | .ready => true | .spinningDown => true

/-- hold_count (Table 9.1). -/
def Bay.holdCount (b : Bay) : Nat := b.streamHolds + b.planHolds + (if b.manual then 1 else 0)

/-- Bay `i` of the controller. -/
abbrev Bpc.bay (b : Bpc) (i : Nat) : Bay := slot (Bay.atReset false) b.bays i

/-- The output bay power switch `i` (Table 0.1): the drive in the bay has power. It follows the bay's state (Table 9.2), so
the entries to OFF and QUEUED at the end of a spin-down (R163) and to EMPTY at a loss (R164) turn it off. -/
def Bpc.switchOn (b : Bpc) (i : Nat) : Bool := (b.bay i).state.powered

/-- The controller with bay `i` set. -/
abbrev Bpc.setBay (b : Bpc) (i : Nat) (x : Bay) : Bpc := { b with bays := put b.bays i x }

/-- Total draw over the four bays (R159). -/
def Bpc.totalDraw (b : Bpc) : Nat := (b.bays.toList.map fun x => x.state.draw).sum

/-- A bay begins its spin-up (R160). -/
def Bay.startSpinUp (cfg : Settings) (x : Bay) : Bay :=
  { x with state := .spinningUp, timer := some (.spinUp, cfg.spinUp) }

/-- A bay begins its spin-down (R162, R165). -/
def Bay.startSpinDown (cfg : Settings) (x : Bay) : Bay :=
  { x with state := .spinningDown, timer := some (.spinDown, cfg.spinDown) }

/-- The idle timer of a READY bay starts; with idle_seconds 0 none does (R162). -/
def Bay.startIdle (cfg : Settings) (x : Bay) : Bay :=
  { x with timer := if cfg.idle = 0 then none else some (.idle, cfg.idle) }

/-- A READY bay that nothing holds: the idle timer starts, or the forced spin-down acts (R157, R161, R165). -/
def Bay.letDown (cfg : Settings) (force : Bool) (x : Bay) : Bay :=
  if force then x.startSpinDown cfg else x.startIdle cfg

/-- Heads of the queue start while they fit the budget; the first that does not fit ends the examination (R160). -/
def Bpc.startHeads (cfg : Settings) (b : Bpc) : List Nat → Bpc
  | [] => { b with queue := [] }
  | i :: rest =>
    if b.totalDraw + Config.spinUpDraw ≤ cfg.budget then
      Bpc.startHeads cfg (b.setBay i ((b.bay i).startSpinUp cfg)) rest
    else { b with queue := i :: rest }

/-- An examination of the spin-up queue (R160). -/
def Bpc.examine (cfg : Settings) (b : Bpc) : Bpc := Bpc.startHeads cfg b b.queue

/-- The bay joins the queue at its tail, and the queue is examined (R156, R160). -/
def Bpc.joinQueue (cfg : Settings) (i : Nat) (b : Bpc) : Bpc :=
  let b := b.setBay i { b.bay i with state := .queued }
  Bpc.examine cfg { b with queue := b.queue ++ [i] }

/-- Kinds of hold (R156). -/
inductive HoldKind where
  | stream | plan | manual
  deriving DecidableEq, Repr

/-- The count of a kind of hold. -/
def Bay.count (x : Bay) : HoldKind → Nat
  | .stream => x.streamHolds
  | .plan => x.planHolds
  | .manual => if x.manual then 1 else 0

/-- The bay with one hold more of the kind. -/
def Bay.addHold (x : Bay) : HoldKind → Bay
  | .stream => { x with streamHolds := x.streamHolds + 1 }
  | .plan => { x with planHolds := x.planHolds + 1 }
  | .manual => { x with manual := true }

/-- The bay with one hold less of the kind. -/
def Bay.dropHold (x : Bay) : HoldKind → Bay
  | .stream => { x with streamHolds := x.streamHolds - 1 }
  | .plan => { x with planHolds := x.planHolds - 1 }
  | .manual => { x with manual := false }

/-- A hold arrives at a bay that is not EMPTY (R156). -/
def Bpc.hold (cfg : Settings) (k : HoldKind) (i : Nat) (b : Bpc) : Bpc :=
  let x := (b.bay i).addHold k
  match x.state with
  | .off => Bpc.joinQueue cfg i (b.setBay i x)
  | .ready => b.setBay i { x with timer := none }
  | .spinningDown => b.setBay i { x with respin := true }
  | _ => b.setBay i x

/-- Whether a hold at the bay is answered BAY_LOST: it is EMPTY (R156). -/
def Bpc.isEmpty (b : Bpc) (i : Nat) : Bool := decide ((b.bay i).state = .empty)

/-- A release arrives (R157). A release of a kind whose count is 0 is dropped. -/
def Bpc.release (cfg : Settings) (k : HoldKind) (i : Nat) (b : Bpc) : Bpc :=
  if (b.bay i).count k = 0 then b
  else
    let x := (b.bay i).dropHold k
    if x.holdCount ≠ 0 then b.setBay i x
    else match x.state with
      | .queued => Bpc.examine cfg { b.setBay i { x with state := .off } with queue := b.queue.filter (· ≠ i) }
      | .ready => b.setBay i (x.letDown cfg b.force)
      | .spinningDown => b.setBay i { x with respin := false }
      | _ => b.setBay i x

/-- The standby force is set: every READY bay that nothing holds spins down at once (R165). -/
def Bpc.setForce (cfg : Settings) (b : Bpc) : Bpc :=
  { b with
    force := true
    bays := b.bays.map fun x => if x.state = .ready ∧ x.holdCount = 0 then x.startSpinDown cfg else x }

/-- The standby force is withdrawn for RUN: a READY bay that nothing holds starts its idle timer (R165). -/
def Bpc.withdrawForRun (cfg : Settings) (b : Bpc) : Bpc :=
  { b with
    force := false
    bays := b.bays.map fun x => if x.state = .ready ∧ x.holdCount = 0 then x.startIdle cfg else x }

/-- Every bay is OFF or EMPTY (R171). -/
def Bpc.allStopped (b : Bpc) : Bool :=
  b.bays.toList.all fun x => decide (x.state = .off) || decide (x.state = .empty)

/-- One second event counts on a timer; a timer at 0 waits for its expiry to be taken (R23). -/
def tickTimer {τ : Type} (t : Option (τ × Nat)) : Option (τ × Nat) := t.map fun p => (p.1, p.2 - 1)

/-- A second event at a bay: its timer counts, and the sense line is sampled. A level shown at two consecutive second
events is a change the BPC takes (R155). -/
def Bay.second (line : Bool) (x : Bay) : Bay :=
  { x with
    timer := tickTimer x.timer
    differ := if x.differ = 2 then 2 else if line = x.present then 0 else x.differ + 1 }

/-- A second event at the Bay Power Controller (R23, R155). -/
def Bpc.second (sense : Vector Bool 4) (b : Bpc) : Bpc :=
  { b with bays := Vector.zipWith Bay.second sense b.bays }

/-- The presence of a drive is lost at a bay (R164): power off, timer and respin discarded, holds zeroed, the bay leaves
the queue, and the queue is examined. -/
def Bpc.lose (cfg : Settings) (i : Nat) (b : Bpc) : Bpc :=
  let b := b.setBay i { Bay.atReset false with differ := 0 }
  Bpc.examine cfg { b with queue := b.queue.filter (· ≠ i) }

/-- The presence of a drive arrives at an EMPTY bay (R164). -/
def Bpc.arrive (i : Nat) (b : Bpc) : Bpc := b.setBay i (Bay.atReset true)

/-- The kind of hold placed on a bay from another block's operation. -/
def holdBay (k : HoldKind) (i : Nat) (s : State) : State := { s with bpc := s.bpc.hold s.slc.settings k i }

/-- The release of a hold from another block's operation. -/
def releaseBay (k : HoldKind) (i : Nat) (s : State) : State := { s with bpc := s.bpc.release s.slc.settings k i }

end Sys2Proof.Machine
end

