-- ==== Sys2Proof/Machine/PowerOps.lean ====
section
/-!
DEFINITION. The Box Power Controller's shared operations (chapter 10): entry to RUN with the forwarding of held frames
(R184), acceptance, completion and abandonment of standby entry (R171, R172), wakes (R173), the due evaluation
(R176), and the power record (Table 10.4).
-/

namespace Sys2Proof.Machine

/-- Whether the host power enable line is on (Table 10.1). -/
def Bxp.hostPowered (b : Bxp) : Bool :=
  match b.power with
  | .run => true
  | .standbyEntry => true
  | .standby => false
  | .waking => decide (b.phase = .powered)
  | .halted => false

/-- The frames of one client's hold as they are forwarded: the first carries the lost flag for a hold in LOST (R184). -/
def Client.forwarded (c : Client) : List RxFrame :=
  match c.held with
  | [] => []
  | f :: rest => { lost := decide (c.holdStatus = .lost), bytes := f } :: rest.map fun g => { lost := false, bytes := g }

/-- The frames forwarded, clients 0 to 15 in ascending order (R184). -/
def State.forwarded (s : State) : List RxFrame := (s.clients.toList.map Client.forwarded).flatten

/-- The NWU enters PASS and forwards the held frames as one event; every hold becomes EMPTY (R184). -/
def forwardHeld (s : State) : State :=
  { s with
    nwu.mode := .pass
    nwu.receive := s.nwu.receive ++ s.forwarded
    clients := s.clients.map fun c => { c with holdStatus := .empty, held := [] } }

/-- The box enters RUN: the power timer is discarded, and the NWU passes and forwards (R168, R172, R184). -/
def enterRun (s : State) : State :=
  forwardHeld { s with bxp.power := .run, bxp.timer := none }

/-- The NWU enters WATCH: the receive queue is emptied (R171, R179). -/
def enterWatch (s : State) : State := { s with nwu.mode := .watch, nwu.receive := [] }

/-- Standby entry is accepted (R171): STANDBY_ENTRY, the standby force, SLEEP_REQ, the handshake timer, watch mode. -/
def acceptStandby (s : State) : State :=
  enterWatch
    { s with
      bxp.power := .standbyEntry
      bxp.sleepAcked := false
      bxp.timer := some (.handshake, Config.handshakeSeconds)
      bpc := s.bpc.setForce s.slc.settings
      slc.sleepReq := true }

/-- Sleep is acknowledged and every bay is OFF or EMPTY, in STANDBY_ENTRY (R171). -/
def State.standbyReady (s : State) : Bool :=
  decide (s.bxp.power = .standbyEntry) && s.bxp.sleepAcked && s.bpc.allStopped

/-- Entry to STANDBY (R171): host power is removed, the force withdrawn, the return state becomes RUN. -/
def enterStandby (s : State) : State :=
  linkDown { s with bxp.power := .standby, bxp.timer := none, bxp.returnStandby := false, bpc.force := false }

/-- The box enters STANDBY at the first event at which it may (R171). -/
def completeStandby (s : State) : State := if s.standbyReady then enterStandby s else s

/-- Standby entry is abandoned (R172, R8, R165). -/
def abandonStandby (why : StandbyFailure) (s : State) : State :=
  let s := { s with
    bxp.lastFailure := why
    bpc := s.bpc.withdrawForRun s.slc.settings
    slc.sleepReq := false }
  let s := latch .standbyFailed (enterRun s)
  if s.slc.link = .sleep then partWake s else s

/-- A wake begins (R169, R173): host power on, phase POWERED, the wake timer, failure count 0. -/
def startWake (cause : WakeCause) (toStandby : Bool) (s : State) : State :=
  { s with
    bxp.power := .waking
    bxp.phase := .powered
    bxp.timer := some (.wake, Config.wakeSeconds)
    bxp.failures := 0
    bxp.cause := cause
    bxp.returnStandby := toStandby }

/-- A due flag of client `c` rises (R172, R173, R176). -/
def dueRise (c : Nat) (s : State) : State :=
  match s.bxp.power with
  | .standby => startWake (.schedule c) true s
  | .standbyEntry => abandonStandby (.due c) s
  | _ => s

/-- A frame is held for client `c` (R172, R173, R182). -/
def frameHeldReport (c : Nat) (s : State) : State :=
  match s.bxp.power with
  | .standby => startWake (.network c) true s
  | .standbyEntry => abandonStandby (.network c) s
  | _ => s

/-- The due condition of a client at box time `t` (R176): t + lead_seconds, without wrap, is not less than next_due. -/
def Client.isDue (t : Nat) (c : Client) : Bool :=
  match c.schedule with
  | none => false
  | some sch => decide (sch.nextDue ≤ t + sch.lead)

/-- The due flag of client `c`. -/
def Bxp.dueFlag (b : Bxp) (c : Nat) : Bool := b.due.getLsbD c

/-- A word of 16 flags with flag `c` as given. -/
def setFlag (w : BitVec 16) (c : Nat) (v : Bool) : BitVec 16 :=
  if v then w ||| (1#16 <<< c) else w &&& ~~~(1#16 <<< c)

/-- The due flag of client `c` is cleared (R31, R39). -/
def dropDue (c : Nat) (s : State) : State := { s with bxp.due := setFlag s.bxp.due c false }

/-- The flags after the evaluation of the clients listed. -/
def State.evaluatedDue (s : State) (cs : List Nat) : BitVec 16 :=
  cs.foldl (fun w c => setFlag w c ((s.client c).isDue s.bck.boxTime)) s.bxp.due

/-- The first of the clients listed whose flag rises. R173 names the lowest-numbered for the wake cause; for the last
standby failure (R172) no rule says which of several is recorded, and the model takes the same (DESIGN CHOICE,
assumption 28). -/
def State.firstRise (s : State) (cs : List Nat) : Option Nat :=
  cs.find? fun c => (s.client c).isDue s.bck.boxTime && !s.bxp.dueFlag c

/-- The BXP evaluates the clients listed, in ascending number (R176): in LOADED each flag takes the result, and a rise
wakes the box from STANDBY or abandons standby entry. R176 gives that order for a second event only; at a CLOCK_SET or
where the tables become LOADED it is the model's, and it decides the client of the last standby failure when several flags
rise in STANDBY_ENTRY (DESIGN CHOICE, assumption 28). -/
def evaluateDue (cs : List Nat) (s : State) : State :=
  if s.loaded then
    let rise := s.firstRise cs
    let s := { s with bxp.due := s.evaluatedDue cs }
    match rise with
    | some c => dueRise c s
    | none => s
  else s

/-- Every client number. -/
def allClients : List Nat := List.range 16

/-- The ACTIVE clients with a schedule (R176, evaluation at a second event). -/
def State.scheduledClients (s : State) : List Nat :=
  numbersWhere (fun c : Client => c.active && c.schedule.isSome) s.clients

/-- The BPC reports a bay that became OFF or EMPTY (R163, R164, R171). -/
def bayReport (s : State) : State := completeStandby s

/-! ### The power record -/

/-- Power states as the record shows them (Table 10.4). -/
def PowerState.code : PowerState → Byte
  | .run => 0#8 | .standbyEntry => 1#8 | .standby => 2#8 | .waking => 3#8 | .halted => 4#8

/-- Wake cause and its client, 2 bytes (Table 10.4). -/
def WakeCause.bytes : WakeCause → List Byte
  | .powerOn => [0#8, 0#8]
  | .button => [1#8, 0#8]
  | .network c => 2#8 :: le 1 c
  | .schedule c => 3#8 :: le 1 c

/-- Last standby failure, its source and its client, 3 bytes (Table 10.4). Where the failure names no client the table
states no content for the third; it is `open_` (assumption 3). -/
def StandbyFailure.bytes (open_ : List Byte) : StandbyFailure → List Byte
  | .none => [0#8, 0#8] ++ open_
  | .handshakeTimeout => [1#8, 0#8] ++ open_
  | .due c => [2#8, 1#8] ++ le 1 c
  | .network c => [2#8, 2#8] ++ le 1 c
  | .button => [2#8, 3#8] ++ open_
  | .linkReset => [3#8, 0#8] ++ open_

/-- A set of numbers below 16 as 2 bytes, bit i for number i. -/
def setBytes (p : Nat → Bool) : List Byte := le 2 (((List.range 16).filter p).map (2 ^ ·)).sum

/-- The manual holds, bit i for bay i (Table 10.4). -/
def Bpc.manualSet (b : Bpc) : Nat := (((List.range 4).filter fun i => (b.bay i).manual).map (2 ^ ·)).sum

/-- Streams that are not CLOSED. -/
def State.streamCount (s : State) : Nat := (s.streams.toList.filter fun x => decide (x.state ≠ .closed)).length

/-- Plans that are not FREE. -/
def State.planCount (s : State) : Nat := (s.rpb.plans.toList.filter fun x => decide (x.state ≠ .free)).length

/-- The BUTTON notice is latched (R170). -/
def State.buttonLatched (s : State) : Bool := s.slc.latched.getLsbD Notice.button.bit

/-- Some frame hold is not EMPTY (R170). -/
def State.anyHold (s : State) : Bool := s.clients.toList.any fun c => decide (c.holdStatus ≠ .empty)

/-- Checks 3 to 7 of R170. -/
def entryChecks (s : State) : List (Bool × Status) :=
  [(decide (s.tiu.load = .loading) || s.tiu.exporting, .imageBusy),
   (decide (0 < s.streamCount), .streamsOpen),
   (decide (0 < s.planCount), .plansOpen),
   (s.bpc.bays.toList.any Bay.manual, .baysHeld),
   (decide (s.bxp.due ≠ 0#16) || s.anyHold || s.buttonLatched, .wakePending)]

/-- The status checks 3 to 7 of R170 would give now (Table 10.4, byte 17). -/
def State.entryStatus (s : State) : Status := (firstFail (entryChecks s)).getD .ok

/-- The power record of 20 bytes (Table 10.4). -/
def State.powerRecord (s : State) : List Byte :=
  let b := s.bxp
  [b.power.code, flagByte b.returnStandby] ++ b.cause.bytes ++ le 1 b.failures
    ++ b.lastFailure.bytes (s.freeBytes 1) ++ le 2 b.due.toNat
    ++ setBytes (fun c => decide ((s.client c).holdStatus ≠ .empty)) ++ le 1 s.streamCount ++ le 1 s.planCount
    ++ le 1 s.bpc.manualSet ++ [flagByte s.buttonLatched, flagByte b.sleepAcked, s.entryStatus.code]
    ++ le 2 ((b.timer.map (·.2)).getD 0)

end Sys2Proof.Machine
end

