-- ==== Sys2Proof/Machine/RecordOps.lean ====
section
/-!
DEFINITION. Shared operations over the records: charges and refunds (R34, R35), the page pool (R91), recipes and member
lists, retire orders and the walk's choice of an order (R111, R112), the release and deferred release lists (R117, R121,
R122), decrements (R85), and the settlement of handles with the completion of streams (R52, R61).
-/

namespace Sys2Proof.Machine

/-! ### Charges and refunds -/

/-- Answers to a charge (R34). -/
inductive ChargeAnswer where
  | ok | quota | noSuch
  deriving DecidableEq, Repr

/-- How the Client Table decides a charge of `length` to (c, g) (R34). -/
def State.chargeAnswer (s : State) (c g length : Nat) : ChargeAnswer :=
  let x := s.client c
  if ¬ (x.active ∧ x.generation = g) then .noSuch
  else match x.quota with
    | none => .ok
    | some q => if x.charged + length ≤ q * Config.mib then .ok else .quota

/-- A charge that is answered OK increases charged; another leaves it (R34). -/
def charge (c g length : Nat) (s : State) : State :=
  if s.chargeAnswer c g length = .ok then s.setClient c { s.client c with charged := (s.client c).charged + length }
  else s

/-- A refund: applied when the record is ACTIVE with the generation given, dropped otherwise (R35). -/
def refund (c g length : Nat) (s : State) : State :=
  let x := s.client c
  if x.active ∧ x.generation = g then s.setClient c { x with charged := x.charged - length } else s

/-- A refund to a payer, if there is one. -/
def refundPayer (payer : Option (Nat × Nat)) (length : Nat) (s : State) : State :=
  match payer with
  | none => s
  | some (c, g) => refund c g length s

/-! ### The page pool -/

/-- Pages that a list of `slots` slots occupies (section 5.1). -/
def pagesOf (slots : Nat) : Nat := (slots + (Config.pageSlots - 1)) / Config.pageSlots

/-- Slots of a reference (Table 5.3). -/
def Ref.slots : Ref → Nat
  | .indexed _ => 1
  | .priv _ _ _ _ => 6

/-- Slots of a recipe. -/
def recipeSlots (r : List Ref) : Nat := (r.map Ref.slots).sum

/-- Slots of a member list: members and reserved slots share one page count (Table 5.5, note 1). -/
def Coll.slots (c : Coll) : Nat := c.members.length + c.reserved

/-- Whether the pool has the pages that a list needs to grow from `old` to `new` slots (R91). -/
def State.poolFits (s : State) (old new : Nat) : Bool := decide (pagesOf new ≤ pagesOf old + s.oct.freePages)

/-- The free count after a list's slot count changed from `old` to `new` (R91). -/
def repage (old new : Nat) (s : State) : State :=
  { s with oct.freePages := s.oct.freePages + pagesOf old - pagesOf new }

/-- The recipe of object `n` is replaced, with its pages (R91). -/
def setRecipe (n : Nat) (recipe : List Ref) (s : State) : State :=
  let o := s.object n
  repage (recipeSlots o.recipe) (recipeSlots recipe) (s.setObject n { o with recipe := recipe })

/-- Collection `n` is replaced by `c`, with the pages of its list (R91). -/
def replaceColl (n : Nat) (c : Coll) (s : State) : State :=
  repage (s.coll n).slots c.slots (s.setColl n c)

/-- An object number enters a list at its ascending place (R100). -/
def insertMember (n : Nat) : List Nat → List Nat
  | [] => [n]
  | m :: rest => if n < m then n :: m :: rest else if n = m then m :: rest else m :: insertMember n rest

/-! ### Retire orders -/

/-- A collection order is walkable from its append; an object order while the object's plan_holds is 0 (R111). -/
def State.walkable (s : State) : Order → Bool
  | .coll _ => true
  | .object n => decide ((s.object n).planHolds = 0)

/-- The RTU takes the oldest walkable order, or enters IDLE if there is none (R112). -/
def takeOldest (s : State) : State :=
  match s.rtu.orders.find? s.walkable with
  | some o => { s with rtu.current := some o, rtu.nested := none, rtu.walk := .walking }
  | none => { s with rtu.current := none, rtu.nested := none, rtu.walk := .idle }

/-- The walk runs in LOADED outside an export (R112). -/
def State.walkRuns (s : State) : Bool := s.loaded && !s.tiu.exporting

/-- An IDLE RTU takes the oldest walkable order if one stands (R112). -/
def takeIfIdle (s : State) : State :=
  if s.rtu.walk = .idle ∧ s.walkRuns ∧ (s.rtu.orders.find? s.walkable).isSome then takeOldest s else s

/-- A retire order is appended (R111); an IDLE RTU takes a walkable one at this event (R112). -/
def appendOrder (o : Order) (s : State) : State := takeIfIdle { s with rtu.orders := s.rtu.orders ++ [o] }

/-- An order leaves the list at the end of its walk, and the RTU takes the next (R111, R112). -/
def endWalk (o : Order) (s : State) : State :=
  takeOldest { s with rtu.orders := s.rtu.orders.filter fun p => decide (p ≠ o) }

/-! ### The release lists -/

/-- Whether two extents share a block (R79). -/
def Extent.overlaps (a b : Extent) : Bool :=
  decide (a.bay = b.bay) && decide (a.block < b.block + blocksOf b.length) && decide (b.block < a.block + blocksOf a.length)

/-- The extent of `length` bytes at a location. -/
def Loc.extent (l : Loc) (length : Nat) : Extent := { bay := l.bay, block := l.block, length := length }

/-- The location test of a commit: an extent on the release list or the deferred release list overlaps (R79, R117). -/
def Rtu.conflicts (r : Rtu) (e : Extent) : Bool :=
  r.release.any (fun x => x.overlaps e) || r.deferred.any (fun x => x.extent.overlaps e)

/-- An extent joins the release list, if there is one (R117). -/
def releaseExtent (loc : Option Loc) (length : Nat) (s : State) : State :=
  match loc with
  | none => s
  | some l => { s with rtu.release := s.rtu.release ++ [l.extent length] }

/-- Epoch `e` is at or before tag `t` (R122). -/
def atOrBefore (e t : Epoch) : Bool := decide ((t - e).toNat < 2147483648)

/-- Epochs of the plans that are not FREE (R122). -/
def State.openEpochs (s : State) : List Epoch :=
  (s.rpb.plans.toList.filter fun p => decide (p.state ≠ .free)).map Plan.epoch

/-- No open plan holds an epoch at or before the tag (R122). -/
def eligible (epochs : List Epoch) (tag : Epoch) : Bool := epochs.all fun e => !atOrBefore e tag

/-- The moves of one deferred check, from the oldest extent: the deferred list left and the release list after (R122). -/
def moveDeferred (epochs : List Epoch) : List Deferred → List Extent → List Deferred × List Extent
  | [], rel => ([], rel)
  | d :: ds, rel =>
    if eligible epochs d.tag ∧ rel.length < Config.releaseMax then moveDeferred epochs ds (rel ++ [d.extent])
    else (d :: ds, rel)

/-- The deferred check (R122); none is made outside LOADED or during an export (R123, R125). -/
def makeDeferredCheck (s : State) : State :=
  if s.walkRuns then
    let m := moveDeferred s.openEpochs s.rtu.deferred s.rtu.release
    { s with rtu.deferred := m.1, rtu.release := m.2 }
  else s

/-- The deferred release list has room for a REWRITE verdict: extents and reserved places number fewer than 256 (R76). -/
def Rtu.deferredRoom (r : Rtu) : Bool := decide (r.deferred.length + r.reserved < Config.deferredMax)

/-- A reserved place is given back (R121). -/
def returnReservation (s : State) : State := { s with rtu.reserved := s.rtu.reserved - 1 }

/-! ### Decrements -/

/-- A decrement of the entry of handle `h` (R85). -/
def decrement (h : Nat) (s : State) : State :=
  let e := s.chunk h
  if e.refcount = Config.pinned then s
  else if 1 < e.refcount then s.setChunk h { e with refcount := e.refcount - 1 }
  else refundPayer e.payer e.length (releaseExtent e.loc e.length (s.setChunk h Chunk.empty))

/-! ### Streams: closing, completion and settlement -/

/-- The handle of a PENDING item. -/
def Item.pendingOn (h : Nat) (i : Item) : Bool := decide (i.kind = .pending h)

/-- Completion of stream `i` (R61, R100): the object becomes COMPLETE and a member in the reserved slot, the bay hold is
released, the context closes, and the deferred OK is sent. -/
def completeStream (i : Nat) (s : State) : State :=
  let x := s.stream i
  let c := s.coll x.collection
  let s := s.setObject x.object { s.object x.object with state := .complete, length := x.position, holders := 1 }
  let s := replaceColl x.collection
    { c with members := insertMember x.object c.members, reserved := c.reserved - 1 } s
  let s := if x.bayHeld then releaseBay .stream x.bay s else s
  sendDeferred i .ok (s.setStream i Stream.closed)

/-- The stream is FINISHING with an empty list (R44, R60). -/
def Stream.finished (x : Stream) : Bool := decide (x.state = .finishing) && x.outstanding.isEmpty

/-- Streams that are FINISHING with an empty list complete, in ascending stream number (R52). -/
def completeFinished (s : State) : State :=
  (List.range 8).foldl (fun s i => if (s.stream i).finished then completeStream i s else s) s

/-- A handle is reported settled: every PENDING item naming it leaves the list of every context that is not CLOSED, and
each FINISHING stream whose list is then empty completes (R52). -/
def settleHandle (h : Nat) (s : State) : State :=
  completeFinished
    { s with streams := s.streams.map fun x =>
        if x.state = .closed then x else { x with outstanding := x.outstanding.filter fun it => !it.pendingOn h } }

/-- A halt event reaches stream `i` (R62): in OPEN, ENDED or FINISHING it enters HALTED with the reason, and a deferred
finish ends with HALTED; a stream already HALTED keeps its first reason. -/
def haltStream (i : Nat) (why : HaltReason) (s : State) : State :=
  let x := s.stream i
  match x.state with
  | .closed => s
  | .halted => s
  | .finishing => sendDeferred i .halted (s.setStream i { x with state := .halted, haltReason := some why })
  | _ => s.setStream i { x with state := .halted, haltReason := some why }

end Sys2Proof.Machine
end

