-- ==== Sys2Proof/Machine/Sha256.lean ====
section
/-!
DEFINITION. The digest computation of R56: SHA-256, which the manual names and does not spell out. The constants and
rounds are those of the published standard (PRESUMED, assumption 4). A chaining value is one 256-bit number and a block
one 512-bit number, highest word first, as bytes join them.
-/

namespace Sys2Proof.Machine

/-- Word `j` of a number of `n` words, the highest being word 0. -/
def wordAt {w : Nat} (n : Nat) (v : BitVec w) (j : Nat) : BitVec 32 := (v >>> (32 * (n - 1 - j))).setWidth 32

/-- The chaining value whose word `j` is `f j`. -/
def chainOf (f : Nat → BitVec 32) : BitVec 256 := (List.range 8).foldl (fun v j => v <<< 32 ||| (f j).setWidth 256) 0#256

/-- The 64 round constants, eight to a number. -/
def roundKeys : List (BitVec 256) :=
  [0x428a2f9871374491b5c0fbcfe9b5dba53956c25b59f111f1923f82a4ab1c5ed5#256,
   0xd807aa9812835b01243185be550c7dc372be5d7480deb1fe9bdc06a7c19bf174#256,
   0xe49b69c1efbe47860fc19dc6240ca1cc2de92c6f4a7484aa5cb0a9dc76f988da#256,
   0x983e5152a831c66db00327c8bf597fc7c6e00bf3d5a7914706ca635114292967#256,
   0x27b70a852e1b21384d2c6dfc53380d13650a7354766a0abb81c2c92e92722c85#256,
   0xa2bfe8a1a81a664bc24b8b70c76c51a3d192e819d6990624f40e3585106aa070#256,
   0x19a4c1161e376c082748774c34b0bcb5391c0cb34ed8aa4a5b9cca4f682e6ff3#256,
   0x748f82ee78a5636f84c878148cc7020890befffaa4506cebbef9a3f7c67178f2#256]

/-- The constant of round `t`. -/
def roundKey (t : Nat) : BitVec 32 := wordAt 8 (roundKeys.getD (t / 8) 0#256) (t % 8)

/-- Three rotations of a word, added without carry. -/
def turned (x : BitVec 32) (i j k : Nat) : BitVec 32 := x.rotateRight i ^^^ x.rotateRight j ^^^ x.rotateRight k

/-- Two rotations and a shift of a word, added without carry. -/
def shifted (x : BitVec 32) (i j k : Nat) : BitVec 32 := x.rotateRight i ^^^ x.rotateRight j ^^^ x >>> k

/-- The message window of 16 words moves on by one: the word it gains is made of four of its own. -/
def nextWindow (m : BitVec 512) : BitVec 512 :=
  let w := wordAt 16 m
  m <<< 32 ||| (w 0 + shifted (w 1) 7 18 3 + w 9 + shifted (w 14) 17 19 10).setWidth 512

/-- Round `t`: the working value moves down by a word; two of its words gain what the round mixes in. -/
def mixRound (v : BitVec 256) (input : BitVec 32) (t : Nat) : BitVec 256 :=
  let x := wordAt 8 v
  let choice := x 6 ^^^ x 4 &&& (x 5 ^^^ x 6)
  let majority := x 0 &&& x 1 ||| x 2 &&& (x 0 ||| x 1)
  let gain := roundKey t + input + choice + x 7 + turned (x 4) 6 11 25
  chainOf fun j =>
    match j with
    | 0 => gain + majority + turned (x 0) 2 13 22
    | 4 => gain + x 3
    | k => x (k - 1)

/-- A block of 64 bytes joins the chaining value. -/
def compress (chain : BitVec 256) (block : BitVec 512) : BitVec 256 :=
  let mixed := (List.range 64).foldl (fun a t => (mixRound a.1 (wordAt 16 a.2 0) t, nextWindow a.2)) (chain, block)
  chainOf fun j => wordAt 8 chain j + wordAt 8 mixed.1 j

/-- One byte joins the running digest. -/
def Running.push (r : Running) (b : Byte) : Running :=
  let block := r.block <<< 8 ||| b.setWidth 512
  if r.count % 64 = 63 then { chain := compress r.chain block, block := 0#512, count := r.count + 1 }
  else { r with block := block, count := r.count + 1 }

/-- Zero bytes that stand between the closing bit and the bit count, so that the last block is full. -/
def Running.gap (r : Running) : Nat := (119 - r.count % 64) % 64

/-- The digest is completed: the closing bit, zeros, and the bit count in 8 bytes, the highest first. -/
def Running.finish (r : Running) : Digest :=
  let zeros := (List.range r.gap).foldl (fun a _ => a.push 0#8) (r.push 0x80#8)
  ((le 8 (8 * r.count)).reverse.foldl Running.push zeros).chain

/-- The SHA-256 value of bytes. -/
def sha256 (bs : List Byte) : Digest := (bs.foldl Running.push Running.start).finish

end Sys2Proof.Machine
end

