-- ==== Sys2Proof/Machine/StreamOps.lean ====
section
/-!
DEFINITION. The Chunking Engine and the Chunk Index at work on a stream: the boundary computation (R54, R55), the
bucket search (R67), the verdicts and their entry changes (R70 to R78), one commit entry (R58, R59, R79 to R83), and the
abort (R64, R84, R97). Presenting a chunk and taking a packet stand in Packets.lean.
-/

namespace Sys2Proof.Machine

/-! ### The boundary computation -/

/-- A of R54: the sum of the window's bytes, plus 31. -/
def windowA (w : List Byte) : Nat := (w.map BitVec.toNat).sum + 31

/-- The weighted sum of the window's bytes, the first weighted by `k`. -/
def weightedSum : Nat → List Byte → Nat
  | _, [] => 0
  | k, b :: bs => k * b.toNat + weightedSum (k + 1) bs

/-- B of R54. -/
def windowB (w : List Byte) : Nat := weightedSum 1 w % 65536

/-- T of R54. -/
def windowT (w : List Byte) : Nat := (windowB w + 40503 * windowA w) % 65536

/-- The boundary test after a byte, with `len` the chunk's length including it (R55). -/
def boundary (lmin ltgt lmax len : Nat) (w : List Byte) : Bool :=
  let g := Nat.log2 ltgt
  if len < lmin then false
  else if lmax ≤ len then true
  else if len < ltgt then decide (windowT w % 2 ^ (g + 1) = 0)
  else decide (windowT w % 2 ^ (g - 1) = 0)

/-- A byte joins the window: the oldest leaves, this one becomes the newest (R49). -/
def slideWindow (w : List Byte) (b : Byte) : List Byte := w.drop 1 ++ [b]

/-! ### The bucket search -/

/-- Handles of a bucket, way 0 first (section 4.1). -/
def bucketHandles (bucket : Nat) : List Nat := (List.range Config.ways).map fun w => bucket * Config.ways + w

/-- The entry outside EMPTY that holds the digest (R67). -/
def State.findDigest (s : State) (d : Digest) : Option Nat :=
  (bucketHandles (bucketOf d)).find? fun h => decide ((s.chunk h).state ≠ .empty) && decide ((s.chunk h).digest = d)

/-- The lowest-numbered EMPTY way of the digest's bucket, as a handle (R67). -/
def State.emptyWay (s : State) (d : Digest) : Option Nat :=
  (bucketHandles (bucketOf d)).find? fun h => decide ((s.chunk h).state = .empty)

/-! ### Verdicts -/

/-- Verdicts with the entry they name (Table 4.3). `fresh` and `takeover` are both reported as NEW. -/
inductive Verdict where
  | fresh (h : Nat)
  | newPrivate
  | duplicate (h : Nat)
  | duplicatePending (h : Nat)
  | takeover (h : Nat)
  | rewrite (h : Nat)
  deriving DecidableEq, Repr

/-- The verdict of Table 4.3 from the entry found, the bucket's free ways and the deferred list's room (R70 step 1). -/
def State.chooseVerdict (s : State) (d : Digest) : Verdict :=
  match s.findDigest d with
  | some h =>
    match (s.chunk h).state with
    | .present => .duplicate h
    | .reserved => .duplicatePending h
    | .rewriting => .duplicatePending h
    | .needsWriter => .takeover h
    | .damaged => if s.rtu.deferredRoom then .rewrite h else .duplicate h
    | .empty => .newPrivate
  | none =>
    match s.emptyWay d with
    | some h => .fresh h
    | none => .newPrivate

/-- The length a verdict charges (Table 4.3, R70 step 2, R75). -/
def State.verdictCharge (s : State) (v : Verdict) (length : Nat) : Option Nat :=
  match v with
  | .fresh _ => some length
  | .newPrivate => some length
  | .takeover h => some (s.chunk h).length
  | _ => none

/-- The value of a verdict in its record (Table 3.6). -/
def Verdict.code : Verdict → Byte
  | .fresh _ => 1#8 | .takeover _ => 1#8 | .newPrivate => 2#8 | .duplicate _ => 3#8 | .duplicatePending _ => 4#8
  | .rewrite _ => 5#8

/-- The handle of a verdict; NEW_PRIVATE has none (R51). -/
def Verdict.handle : Verdict → Option Nat
  | .fresh h => some h | .takeover h => some h | .newPrivate => none | .duplicate h => some h
  | .duplicatePending h => some h | .rewrite h => some h

/-- The reference a verdict appends (R70 step 3). -/
def Verdict.ref (v : Verdict) (d : Digest) (length : Nat) : Ref :=
  match v.handle with
  | some h => .indexed h
  | none => .priv none length d false

/-- The item a verdict appends (Table 3.3). -/
def Verdict.item (v : Verdict) (d : Digest) (length : Nat) : Option ItemKind :=
  match v with
  | .fresh h => some (.owedNew h)
  | .takeover h => some (.owedNew h)
  | .newPrivate => some (.owedPrivate d length)
  | .rewrite h => some (.owedRewrite h)
  | .duplicatePending h => some (.pending h)
  | .duplicate _ => none

/-- A refcount raised by one; a pinned one stays (R78). -/
def raiseCount (n : Nat) : Nat := if Config.pinned ≤ n then n else n + 1

/-- The entry change of a verdict for stream `i` of client (c, g) (R71 to R77); a REWRITE reserves one deferred place. -/
def applyVerdict (v : Verdict) (i c g : Nat) (d : Digest) (length : Nat) (s : State) : State :=
  match v with
  | .fresh h =>
    s.setChunk h { state := .reserved, digest := d, length := length, loc := none, refcount := 1,
                   payer := some (c, g), writer := some i }
  | .newPrivate => s
  | .duplicate h => s.setChunk h { s.chunk h with refcount := raiseCount (s.chunk h).refcount }
  | .duplicatePending h => s.setChunk h { s.chunk h with refcount := raiseCount (s.chunk h).refcount }
  | .takeover h =>
    s.setChunk h { s.chunk h with state := .reserved, refcount := raiseCount (s.chunk h).refcount,
                                  payer := some (c, g), writer := some i }
  | .rewrite h =>
    let s := s.setChunk h { s.chunk h with state := .rewriting, refcount := raiseCount (s.chunk h).refcount,
                                           writer := some i }
    { s with rtu.reserved := s.rtu.reserved + 1 }

/-- The charge of a verdict, if it charges. -/
def chargeVerdict (amount : Option Nat) (c g : Nat) (s : State) : State :=
  match amount with
  | some n => charge c g n s
  | none => s

/-- The charge of a verdict is answered QUOTA (R70 step 2). -/
def State.quotaRefuses (s : State) (amount : Option Nat) (c g : Nat) : Bool :=
  match amount with
  | some n => decide (s.chargeAnswer c g n = .quota)
  | none => false

/-- The Object Catalogue appends a reference to the recipe of a BUILDING object, whose length grows with it (R94, R110). -/
def appendRef (n : Nat) (ref : Ref) (length : Nat) (s : State) : State :=
  let s := setRecipe n ((s.object n).recipe ++ [ref]) s
  s.setObject n { s.object n with length := (s.object n).length + length }

/-! ### Commits -/

/-- The fields of a STREAM_COMMIT entry (Table 3.7). -/
structure CommitEntry where
  ordinal : Nat
  result : Nat
  bay : Nat
  block : Nat
  deriving DecidableEq, Repr

/-- An entry's bytes read (Table 3.7). -/
def CommitEntry.ofBytes (e : List Byte) : CommitEntry :=
  { ordinal := field e 0 4, result := field e 4 1, bay := field e 5 1, block := field e 6 8 }

/-- An OWED item. -/
def Item.owed (i : Item) : Bool :=
  match i.kind with
  | .pending _ => false
  | _ => true

/-- The OWED item of an ordinal. -/
def Stream.owedItem (x : Stream) (ordinal : Nat) : Option Item :=
  x.outstanding.find? fun it => it.owed && decide (it.ordinal = ordinal)

/-- The list without the OWED item of an ordinal (R59). -/
def Stream.withoutOwed (x : Stream) (ordinal : Nat) : Stream :=
  { x with outstanding := x.outstanding.filter fun it => !(it.owed && decide (it.ordinal = ordinal)) }

/-- The entry of a failed or abandoned NEW write (R81, R84): NEEDS_WRITER, no writer, the payer refunded and cleared. -/
def loseWriter (h : Nat) (s : State) : State :=
  let e := s.chunk h
  refundPayer e.payer e.length (s.setChunk h { e with state := .needsWriter, writer := none, payer := none })

/-- A commit of a NEW item (R81); `ok` is false for result FAILED and for a location conflict. -/
def commitNew (i h : Nat) (ok : Bool) (l : Loc) (s : State) : State :=
  if ok then settleHandle h (s.setChunk h { s.chunk h with state := .present, loc := some l, writer := none })
  else haltStream i .writeFailed (loseWriter h s)

/-- The private reference of an ordinal is given its location (R95). -/
def locateRef (l : Loc) : Ref → Ref
  | .priv _ length d damaged => .priv (some l) length d damaged
  | r => r

/-- A commit of a PRIVATE item (R83, R95). -/
def commitPrivate (i ordinal : Nat) (ok : Bool) (l : Loc) (s : State) : State :=
  let n := (s.stream i).object
  if ok then s.setObject n { s.object n with recipe := (s.object n).recipe.modify ordinal (locateRef l) }
  else haltStream i .writeFailed s

/-- An entry in REWRITING returns to DAMAGED with its old location; the reserved place is given back and the handle is
settled (R82, R84). -/
def revertRewrite (h : Nat) (s : State) : State :=
  settleHandle h (returnReservation (s.setChunk h { s.chunk h with state := .damaged, writer := none }))

/-- The old copy's extent goes to the deferred release list with the present epoch, in the place reserved, and the
deferred check follows (R82, R121). -/
def deferOld (old : Option Loc) (length : Nat) (s : State) : State :=
  match old with
  | none => makeDeferredCheck (returnReservation s)
  | some l =>
    let s := returnReservation s
    makeDeferredCheck
      { s with rtu.deferred := s.rtu.deferred ++ [{ extent := l.extent length, tag := s.rpb.epoch }] }

/-- A commit of a REWRITE item (R82). -/
def commitRewrite (h : Nat) (ok : Bool) (l : Loc) (s : State) : State :=
  let e := s.chunk h
  if ok then
    settleHandle h
      (deferOld e.loc e.length (s.setChunk h { e with state := .present, loc := some l, writer := none }))
  else revertRewrite h s

/-- Whether a commit with result OK is a location conflict (R79, R82). -/
def State.commitConflict (s : State) (k : ItemKind) (l : Loc) : Bool :=
  match k with
  | .owedNew h => s.rtu.conflicts (l.extent (s.chunk h).length)
  | .owedPrivate _ length => s.rtu.conflicts (l.extent length)
  | .owedRewrite h =>
    let e := s.chunk h
    s.rtu.conflicts (l.extent e.length) ||
      (match e.loc with
        | some old => (l.extent e.length).overlaps (old.extent e.length)
        | none => false)
  | .pending _ => false

/-- The outcome of a commit by the item's kind (R59). -/
def commitItem (i : Nat) (it : Item) (ok : Bool) (l : Loc) (s : State) : State :=
  match it.kind with
  | .owedNew h => commitNew i h ok l s
  | .owedPrivate _ _ => commitPrivate i it.ordinal ok l s
  | .owedRewrite h => commitRewrite h ok l s
  | .pending _ => s

/-- The checks of one commit entry (R58). -/
def State.commitChecks (s : State) (i : Nat) (e : CommitEntry) : List (Bool × Status) :=
  let x := s.stream i
  [(decide (x.state = .closed), .state),
   (decide (1 < e.result), .badField),
   ((x.owedItem e.ordinal).isNone, .badField),
   (decide (e.result = 0) && (decide (e.bay ≠ x.bay) || decide (Config.blockCount ≤ e.block)), .badField)]

/-- One commit entry, whole before the next (R58, R59): its status and the state after it. A stream left FINISHING with
an empty list completes before the next entry. -/
def commitEntry (i : Nat) (e : CommitEntry) (s : State) : Status × State :=
  match firstFail (s.commitChecks i e), (s.stream i).owedItem e.ordinal with
  | some st, _ => (st, s)
  | none, none => (.badField, s)
  | none, some it =>
    let l : Loc := { bay := e.bay, block := e.block }
    let ok := decide (e.result = 0) && !s.commitConflict it.kind l
    (.ok, completeFinished (commitItem i it ok l (s.setStream i ((s.stream i).withoutOwed e.ordinal))))

/-! ### Aborts -/

/-- The recipe without its reference `k`. -/
def dropRef (n k : Nat) (s : State) : State := setRecipe n ((s.object n).recipe.eraseIdx k) s

/-- One item of an aborted stream is released (R84). `dropped` counts the private references dropped so far, by which
the places of the later ones have moved up (R97). -/
def abortItem (i : Nat) (acc : Nat × State) (it : Item) : Nat × State :=
  let (dropped, s) := acc
  match it.kind with
  | .owedNew h => (dropped, loseWriter h s)
  | .owedRewrite h => (dropped, revertRewrite h s)
  | .owedPrivate _ length =>
    let x := s.stream i
    (dropped + 1, refund x.client x.generation length (dropRef x.object (it.ordinal - dropped) s))
  | .pending _ => (dropped, s)

/-- The items of stream `i` are released one after another in list order (R64 step 2, R84). -/
def releaseItems (i : Nat) (s : State) : State := ((s.stream i).outstanding.foldl (abortItem i) (0, s)).2

/-- The abort of a stream frees its object at once when the stream recorded no chunk; any other object is handed to the
Retirement Unit, one whose recipe the dropped private references leave empty too (R64 step 4, R92, R97, R111). The
empty recipe of R84's last sentence is read as that of R64 step 4 (DEDUCED, assumption 25). -/
def Stream.abortFrees (x : Stream) : Bool := decide (x.ordinal = 0)

/-- Steps 2 to 6 of an abort (R64, R84, R97): the items in list order, the reserved slot, the object, the bay hold, the
context. -/
def abortParts (i : Nat) (s : State) : State :=
  let x := s.stream i
  let s := releaseItems i s
  let s := s.setStream i { s.stream i with outstanding := [] }
  let c := s.coll x.collection
  let s := replaceColl x.collection { c with reserved := c.reserved - 1 } s
  let s :=
    if x.abortFrees then setRecipe x.object [] s |>.setObject x.object Obj.free
    else
      appendOrder (.object x.object)
        (s.setObject x.object { s.object x.object with state := .retiring, holders := 0 })
  let s := if x.bayHeld then releaseBay .stream x.bay s else s
  s.setStream i Stream.closed

/-- The abort of stream `i` (R64): a deferred finish is sent as ABORTED, then the parts follow. At link reset the SLC
has discarded the deferred responses before, so none is sent (R65). -/
def abortStream (i : Nat) (s : State) : State := abortParts i (sendDeferred i .aborted s)

end Sys2Proof.Machine
end

