-- ==== Sys2Proof/Machine/GrantOps.lean ====
section
/-!
DEFINITION. Local minutes (R27), windows (R131), the access decision (R132, R133), expiry and the sweep (R134, R135),
removals at retirement (R136), and what a second event or a CLOCK_SET brings (R24).
-/

namespace Sys2Proof.Machine

/-- The local minute of day at box time `t` and zone offset `z` (R27). -/
def localMinute (t : Nat) (z : Int) : Nat := (((t / 60 : Nat) : Int) + z).emod 1440 |>.toNat

/-- The local minute of day now. -/
def State.minute (s : State) : Nat := localMinute s.bck.boxTime s.slc.settings.zone

/-- A local minute lies inside a window (R131). -/
def insideWindow (start stop m : Nat) : Bool :=
  if start < stop then decide (start ≤ m) && decide (m < stop)
  else if stop < start then decide (start ≤ m) || decide (m < stop)
  else false

/-- A LIVE grant is expired at box time `t` (R134). -/
def Grant.expired (t : Nat) (g : Grant) : Bool :=
  match g.expiry with
  | some e => g.live && decide (e ≤ t)
  | none => false

/-- The LIVE grant of a scope, expired ones included (R129). -/
def State.grantOf (s : State) (who : Grantee) (on : Target) : Option Nat :=
  (s.grants.find? fun p => p.2.live && decide (p.2.grantee = who) && decide (p.2.target = on)).map (·.1)

/-- The LIVE grant of a scope that is not expired now (R132, R134). -/
def State.grantInForce (s : State) (who : Grantee) (on : Target) : Option Nat :=
  (s.grantOf who on).filter fun n => !(s.grant n).expired s.bck.boxTime

/-- The four scopes in decision order (Table 7.4). -/
def scopes (reader album owner : Nat) : List (Grantee × Target) :=
  [(.client reader, .album album), (.client reader, .allOf owner), (.anyViewer, .album album), (.anyViewer, .allOf owner)]

/-- The basis of a decision (R132). -/
inductive Basis where
  | owner
  | grant (n scope : Nat)
  | noGrant
  deriving DecidableEq, Repr

/-- A decision: whether the read is allowed, and its basis. -/
structure Decision where
  allowed : Bool
  basis : Basis
  deriving DecidableEq, Repr

/-- A grant acts by its mode at local minute `m` (R133). -/
def Grant.allows (g : Grant) (m : Nat) : Bool :=
  match g.mode with
  | .deny => false
  | .allow => true
  | .inWindow => insideWindow g.windowStart g.windowEnd m
  | .outOfWindow => !insideWindow g.windowStart g.windowEnd m

/-- The first scope, numbered from `k`, that gives a grant in force decides (R132 steps 2 and 3). -/
def decideFrom (s : State) : Nat → List (Grantee × Target) → Decision
  | _, [] => { allowed := false, basis := .noGrant }
  | k, (who, on) :: rest =>
    match s.grantInForce who on with
    | some n => { allowed := (s.grant n).allows s.minute, basis := .grant n k }
    | none => decideFrom s (k + 1) rest

/-- The access decision for reader `c`, album `a` and the album's owner `o` (R132). -/
def State.decision (s : State) (c a o : Nat) : Decision :=
  if c = o then { allowed := true, basis := .owner } else decideFrom s 1 (scopes c a o)

/-- The decision record (R139). -/
def State.decisionRecord (s : State) (d : Decision) : List Byte :=
  let (basis, n, scope, inside) : Byte × Byte × Byte × Bool := match d.basis with
    | .owner => (0#8, 0xFF#8, 0#8, false)
    | .grant n k => (1#8, BitVec.ofNat 8 n, BitVec.ofNat 8 k,
        insideWindow (s.grant n).windowStart (s.grant n).windowEnd s.minute)
    | .noGrant => (2#8, 0xFF#8, 0#8, false)
  [flagByte d.allowed, basis, n, scope] ++ le 4 s.bck.boxTime ++ le 2 s.minute ++ [flagByte inside]

/-- The minute sweep (R135): every expired LIVE grant becomes FREE, in LOADED outside an export. -/
def sweepGrants (s : State) : State :=
  if s.walkRuns then { s with grants := s.grants.filter fun p => !p.2.expired s.bck.boxTime } else s

/-- Every grant on an album is removed at its retirement (R136). -/
def removeAlbumGrants (c : Nat) (s : State) : State :=
  { s with grants := s.grants.filter fun p => !(p.2.live && decide (p.2.target = .album c)) }

/-- Every grant whose grantee, or whose ALL_ALBUMS_OF owner, is a retired client is removed (R136). -/
def removeClientGrants (c : Nat) (s : State) : State :=
  { s with grants := s.grants.filter fun p =>
      !(p.2.live && (decide (p.2.grantee = .client c) || decide (p.2.target = .allOf c))) }

end Sys2Proof.Machine
end

