-- ==== Sys2Proof/Machine/PlanOps.lean ====
section
/-!
DEFINITION. The Read Plan Builder's shared operations (chapter 8): locations of references (R88), scan steps and the end
of a scan (R145, R146), bay reports (R147, R150), the closing of a plan (R153), and link reset as it reaches every block
(R9, R65, R154, R158).
-/

namespace Sys2Proof.Machine

/-- The state with the locations of a reference: its location, length and damaged flag as they stand (R88, R145, R148). -/
structure Located where
  loc : Option Loc
  length : Nat
  damaged : Bool
  deriving DecidableEq, Repr

/-- A location read (R88; for PRIVATE the reference's own). -/
def State.locate (s : State) : Ref → Located
  | .indexed h =>
    let e := s.chunk h
    { loc := e.loc, length := e.length, damaged := decide (e.state = .damaged) || decide (e.state = .rewriting) }
  | .priv l length _ damaged => { loc := l, length := length, damaged := damaged }

/-- A set of one bay. -/
def bayBit (i : Nat) : BitVec 4 := 1#4 <<< i

/-- The bays of a set, ascending. -/
def baysOf (set : BitVec 4) : List Nat := (List.range 4).filter fun i => set.getLsbD i

/-- Every bay of the set is READY. -/
def State.allReady (s : State) (set : BitVec 4) : Bool :=
  (baysOf set).all fun i => decide ((s.bay i).state = .ready)

/-- A plan's hold arrives at bay `i`: taken and entered in held_bays, or answered BAY_LOST with no change (R146, R149,
R156). The answer says whether it was taken. -/
def planHold (p i : Nat) (s : State) : Bool × State :=
  if s.bpc.isEmpty i then (false, s)
  else
    let s := holdBay .plan i s
    (true, s.setPlan p { s.plan p with heldBays := (s.plan p).heldBays ||| bayBit i })

/-- Holds on each bay listed that the plan does not hold; whether any was answered BAY_LOST (R146). -/
def planHolds (p : Nat) : List Nat → Bool → State → Bool × State
  | [], lost, s => (lost, s)
  | i :: rest, lost, s =>
    if (s.plan p).heldBays.getLsbD i then planHolds p rest lost s
    else
      let h := planHold p i s
      planHolds p rest (lost || !h.1) h.2

/-- The end of a scan (R146): the holds in ascending bay number, then BAY_LOST, READY or WAITING; PLAN_READY is not
latched. -/
def scanEnd (p : Nat) (s : State) : State :=
  let h := planHolds p (baysOf ((s.plan p).scanBays.getD 0#4)) false s
  let s := h.2
  let x := s.plan p
  let state :=
    if h.1 || decide (x.state = .bayLost) then PlanState.bayLost
    else if s.allReady x.heldBays then .ready
    else .waiting
  s.setPlan p { x with state := state, scanPos := none, scanBays := none }

/-- One reference read by a scan: its bay joins the scan bays, the position advances (R145). -/
def scanRead (p : Nat) (ref : Ref) (pos : Nat) (s : State) : State :=
  let x := s.plan p
  let bays := x.scanBays.getD 0#4
  let bays := match (s.locate ref).loc with
    | some l => bays ||| bayBit l.bay
    | none => bays
  s.setPlan p { x with scanPos := some (pos + 1), scanBays := some bays }

/-- A plan whose scan position is at the recipe's end ends its scan (R144, R146). -/
def scanEndIfDone (p : Nat) (s : State) : State :=
  match (s.plan p).scanPos with
  | some pos => if (s.object (s.plan p).object).recipe.length ≤ pos then scanEnd p s else s
  | none => s

/-- A bay that became READY is reported (R147): each WAITING plan that holds it and whose held bays are now all READY
enters READY, and PLAN_READY is latched once if any does. -/
def reportBayReady (i : Nat) (s : State) : State :=
  let moves (x : Plan) : Bool := decide (x.state = .waiting) && x.heldBays.getLsbD i && s.allReady x.heldBays
  if s.rpb.plans.toList.any moves then
    latch .planReady
      { s with rpb.plans := s.rpb.plans.map fun x => if moves x then { x with state := .ready } else x }
  else s

/-- A loss of presence is reported (R150): each open plan that holds the bay drops it and enters BAY_LOST. -/
def reportBayLost (i : Nat) (s : State) : State :=
  { s with rpb.plans := s.rpb.plans.map fun x =>
      if x.state ≠ .free ∧ x.heldBays.getLsbD i then
        { x with heldBays := x.heldBays &&& ~~~(bayBit i), state := .bayLost }
      else x }

/-- Loss of presence at the bay reaches stream `i`: the hold is gone and the stream halts with BAY_LOST (R63). -/
def streamBayLost (bay : Nat) (s : State) (i : Nat) : State :=
  let x := s.stream i
  if x.state ≠ .closed ∧ x.bay = bay then haltStream i .bayLost (s.setStream i { x with bayHeld := false }) else s

/-- plan_holds of an object falls by one; a RETIRING object that reaches 0 makes its order walkable, and an IDLE RTU
takes it (R107, R116). -/
def lowerPlanHolds (n : Nat) (s : State) : State :=
  takeIfIdle (s.setObject n { s.object n with planHolds := (s.object n).planHolds - 1 })

/-- A plan closes (R153): its holds are released in ascending bay number, plan_holds falls, the slot becomes FREE, and
the deferred check is made. -/
def closePlan (p : Nat) (s : State) : State :=
  let x := s.plan p
  let s := (baysOf x.heldBays).foldl (fun s i => releaseBay .plan i s) s
  let s := lowerPlanHolds x.object s
  makeDeferredCheck (s.setPlan p Plan.free)

/-! ### Link reset -/

/-- Every context that is not CLOSED is aborted, in ascending stream number (R65). -/
def abortAllStreams (s : State) : State :=
  (List.range 8).foldl (fun s i => if (s.stream i).state ≠ .closed then abortStream i s else s) s

/-- Every slot that is not FREE closes, in ascending plan number (R154). -/
def closeAllPlans (s : State) : State :=
  (List.range 16).foldl (fun s p => if (s.plan p).state ≠ .free then closePlan p s else s) s

/-- Every manual hold is cleared as a release (R158). -/
def clearManualHolds (s : State) : State := (List.range 4).foldl (fun s i => releaseBay .manual i s) s

/-- The link's own part of a link reset (R9, R10). -/
def resetLink (cause : StartCause) (s : State) : State :=
  { s with slc := { s.slc.drop with link := .training, startCause := cause } }

/-- The blocks' own parts of a link reset before the BXP's: the stream aborts, the plan closes, the manual holds, and the
receive queue (R65, R154, R158, R179). -/
def resetBlocks (s : State) : State :=
  let s := clearManualHolds (closeAllPlans (abortAllStreams s))
  { s with nwu.receive := [] }

/-- A link reset abandons a standby entry (R172). -/
def resetPower (s : State) : State :=
  if s.bxp.power = .standbyEntry then abandonStandby .linkReset s else s

/-- A link reset (R9): the link's own part, then the blocks. -/
def linkReset (cause : StartCause) (s : State) : State := resetPower (resetBlocks (resetLink cause s))

/-! ### A minute event and the clock -/

/-- The clock moves to `t` (R24): a minute event, when `minute` says that one occurs, sweeps the grants. -/
def clockTo (t : Nat) (minute : Bool) (s : State) : State :=
  let s := { s with bck.boxTime := t }
  if minute then sweepGrants s else s

end Sys2Proof.Machine
end

