-- ==== Sys2Proof/Machine/LinkEvents.lean ====
section
/-!
DEFINITION. The events of the service link (sections 1.1 to 1.5): power-on reset, the receiver, the transmitter, training,
and the host's line signals.
-/

namespace Sys2Proof.Machine

/-! ### The receiver -/

/-- HOLD is driven while all 8 places are in use (R5). -/
def Slc.holdDriven (slc : Slc) : Bool := decide (Config.inputPlaces ≤ slc.places.length)

/-- The link carries packets: ACTIVE or IDLE (R2). -/
def Slc.carries (slc : Slc) : Bool := decide (slc.link = .active) || decide (slc.link = .idle)

/-- A count that saturates at 65,535 goes up by one (R2, R3). -/
def countUp (n : Nat) : Nat := if 65535 ≤ n then n else n + 1

/-- A number that no place in use has. -/
def Slc.newSlot (slc : Slc) : Nat :=
  ((List.range Config.inputPlaces).find? fun n => slc.places.all fun p => decide (p.slot ≠ n)).getD slc.places.length

/-- The place of a slot number. -/
def Slc.place (slc : Slc) (n : Nat) : Option Place := slc.places.find? fun p => decide (p.slot = n)

/-- The place given becomes free (R5). -/
def Slc.freePlace (slc : Slc) (n : Nat) : Slc := { slc with places := slc.places.filter fun p => decide (p.slot ≠ n) }

/-- The packet is a STANDBY_ENTER or a RETURN_PRIOR: its response carries the power record for every status (section 10.3,
R12). -/
def Place.showsPower (p : Place) : Bool :=
  decide (Kind.ofCode p.kind = some .standbyEnter) || decide (Kind.ofCode p.kind = some .returnPrior)

/-- The result record of a packet that the SLC itself answers (R12): the power record where chapter 10 states it for
every status, the applied count 0 of a batch (R4), and nothing else. -/
def State.placeRecord (s : State) (p : Place) : List Byte :=
  if p.showsPower then s.powerRecord else if (entrySizeOf p.kind).isSome then [0#8, 0#8] else []

/-- A packet answered by the SLC itself, with the kind byte as it arrived (R12). The byte that the power record leaves
open is spent with it, as in every answer that carries the record (assumption 3). -/
def answerPlace (p : Place) (st : Status) (s : State) : State :=
  { s with
    slc := s.slc.answer p.slot p.tag p.aux (st.code :: p.kind :: s.placeRecord p)
    free := if p.showsPower then s.free + 1 else s.free }

/-- A complete packet of place `p` (R3, R10, R11): BAD_REQUEST for a kind that is no request kind; RESET while the link
start is not acknowledged, but for LINK_STATUS; otherwise it waits for its owning block. -/
def route (p : Place) (body : Body) (s : State) : State :=
  match Kind.ofCode p.kind with
  | none => answerPlace p .badRequest s
  | some k =>
    if s.slc.acked = false ∧ k ≠ .linkStatus then answerPlace p .reset s
    else
      { s with slc.places := s.slc.places.map fun q => if q.slot = p.slot then { q with phase := .waiting body } else q }

/-- The body of a short packet: no payload, or a batch with no entries (R4). -/
def emptyBody (kind : Byte) : Body := if (entrySizeOf kind).isSome then .batch [] true else .plain []

/-- A header with a good check takes a place (R2): a length above 16,384 is answered BAD_PACKET and the bytes after it
are discarded; a short packet is complete; a long packet's payload follows. -/
def acceptHeader (kind tag : Byte) (aux : Half) (length : Nat) (s : State) : State :=
  let p : Place := { slot := s.slc.newSlot, kind := kind, tag := tag, aux := aux, length := length, phase := .receiving }
  let s := { s with slc.places := s.slc.places ++ [p] }
  if Config.maxPayload < length then answerPlace p .badPacket { s with slc.receiver := .discarding }
  else if length = 0 then route p (emptyBody kind) s
  else { s with slc.receiver := .payload p.slot }

/-- A header is discarded and counted; the bytes that follow are discarded until quiet (R2). -/
def rejectHeader (s : State) : State :=
  { s with slc.linkErrors := countUp s.slc.linkErrors, slc.receiver := .discarding }

/-- The five cases of R2, in the rule's order. -/
def decideHeader (header : HeaderArrival) (underHold : Bool) (s : State) : State :=
  match header with
  | .cut => { s with slc.linkErrors := countUp s.slc.linkErrors }
  | .whole v =>
    let bs := v.toList
    if underHold || s.slc.holdDriven then rejectHeader s
    else if field bs 6 2 ≠ (crc16 (bs.take 6)).toNat then rejectHeader s
    else acceptHeader (bs.getD 0 0) (bs.getD 1 0) (BitVec.ofNat 16 (field bs 2 2)) (field bs 4 2) s

/-- A header arriving while the link is IDLE is taken as though WAKE had preceded it (R7). -/
def wakeForHeader (s : State) : State := if s.slc.link = .idle then enterActive false s else s

/-- R2: the receiver decides a header while it waits for one and the link is ACTIVE or IDLE; otherwise the bytes are
ignored. -/
def headerArrives (header : HeaderArrival) (underHold : Bool) (s : State) : State :=
  if s.slc.carries ∧ s.slc.receiver = .quiet then decideHeader header underHold (wakeForHeader s) else s

/-- The place whose payload is being received. -/
def Slc.receivingPlace (slc : Slc) : Option Place :=
  match slc.receiver with
  | .payload n => slc.place n
  | _ => none

/-- The receiver waits for the next header. -/
def receiverQuiet (s : State) : State := { s with slc.receiver := .quiet }

/-- A long non-batch packet is complete (R3): BAD_REQUEST before its payload check is examined, BAD_PACKET for a bad
check, otherwise routing. -/
def completePacket (payload : List Byte) (check : Half) (s : State) : State :=
  match s.slc.receivingPlace with
  | none => s
  | some p =>
    if ¬ (s.slc.carries ∧ payload.length = p.length ∧ (entrySizeOf p.kind).isNone) then s
    else if (Kind.ofCode p.kind).isSome ∧ crc16 payload ≠ check then answerPlace p .badPacket (receiverQuiet s)
    else route p (.plain payload) (receiverQuiet s)

/-- A non-batch packet breaks: it is discarded with no response, the break count goes up, its place is freed (R3). -/
def breakPacket (s : State) : State :=
  match s.slc.receivingPlace with
  | none => s
  | some p =>
    if (entrySizeOf p.kind).isSome then s
    else { s with slc := { s.slc.freePlace p.slot with receiver := .quiet, breaks := countUp s.slc.breaks } }

/-- A batch packet is complete (R4). -/
def completeBatch (payload : List Byte) (s : State) : State :=
  match s.slc.receivingPlace with
  | none => s
  | some p =>
    match entrySizeOf p.kind with
    | none => s
    | some size =>
      if s.slc.carries ∧ payload.length = p.length then route p (batchBody size payload true) (receiverQuiet s) else s

/-- A batch packet breaks: the break count goes up, and its complete good entries are routed (R4). -/
def breakBatch (received : List Byte) (s : State) : State :=
  match s.slc.receivingPlace with
  | none => s
  | some p =>
    match entrySizeOf p.kind with
    | none => s
    | some size =>
      if received.length < p.length then
        route p (batchBody size received false)
          { s with slc.receiver := .quiet, slc.breaks := countUp s.slc.breaks }
      else s

/-- Discarded bytes end at the quiet state of the line (R2). -/
def endDiscard (s : State) : State := if s.slc.receiver = .discarding then receiverQuiet s else s

/-! ### The transmitter -/

/-- The next packet of the outgoing line (R14): the oldest of the outgoing queue, or, when it is empty, the oldest frame
of the receive queue as a FRAME_IN. -/
def startSending (s : State) : State :=
  match s.slc.outgoing, s.nwu.receive with
  | p :: rest, _ => { s with slc.outgoing := rest, slc.sending := some p }
  | [], f :: rest => { s with nwu.receive := rest, slc.sending := some (.frameIn f.lost f.bytes) }
  | [], [] => s

/-- R14: the transmitter, with no packet being sent, starts the next one in ACTIVE; in IDLE it signals WAKE first. -/
def transmit (s : State) : State :=
  if s.slc.sending = none then
    match s.slc.link with
    | .active => startSending s
    | .idle => if s.slc.outgoing = [] ∧ s.nwu.receive = [] then s else startSending (partWake s)
    | _ => s
  else s

/-- The last byte of a packet has gone: a response frees its input buffer place (R5, R14). -/
def endSending (s : State) : State :=
  match s.slc.sending with
  | none => s
  | some (.response (some n) _ _ _) => { s with slc := { s.slc.freePlace n with sending := none } }
  | some _ => { s with slc.sending := none }

/-! ### Training and line signals -/

/-- The powered host begins training (R6, R10). -/
def beginTraining (s : State) : State :=
  if s.slc.link = .down ∧ s.bxp.hostPowered then { s with slc.link := .training, slc.startCause := .powerUp } else s

/-- The BXP, waiting for the link in WAKING, enters RUN (R168). -/
def wakeComplete (s : State) : State :=
  if s.bxp.power = .waking ∧ s.bxp.phase = .powered then enterRun s else s

/-- Training completes (R6, R10, R17, R168). -/
def completeTraining (s : State) : State :=
  if s.slc.link = .training then wakeComplete (enterActive true { s with slc.acked := false }) else s

/-- Loss of training (R6, R9). -/
def loseTraining (s : State) : State := if s.slc.carries then linkReset .trainingLost s else s

/-- The host signals IDLE (R7). -/
def idleSignal (s : State) : State := if s.slc.link = .active then { s with slc.link := .idle } else s

/-- The host signals WAKE (R7). -/
def wakeSignal (s : State) : State := if s.slc.link = .idle then enterActive false s else s

/-- SLEEP_ACK is reported to the BXP (R171): sleep is acknowledged and the handshake timer discarded; the box enters
STANDBY when every bay has stopped. -/
def sleepAckReport (s : State) : State :=
  if s.bxp.power = .standbyEntry then completeStandby { s with bxp.sleepAcked := true, bxp.timer := none } else s

/-- The host signals SLEEP_ACK (R8). -/
def ackSignal (s : State) : State :=
  if s.slc.sleepReq ∧ s.slc.carries then sleepAckReport { s with slc.link := .sleep } else s

/-- The host signals RESET (R9). -/
def resetSignal (s : State) : State :=
  if s.slc.link = .training ∨ s.slc.carries then linkReset .hostReset s else s

/-! ### Meanings -/

/-- POWER_ON_RESET (R167): every block takes its reset values; the sense lines decide the bays (R155). The owed flag is
clear afterwards (R16), so this step has no notice change. -/
def execPowerOnReset (sense : Vector Bool 4) (s : State) : Host.Outcome State Fault Refusal :=
  .next { State.powerOn sense with pending := s.pending, free := s.free }

/-- HEADER_RECEIVED (R2). -/
def execHeaderReceived (header : HeaderArrival) (underHold : Bool) (s : State) : Host.Outcome State Fault Refusal :=
  event (headerArrives header underHold) s

/-- PACKET_COMPLETE (R3). -/
def execPacketComplete (payload : List Byte) (check : Half) (s : State) : Host.Outcome State Fault Refusal :=
  event (completePacket payload check) s

/-- PACKET_BREAK (R3). -/
def execPacketBreak (s : State) : Host.Outcome State Fault Refusal := event breakPacket s

/-- BATCH_COMPLETE (R4). -/
def execBatchComplete (payload : List Byte) (s : State) : Host.Outcome State Fault Refusal :=
  event (completeBatch payload) s

/-- BATCH_BREAK (R4). -/
def execBatchBreak (received : List Byte) (s : State) : Host.Outcome State Fault Refusal :=
  event (breakBatch received) s

/-- TRANSMIT_PACKET (R14). -/
def execTransmitPacket (s : State) : Host.Outcome State Fault Refusal := event transmit s

/-- PACKET_SEND_END (R5). -/
def execPacketSendEnd (s : State) : Host.Outcome State Fault Refusal := event endSending s

/-- TRAINING_START (R6). -/
def execTrainingStart (s : State) : Host.Outcome State Fault Refusal := event beginTraining s

/-- TRAINING_COMPLETE (R6). -/
def execTrainingComplete (s : State) : Host.Outcome State Fault Refusal := event completeTraining s

/-- TRAINING_LOST (R9). -/
def execTrainingLost (s : State) : Host.Outcome State Fault Refusal := event loseTraining s

/-- HOST_IDLE (R7). -/
def execHostIdle (s : State) : Host.Outcome State Fault Refusal := event idleSignal s

/-- HOST_WAKE (R7). -/
def execHostWake (s : State) : Host.Outcome State Fault Refusal := event wakeSignal s

/-- SLEEP_ACK (R8). -/
def execSleepAck (s : State) : Host.Outcome State Fault Refusal := event ackSignal s

/-- HOST_RESET (R9). -/
def execHostReset (s : State) : Host.Outcome State Fault Refusal := event resetSignal s

/-- RECEIVE_LINE_QUIET (R2). -/
def execReceiveLineQuiet (s : State) : Host.Outcome State Fault Refusal := event endDiscard s

end Sys2Proof.Machine
end

