-- ==== Sys2Proof/Machine/LinkRequests.lean ====
section
/-!
DEFINITION. The Service Link Controller's own requests (R15, R18 to R21): link status, notices, settings.
-/

namespace Sys2Proof.Machine

/-! ### LINK_STATUS -/

/-- Link states as LINK_STATUS reports them (R15). -/
def LinkState.code : LinkState → Byte
  | .down => 0#8 | .training => 1#8 | .active => 2#8 | .idle => 3#8 | .sleep => 4#8

/-- Link start causes as LINK_STATUS reports them (R15). -/
def StartCause.code : StartCause → Byte
  | .powerUp => 0#8 | .hostReset => 1#8 | .trainingLost => 2#8

/-- Deferred responses held (R15). -/
def Slc.deferredCount (slc : Slc) : Nat := (slc.deferred.toList.filter Option.isSome).length

/-- The LINK_STATUS result record (R15). -/
def Slc.statusRecord (slc : Slc) : List Byte :=
  [slc.link.code, slc.startCause.code, flagByte slc.acked] ++ le 2 slc.linkErrors ++ le 2 slc.breaks
    ++ le 1 slc.places.length ++ le 1 slc.deferredCount ++ [flagByte slc.sleepReq]

/-- LINK_STATUS is taken (R15): the record as it stood, then the acknowledged flag is set, and with `clear` both counts
become 0. -/
def linkStatusTaken (clear : Bool) (r : Request) (s : State) : State :=
  let s := answer r .ok s.slc.statusRecord s
  if clear then { s with slc.acked := true, slc.linkErrors := 0, slc.breaks := 0 } else { s with slc.acked := true }

/-- The checks of LINK_STATUS (R11, R15): no payload, aux 0 or 1. -/
def linkStatusChecks (r : Request) : List (Bool × Status) :=
  [(!r.hasLength 0, .badField), (decide (1 < r.auxNat), .badField)]

/-- LINK_STATUS with any aux but 1 (R15). -/
def execLinkStatus (s : State) : Host.Outcome State Fault Refusal :=
  take .linkStatus (fun r => decide (r.auxNat ≠ 1))
    (fun r => guarded (linkStatusChecks r) r (linkStatusTaken false r)) s

/-- LINK_STATUS with aux 1 (R15). -/
def execLinkStatusClearCounts (s : State) : Host.Outcome State Fault Refusal :=
  take .linkStatus (fun r => decide (r.auxNat = 1))
    (fun r => guarded (linkStatusChecks r) r (linkStatusTaken true r)) s

/-! ### Notices -/

/-- NOTICE_READ's result record (R18). -/
def State.noticeRecord (s : State) : List Byte :=
  topNotice s.pendingEnabled :: (noticeBytes s.pendingNotices ++ noticeBytes s.slc.enables)

/-- NOTICE_READ (R18). -/
def execNoticeRead (s : State) : Host.Outcome State Fault Refusal :=
  take .noticeRead anyForm
    (fun r s => guarded [(!r.hasLength 0, .badField)] r (answer r .ok s.noticeRecord) s) s

/-- The result record of NOTICE_CLEAR and NOTICE_MASK, after the change (R19). -/
def State.noticeSets (s : State) : List Byte := noticeBytes s.pendingNotices ++ noticeBytes s.slc.enables

/-- The latched notices named are cleared; level notices are unaffected (R19). -/
def clearNotices (set : BitVec 11) (s : State) : State := { s with slc.latched := s.slc.latched &&& ~~~set }

/-- The enable set is replaced (R19). -/
def maskNotices (set : BitVec 11) (s : State) : State := { s with slc.enables := set }

/-- NOTICE_CLEAR (R19). -/
def execNoticeClear (s : State) : Host.Outcome State Fault Refusal :=
  take .noticeClear anyForm
    (fun r => guarded [(!r.hasLength 2, .badField)] r fun s =>
      let s := clearNotices (noticeSet r.payload) s
      answer r .ok s.noticeSets s) s

/-- NOTICE_MASK (R19). -/
def execNoticeMask (s : State) : Host.Outcome State Fault Refusal :=
  take .noticeMask anyForm
    (fun r => guarded [(!r.hasLength 2, .badField)] r fun s =>
      let s := maskNotices (noticeSet r.payload) s
      answer r .ok s.noticeSets s) s

/-! ### Settings -/

/-- The settings record as 19 bytes (Table 1.8). -/
def Settings.bytes (x : Settings) : List Byte :=
  leSigned x.zone ++ le 4 x.lmin ++ le 4 x.ltgt ++ le 4 x.lmax ++ le 1 x.budget ++ le 1 x.spinUp ++ le 2 x.idle
    ++ le 1 x.spinDown

/-- The settings record that 19 bytes hold (Table 1.8). -/
def Settings.ofBytes (p : List Byte) : Settings :=
  { zone := signedField p 0, lmin := field p 2 4, ltgt := field p 6 4, lmax := field p 10 4, budget := field p 14 1,
    spinUp := field p 15 1, idle := field p 16 2, spinDown := field p 18 1 }

/-- A field whose presence bit is clear takes its current value (R20). Table 1.8 names bits 0 to 7 of the presence set and
does not say whether bits 8 to 15 are examined; here they are not (DESIGN CHOICE, assumption 24). -/
def Settings.merge (present : Nat) (new old : Settings) : Settings :=
  { zone := if present.testBit 0 then new.zone else old.zone
    lmin := if present.testBit 1 then new.lmin else old.lmin
    ltgt := if present.testBit 2 then new.ltgt else old.ltgt
    lmax := if present.testBit 3 then new.lmax else old.lmax
    budget := if present.testBit 4 then new.budget else old.budget
    spinUp := if present.testBit 5 then new.spinUp else old.spinUp
    idle := if present.testBit 6 then new.idle else old.idle
    spinDown := if present.testBit 7 then new.spinDown else old.spinDown }

/-- `n` clamped to `lo..hi`. -/
def clamp (lo hi n : Nat) : Nat := if n < lo then lo else if hi < n then hi else n

/-- The zone offset clamped to its nearest end (R27). -/
def clampZone (z : Int) : Int := if z < -720 then -720 else if 840 < z then 840 else z

/-- R57 step 1. -/
def clampLmin (n : Nat) : Nat := clamp 2048 16384 n / 1024 * 1024

/-- R57 step 2: down to a power of two, then clamped; 0 is taken as 4,096. -/
def clampLtgt (n : Nat) : Nat := clamp 4096 32768 (if n = 0 then 0 else 2 ^ Nat.log2 n)

/-- R57 step 3. -/
def lowerLmin (lmin ltgt : Nat) : Nat := if ltgt < 2 * lmin then ltgt / 2 else lmin

/-- R57 step 4. -/
def clampLmax (ltgt n : Nat) : Nat := clamp (4 * ltgt) 131072 n / 4096 * 4096

/-- idle_seconds: 0 is kept, 1 to 59 are taken as 60, more than 7,200 as 7,200 (Table 9.3, note 1). -/
def clampIdle (n : Nat) : Nat := if n = 0 then 0 else clamp 60 7200 n

/-- The whole record clamped (R20, R27, R57, R159, Table 9.3): the budget to its range and then to not less than the
present total draw. -/
def Settings.clamped (draw : Nat) (x : Settings) : Settings :=
  { zone := clampZone x.zone
    lmin := lowerLmin (clampLmin x.lmin) (clampLtgt x.ltgt)
    ltgt := clampLtgt x.ltgt
    lmax := clampLmax (clampLtgt x.ltgt) x.lmax
    budget := max (clamp 7 30 x.budget) draw
    spinUp := clamp 4 30 x.spinUp
    idle := clampIdle x.idle
    spinDown := clamp 1 10 x.spinDown }

/-- The clamped record replaces the settings record; a changed budget brings an examination of the queue (R20, R160). -/
def replaceSettings (x : Settings) (s : State) : State :=
  let new := x.clamped s.bpc.totalDraw
  let changed := decide (new.budget ≠ s.slc.settings.budget)
  let s := { s with slc.settings := new }
  if changed then { s with bpc := s.bpc.examine new } else s

/-- The record a SETTINGS_WRITE carries, merged with the current one (R20). -/
def State.writtenSettings (s : State) (payload : List Byte) : Settings :=
  (Settings.ofBytes (payload.drop 2)).merge (field payload 0 2) s.slc.settings

/-- SETTINGS_READ (R21). -/
def execSettingsRead (s : State) : Host.Outcome State Fault Refusal :=
  take .settingsRead anyForm
    (fun r s => guarded [(!r.hasLength 0, .badField)] r (answer r .ok s.slc.settings.bytes) s) s

/-- SETTINGS_WRITE (R20). -/
def execSettingsWrite (s : State) : Host.Outcome State Fault Refusal :=
  take .settingsWrite anyForm
    (fun r => guarded [(!r.hasLength 21, .badField)] r fun s =>
      let s := replaceSettings (s.writtenSettings r.payload) s
      answer r .ok s.slc.settings.bytes s) s

end Sys2Proof.Machine
end

