-- ==== Sys2Proof/Machine/Clock.lean ====
section
/-!
DEFINITION. The Box Clock (chapter 2): second events, CLOCK_SET, CLOCK_READ.
-/

namespace Sys2Proof.Machine

/-- Box time one second later; it saturates (R22). -/
def nextSecond (t : Nat) : Nat := if t < Config.maxTime then t + 1 else Config.maxTime

/-- A minute event occurs at a second event after which box time is a multiple of 60 (R24). -/
def minuteAt (t : Nat) : Bool := decide (t % 60 = 0)

/-- A second event (R22, R23, R24, R176): box time, the minute event if one occurs, the bay timers and sense lines, the
power timer, and the due evaluation. A timer that starts in this step starts after the counting. -/
def secondPasses (sense : Vector Bool 4) (s : State) : State :=
  let t := nextSecond s.bck.boxTime
  let s := clockTo t (minuteAt t) s
  let s := { s with bpc := s.bpc.second sense, bxp.timer := tickTimer s.bxp.timer }
  evaluateDue s.scheduledClients s

/-- SECOND_EVENT (R22). -/
def execSecondEvent (sense : Vector Bool 4) (s : State) : Host.Outcome State Fault Refusal :=
  event (secondPasses sense) s

/-- The CLOCK_READ result record (Table 2.2). -/
def State.clockRecord (s : State) : List Byte :=
  le 4 s.bck.boxTime ++ [flagByte s.bck.clockSet] ++ leSigned s.slc.settings.zone ++ le 2 s.minute

/-- CLOCK_SET is taken (R25): box time, the clock-set flag, a minute event, the due evaluation of every client. When it
raises several flags in STANDBY_ENTRY, the last standby failure names the lowest-numbered client (DESIGN CHOICE,
assumption 28). -/
def setClock (t : Nat) (s : State) : State :=
  evaluateDue allClients (clockTo t true { s with bck.clockSet := true })

/-- CLOCK_SET (R25). -/
def execClockSet (s : State) : Host.Outcome State Fault Refusal :=
  take .clockSet anyForm
    (fun r => guarded [(!r.hasLength 4, .badField)] r fun s =>
      let s := setClock (field r.payload 0 4) s
      answer r .ok s.clockRecord s) s

/-- CLOCK_READ (R26). -/
def execClockRead (s : State) : Host.Outcome State Fault Refusal :=
  take .clockRead anyForm
    (fun r s => guarded [(!r.hasLength 0, .badField)] r (answer r .ok s.clockRecord) s) s

end Sys2Proof.Machine
end

