-- ==== Sys2Proof/Machine/Clients.lean ====
section
/-!
DEFINITION. The Client Table's requests (sections 2.4 to 2.8): CLIENT_SET, CLIENT_READ, CLIENT_RETIRE, SCHEDULE_SET.
-/

namespace Sys2Proof.Machine

/-! ### What other blocks report of a client -/

/-- Collections that are not FREE with (c, g) as owner (R38, R39). -/
def State.collectionsOwned (s : State) (c g : Nat) : Nat :=
  (s.oct.colls.filter fun p => decide (p.2.state ≠ .free) && decide (p.2.owner = (c, g))).length

/-- Stream contexts that are not CLOSED and name the client (R38, R39). -/
def State.streamsOpenOf (s : State) (c : Nat) : Nat :=
  (s.streams.toList.filter fun x => decide (x.state ≠ .closed) && decide (x.client = c)).length

/-- Plan slots that are not FREE and name the client (R38, R39). -/
def State.plansOpenOf (s : State) (c : Nat) : Nat :=
  (s.rpb.plans.toList.filter fun x => decide (x.state ≠ .free) && decide (x.client = c)).length

/-! ### The client record -/

/-- Roles as a record shows them (Table 2.7). -/
def Role.code : Role → Nat
  | .unset => 0 | .source => 1 | .viewer => 2 | .family => 3

/-- The role of a CLIENT_SET payload (Table 2.5). -/
def Role.ofCode : Nat → Option Role
  | 1 => some .source
  | 2 => some .viewer
  | 3 => some .family
  | _ => none

/-- Hold status as a record shows it (Table 2.7). -/
def HoldStatus.code : HoldStatus → Nat
  | .empty => 0 | .one => 1 | .two => 2 | .lost => 3

/-- Bytes 36 to 44 of a client record (Table 2.7). -/
def scheduleBytes : Option Schedule → List Byte
  | none => List.replicate 9 0#8
  | some x => 1#8 :: (le 2 x.period ++ le 4 x.nextDue ++ le 2 x.lead)

/-- The client record of 56 bytes (Table 2.7). -/
def State.clientRecord (s : State) (c : Nat) : List Byte :=
  let x := s.client c
  le 1 c ++ [flagByte x.active] ++ le 1 x.generation ++ le 1 x.role.code ++ x.address ++ x.label
    ++ le 4 (x.quota.getD 0) ++ le 6 x.charged ++ scheduleBytes x.schedule ++ le 1 x.missed
    ++ [flagByte (s.bxp.dueFlag c)] ++ le 1 x.filters.length ++ le 1 x.holdStatus.code ++ le 1 x.held.length
    ++ le 2 (s.collectionsOwned c x.generation) ++ le 1 (s.streamsOpenOf c) ++ le 1 (s.plansOpenOf c) ++ [0#8, 0#8]

/-! ### CLIENT_SET -/

/-- An address is acceptable (R32): not all zeros, group bit clear. -/
def acceptableAddress (a : List Byte) : Bool := a.any (fun b => decide (b ≠ 0#8)) && !(a.getD 0 0#8).getLsbD 0

/-- Another ACTIVE record holds the address (R32). -/
def State.addressTaken (s : State) (c : Nat) (a : List Byte) : Bool :=
  (List.range 16).any fun k => decide (k ≠ c) && (s.client k).active && decide ((s.client k).address = a)

/-- The lowest-numbered FREE record (R30). -/
def State.lowestFreeClient (s : State) : Option Nat := (List.range 16).find? fun k => !(s.client k).active

/-- The record a CLIENT_SET names: the number given, or the lowest FREE one for FFh (R30). -/
def State.clientChosen (s : State) (n : Nat) : Option Nat := if n = 255 then s.lowestFreeClient else some n

/-- The quota taken from a payload's field (R33). -/
def quotaTaken (q charged : Nat) : Option Nat :=
  if q = 0 then none
  else if charged ≤ q * Config.mib then some q
  else some ((charged + (Config.mib - 1)) / Config.mib)

/-- A change of role from SOURCE or FAMILY to VIEWER is refused (R31). -/
def State.viewerRefused (s : State) (c : Nat) (role : Role) : Bool :=
  let x := s.client c
  x.active && decide (x.role = .source ∨ x.role = .family) && decide (role = .viewer)
    && (decide (0 < s.collectionsOwned c x.generation) || decide (0 < s.streamsOpenOf c))

/-- The checks of CLIENT_SET (R30). -/
def clientSetChecks (s : State) (r : Request) : List (Bool × Status) :=
  let p := r.payload
  let address := slice p 2 6
  let role := (Role.ofCode (byteAt p 1)).getD .unset
  let c := (s.clientChosen (byteAt p 0)).getD 16
  changeGate s ++
    [(!r.hasLength 28, .badField),
     (decide (15 < byteAt p 0) && decide (byteAt p 0 ≠ 255), .badField),
     ((Role.ofCode (byteAt p 1)).isNone, .badField),
     (!acceptableAddress address, .badField),
     (decide (Config.maxQuota < field p 24 4), .badField),
     ((s.clientChosen (byteAt p 0)).isNone, .full),
     (s.addressTaken c address, .addressTaken),
     (s.viewerRefused c role, .ownsRecords)]

/-- A record created with the fields of a payload (R28, R30, Table 2.4). -/
def Client.create (x : Client) (role : Role) (address label : List Byte) (q : Nat) : Client :=
  { Client.free ((x.generation + 1) % 256) with
    active := true, role := role, address := address, label := label, quota := quotaTaken q 0 }

/-- A role changes to VIEWER (R31). -/
def Client.becomesViewer (x : Client) (role : Role) : Bool := x.active && decide (x.role ≠ .viewer) && decide (role = .viewer)

/-- A record modified with the fields of a payload (R30); a change to VIEWER clears schedule and missed (R31). -/
def Client.modify (x : Client) (role : Role) (address label : List Byte) (q : Nat) : Client :=
  let new := { x with role := role, address := address, label := label, quota := quotaTaken q x.charged }
  if x.becomesViewer role then { new with schedule := none, missed := 0 } else new

/-- A client that becomes VIEWER has no schedule, and its due flag is dropped (R31). -/
def dropDueIf (drop : Bool) (c : Nat) (s : State) : State := if drop then dropDue c s else s

/-- CLIENT_SET is taken for record `c` (R30, R31, R33). -/
def setClientRecord (c : Nat) (p : List Byte) (s : State) : State :=
  let x := s.client c
  let role := (Role.ofCode (byteAt p 1)).getD .unset
  let new := if x.active then x.modify role (slice p 2 6) (slice p 8 16) (field p 24 4)
    else x.create role (slice p 2 6) (slice p 8 16) (field p 24 4)
  dropDueIf (x.becomesViewer role) c (s.setClient c new)

/-- CLIENT_SET is taken, and answered with the record after it (R30). -/
def clientSetTaken (r : Request) (s : State) : State :=
  let c := (s.clientChosen (byteAt r.payload 0)).getD 16
  let s := setClientRecord c r.payload s
  answer r .ok (s.clientRecord c) s

/-- A CLIENT_SET request, checked and taken (R30). -/
def clientSetRequest (r : Request) (s : State) : State := guarded (clientSetChecks s r) r (clientSetTaken r) s

/-- CLIENT_SET (R30). -/
def execClientSet (s : State) : Host.Outcome State Fault Refusal := take .clientSet anyForm clientSetRequest s

/-! ### CLIENT_READ and CLIENT_RETIRE -/

/-- The checks of a request that carries one client number (R38, R39). -/
def clientNumberChecks (r : Request) : List (Bool × Status) :=
  [(!r.hasLength 1, .badField), (decide (15 < byteAt r.payload 0), .badField)]

/-- A CLIENT_READ request, checked and answered with the record as it stands (R38). -/
def clientReadRequest (r : Request) (s : State) : State :=
  guarded (readGate s ++ clientNumberChecks r) r (answer r .ok (s.clientRecord (byteAt r.payload 0))) s

/-- CLIENT_READ (R38). -/
def execClientRead (s : State) : Host.Outcome State Fault Refusal := take .clientRead anyForm clientReadRequest s

/-- The client owns records that refuse its retirement (R39). -/
def State.ownsRecords (s : State) (c : Nat) : Bool :=
  decide (0 < s.collectionsOwned c (s.client c).generation) || decide (0 < s.streamsOpenOf c)
    || decide (0 < s.plansOpenOf c) || decide ((s.client c).holdStatus ≠ .empty)

/-- The checks of CLIENT_RETIRE (R39). -/
def clientRetireChecks (s : State) (r : Request) : List (Bool × Status) :=
  changeGate s ++ clientNumberChecks r ++
    [(!(s.client (byteAt r.payload 0)).active, .noSuch), (s.ownsRecords (byteAt r.payload 0), .ownsRecords)]

/-- The retirement of client `c` (R39): its grants go, the record becomes FREE, its due flag is dropped. -/
def retireClient (c : Nat) (s : State) : State :=
  let s := removeClientGrants c s
  dropDue c (s.setClient c (Client.free (s.client c).generation))

/-- CLIENT_RETIRE (R39). -/
def execClientRetire (s : State) : Host.Outcome State Fault Refusal :=
  take .clientRetire anyForm
    (fun r s => guarded (clientRetireChecks s r) r
      (fun s =>
        let s := retireClient (byteAt r.payload 0) s
        answer r .ok (s.clientRecord (byteAt r.payload 0)) s) s) s

/-! ### SCHEDULE_SET -/

/-- The checks of SCHEDULE_SET (R36). -/
def scheduleSetChecks (s : State) (r : Request) : List (Bool × Status) :=
  let p := r.payload
  let present := decide (byteAt p 1 = 1)
  changeGate s ++
    [(!r.hasLength 10, .badField),
     (decide (15 < byteAt p 0), .badField),
     (decide (1 < byteAt p 1), .badField),
     (present && (decide (field p 2 2 < 1) || decide (40320 < field p 2 2)), .badField),
     (present && decide (3600 < field p 8 2), .badField),
     (!(s.client (byteAt p 0)).active, .noSuch),
     (present && decide ((s.client (byteAt p 0)).role = .viewer), .state)]

/-- The schedule a SCHEDULE_SET carries (Table 2.6). -/
def scheduleOf (p : List Byte) : Option Schedule :=
  if byteAt p 1 = 1 then some { period := field p 2 2, nextDue := field p 4 4, lead := field p 8 2 } else none

/-- The schedule of client `c` is written or cleared, missed becomes 0, and the client is evaluated at once (R36). -/
def writeSchedule (c : Nat) (sch : Option Schedule) (s : State) : State :=
  evaluateDue [c] (s.setClient c { s.client c with schedule := sch, missed := 0 })

/-- SCHEDULE_SET (R36). -/
def execScheduleSet (s : State) : Host.Outcome State Fault Refusal :=
  take .scheduleSet anyForm
    (fun r s => guarded (scheduleSetChecks s r) r
      (fun s =>
        let s := writeSchedule (byteAt r.payload 0) (scheduleOf r.payload) s
        answer r .ok (s.clientRecord (byteAt r.payload 0)) s) s) s

end Sys2Proof.Machine
end

