-- ==== Sys2Proof/Machine/Packets.lean ====
section
/-!
DEFINITION. A chunk presented to the Chunk Index (R70), with the requests the Client Table may take between its charge and
the refund of a POOL_FULL, and the taking of a packet's bytes and of END (R47 to R53).
-/

namespace Sys2Proof.Machine

/-! ### A presented chunk -/

/-- What a presented chunk comes to: a verdict, or a halt reason. -/
inductive Presented where
  | recorded (v : Verdict)
  | halt (why : HaltReason)
  deriving DecidableEq, Repr

/-- The Client Table takes up to `n` of its waiting requests, oldest first, while the oldest is a CLIENT_READ or a
CLIENT_SET (R11, R70). -/
def takenBetween : Nat → State → State
  | 0, s => s
  | n + 1, s =>
    match s.slc.offered .clt with
    | some r =>
      if r.kind = .clientRead then takenBetween n (clientReadRequest r s)
      else if r.kind = .clientSet then takenBetween n (clientSetRequest r s)
      else s
    | none => s

/-- The refund that follows POOL_FULL where a verdict charged (R70 step 3). How many of the requests that wait at the Client
Table stand between the charge and it is open: the free value `Config.requestsBetween` at the model's counter
(assumption 26). -/
def refundVerdict (amount : Option Nat) (c g : Nat) (s : State) : State :=
  match amount with
  | some length => refund c g length (takenBetween (Config.requestsBetween s.free) (s.spend 1))
  | none => s

/-- A presented chunk of stream `i` is taken in the steps of R70. A CLIENT_READ or CLIENT_SET between the charge of step 2
and the refund of a POOL_FULL at step 3 sees the charge. -/
def present (i : Nat) (d : Digest) (length : Nat) (s : State) : Presented × State :=
  let x := s.stream i
  let v := s.chooseVerdict d
  let amount := s.verdictCharge v length
  if s.quotaRefuses amount x.client x.generation then (.halt .quota, s)
  else
    let s := chargeVerdict amount x.client x.generation s
    let ref := v.ref d length
    let old := recipeSlots (s.object x.object).recipe
    if s.poolFits old (old + ref.slots) then
      let s := appendRef x.object ref length s
      (.recorded v, applyVerdict v i x.client x.generation d length s)
    else (.halt .poolFull, refundVerdict amount x.client x.generation s)

/-! ### Taking bytes -/

/-- A verdict record (Table 3.6). -/
structure VerdictRecord where
  ordinal : Nat
  offset : Nat
  length : Nat
  verdict : Verdict
  deriving DecidableEq, Repr

/-- A verdict record as 18 bytes (Table 3.6). -/
def VerdictRecord.bytes (r : VerdictRecord) : List Byte :=
  le 4 r.ordinal ++ le 6 r.offset ++ le 3 r.length ++ [r.verdict.code] ++ le 4 (r.verdict.handle.getD 0xFFFFFFFF)

/-- The stream after the verdict on its current chunk (R51): the item of Table 3.3, the next ordinal, a new chunk. -/
def Stream.afterVerdict (x : Stream) (v : Verdict) (d : Digest) : Stream :=
  { x with
    outstanding := match v.item d x.chunkLength with
      | some k => x.outstanding ++ [{ ordinal := x.ordinal, kind := k }]
      | none => x.outstanding
    ordinal := x.ordinal + 1
    chunkLength := 0
    running := Running.start }

/-- A halt while a packet is taken (R53): the position goes back to the end of the last recorded chunk, the current
chunk is dropped, and the stream halts. The rule does not say what the window then holds; here it keeps the bytes taken,
those of the dropped chunk included (DESIGN CHOICE, assumption 21). -/
def haltPacket (i : Nat) (why : HaltReason) (s : State) : State :=
  let x := s.stream i
  haltStream i why
    (s.setStream i { x with position := x.position - x.chunkLength, chunkLength := 0, running := Running.start })

/-- The current chunk of stream `i` is cut and presented (R49 step 4, R51): its record, or none when the stream halted. -/
def cutChunk (i : Nat) (s : State) : Option VerdictRecord × State :=
  let x := s.stream i
  let d := x.running.finish
  match present i d x.chunkLength s with
  | (.recorded v, s') =>
    (some { ordinal := x.ordinal, offset := x.position - x.chunkLength, length := x.chunkLength, verdict := v },
     s'.setStream i (x.afterVerdict v d))
  | (.halt why, s') => (none, haltPacket i why s')

/-- A byte joins the stream (R49 step 2). -/
def Stream.takeByte (x : Stream) (b : Byte) : Stream :=
  { x with
    window := slideWindow x.window b
    position := x.position + 1
    chunkLength := x.chunkLength + 1
    running := x.running.push b }

/-- The boundary test of a stream's own parameters (R55). -/
def Stream.atBoundary (x : Stream) : Bool := boundary x.lmin x.ltgt x.lmax x.chunkLength x.window

/-- The bytes of a packet, one after another, up to a halt (R49, R53): the verdict records in cut order. -/
def takeBytes (i : Nat) : List Byte → List VerdictRecord → State → List VerdictRecord × State
  | [], recs, s => (recs, s)
  | b :: bs, recs, s =>
    let x := s.stream i
    if x.position = Config.maxObjectLength then (recs, haltPacket i .tooLong s)
    else
      let s := s.setStream i (x.takeByte b)
      if (x.takeByte b).atBoundary then
        match cutChunk i s with
        | (some r, s') => takeBytes i bs (recs ++ [r]) s'
        | (none, s') => (recs, s')
      else takeBytes i bs recs s

/-- The stream enters ENDED (R50). -/
def endStream (i : Nat) (s : State) : State := s.setStream i { s.stream i with state := .ended }

/-- END is taken after the last byte (R50): a final chunk is cut if one is open, and the stream enters ENDED; not when
the packet halted the stream. -/
def takeEnd (i : Nat) (recs : List VerdictRecord) (s : State) : List VerdictRecord × State :=
  if (s.stream i).state ≠ .open then (recs, s)
  else if (s.stream i).chunkLength = 0 then (recs, endStream i s)
  else match cutChunk i s with
    | (some r, s') => (recs ++ [r], endStream i s')
    | (none, s') => (recs, s')

/-- A packet that passed its checks is taken whole (R47, R49, R50). -/
def takePacket (i : Nat) (bytes : List Byte) (isEnd : Bool) (s : State) : List VerdictRecord × State :=
  let t := takeBytes i bytes [] s
  if isEnd then takeEnd i t.1 t.2 else t

/-- The admission test of R48. -/
def Stream.admits (x : Stream) (payload : Nat) (isEnd : Bool) : Bool :=
  decide (x.outstanding.length + (payload + (x.lmin - 1)) / x.lmin + (if isEnd then 1 else 0) ≤ Config.outstandingMax)

end Sys2Proof.Machine
end

