-- ==== Sys2Proof/Machine/Streams.lean ====
section
/-!
DEFINITION. The Chunking Engine's requests (chapter 3): STREAM_OPEN, STREAM_DATA, STREAM_COMMIT, STREAM_FINISH, its
completion, STREAM_ABORT, STREAM_READ.
-/

namespace Sys2Proof.Machine

/-! ### STREAM_OPEN -/

/-- The lowest-numbered CLOSED context (R46). -/
def State.closedStream (s : State) : Option Nat := (List.range 8).find? fun i => decide ((s.stream i).state = .closed)

/-- The lowest-numbered FREE object record (R93). -/
def State.freeObject (s : State) : Option Nat := Table.lowestFree Config.objectCount s.oct.objects

/-- The member list and its reserved slots already account for 262,144 members (R99, R104). -/
def Coll.isFull (c : Coll) : Bool := decide (Config.maxMembers ≤ c.slots)

/-- The fields of a STREAM_OPEN payload (Table 3.4). -/
structure OpenFields where
  client : Nat
  collection : Nat
  bay : Nat
  deriving DecidableEq, Repr

/-- A STREAM_OPEN payload read (Table 3.4). -/
def OpenFields.ofBytes (p : List Byte) : OpenFields :=
  { client := byteAt p 0, collection := field p 1 2, bay := byteAt p 3 }

/-- Steps 3 to 8 of R45, on records in range. -/
def streamOpenConditions (s : State) (f : OpenFields) : List (Bool × Status) :=
  let x := s.client f.client
  let c := s.coll f.collection
  [(decide (s.bxp.power ≠ .run), .state),
   (s.closedStream.isNone, .full),
   (!x.active, .noSuch),
   (decide (x.role = .viewer), .state),
   (decide (c.state = .free), .noSuch),
   (decide (c.state ≠ .open) || decide (c.owner ≠ (f.client, x.generation)), .state),
   (s.bpc.isEmpty f.bay, .bayLost),
   (s.freeObject.isNone, .full),
   (c.isFull, .full),
   (!s.poolFits c.slots (c.slots + 1), .poolFull)]

/-- The checks of STREAM_OPEN (R45). -/
def streamOpenChecks (s : State) (r : Request) : List (Bool × Status) :=
  let f := OpenFields.ofBytes r.payload
  changeGate s ++
    [(!r.hasLength 4, .badField), (decide (15 < f.client), .badField),
     (decide (Config.collectionCount ≤ f.collection), .badField), (decide (3 < f.bay), .badField)]
    ++ streamOpenConditions s f

/-- The context that opens (R46). -/
def Stream.opened (s : State) (f : OpenFields) (n : Nat) : Stream :=
  { Stream.closed with
    state := .open, client := f.client, generation := (s.client f.client).generation, object := n,
    collection := f.collection, bay := f.bay, bayHeld := true,
    lmin := s.slc.settings.lmin, ltgt := s.slc.settings.ltgt, lmax := s.slc.settings.lmax }

/-- The object record, the reserved slot, the hold and the context of an open stream (R46, R93, R99). -/
def openStream (f : OpenFields) (i n : Nat) (s : State) : State :=
  let x := Stream.opened s f n
  let c := s.coll f.collection
  let s := s.setObject n { Obj.free with state := .building, owner := (x.client, x.generation) }
  let s := replaceColl f.collection { c with reserved := c.reserved + 1 } s
  (holdBay .stream f.bay s).setStream i x

/-- The STREAM_OPEN result record (Table 3.4). -/
def Stream.openRecord (x : Stream) (i : Nat) : List Byte :=
  le 1 i ++ le 3 x.object ++ le 4 x.lmin ++ le 4 x.ltgt ++ le 4 x.lmax

/-- STREAM_OPEN is taken (R46). -/
def streamOpenTaken (r : Request) (s : State) : State :=
  let i := s.closedStream.getD 0
  let s := openStream (OpenFields.ofBytes r.payload) i (s.freeObject.getD 0) s
  answer r .ok ((s.stream i).openRecord i) s

/-- STREAM_OPEN (R45, R46). -/
def execStreamOpen (s : State) : Host.Outcome State Fault Refusal :=
  take .streamOpen anyForm (fun r s => guarded (streamOpenChecks s r) r (streamOpenTaken r) s) s

/-! ### STREAM_DATA -/

/-- Stream states as records show them (Table 3.5, note 1). -/
def StreamState.code : StreamState → Byte
  | .closed => 0#8 | .open => 1#8 | .ended => 2#8 | .finishing => 3#8 | .halted => 4#8

/-- The halt reason's byte; 0 when there is none (Table 3.5). -/
def haltCode (x : Option HaltReason) : Byte :=
  match x with
  | some why => why.status.code
  | none => 0#8

/-- The STREAM_DATA result record (Table 3.5). -/
def Stream.dataRecord (x : Stream) (recs : List VerdictRecord) : List Byte :=
  [x.state.code, haltCode x.haltReason] ++ le 6 x.position ++ le 1 recs.length ++ le 1 x.outstanding.length
    ++ recs.flatMap VerdictRecord.bytes

/-- The status of a packet that was taken (R47, R53): OK, or the halt reason. -/
def Stream.dataStatus (x : Stream) : Status :=
  match x.haltReason with
  | some why => why.status
  | none => .ok

/-- The packet carries END (R47). -/
def Request.isEnd (r : Request) : Bool := decide (r.auxHigh = 1)

/-- Checks 1 to 3 of STREAM_DATA (R47). -/
def streamDataChecks (s : State) (r : Request) : List (Bool × Status) :=
  changeGate s ++
    [(decide (7 < r.auxLow), .badField),
     (decide (1 < r.auxHigh), .badField),
     (decide (r.payload.length = 0) && !r.isEnd, .badField),
     (decide ((s.stream r.auxLow).state ≠ .open), .state)]

/-- An admitted packet is taken whole and answered with its verdicts; one that is not admitted is answered BACKLOG with
no verdict and no effect (R47, R48). -/
def streamDataTaken (r : Request) (s : State) : State :=
  let i := r.auxLow
  if (s.stream i).admits r.payload.length r.isEnd then
    let t := takePacket i r.payload r.isEnd s
    let x := t.2.stream i
    answer r x.dataStatus (x.dataRecord t.1) t.2
  else answer r .backlog ((s.stream i).dataRecord []) s

/-- STREAM_DATA (R47). -/
def execStreamData (s : State) : Host.Outcome State Fault Refusal :=
  take .streamData anyForm (fun r s => guarded (streamDataChecks s r) r (streamDataTaken r) s) s

/-! ### STREAM_COMMIT -/

/-- The checks of a request whose aux is a stream number (R43). -/
def streamNumberChecks (r : Request) : List (Bool × Status) := [(decide (7 < r.auxNat), .badField)]

/-- The stream is CLOSED (R58, R64). -/
def closedCheck (s : State) (r : Request) : List (Bool × Status) :=
  [(decide ((s.stream r.auxNat).state = .closed), .state)]

/-- The entries of a batch, each whole before the next (R58). -/
def commitEntries (i : Nat) : List (List Byte) → List Status → State → List Status × State
  | [], sts, s => (sts, s)
  | e :: es, sts, s =>
    let t := commitEntry i (CommitEntry.ofBytes e) s
    commitEntries i es (sts ++ [t.1]) t.2

/-- STREAM_COMMIT is taken (R58). -/
def streamCommitTaken (r : Request) (s : State) : State :=
  let t := commitEntries r.auxNat r.entries [] s
  answerBatch r t.1 t.2

/-- STREAM_COMMIT (R58, R59). -/
def execStreamCommit (s : State) : Host.Outcome State Fault Refusal :=
  take .streamCommit anyForm
    (fun r s => guarded (changeGate s ++ streamNumberChecks r ++ closedCheck s r) r (streamCommitTaken r) s) s

/-! ### STREAM_FINISH and completion -/

/-- The stream completes when it is FINISHING with an empty list (R61). -/
def completeIfFinished (i : Nat) (s : State) : State := if (s.stream i).finished then completeStream i s else s

/-- The SLC keeps the response of a finish and frees its place (R13). -/
def Slc.deferFinish (slc : Slc) (r : Request) : Slc :=
  { slc.freePlace r.slot with deferred := put slc.deferred r.auxNat (some (r.tag, r.aux)) }

/-- STREAM_FINISH is taken (R60): FINISHING, the response deferred, completion at once when nothing is outstanding. -/
def streamFinishTaken (r : Request) (s : State) : State :=
  let i := r.auxNat
  let s := s.setStream i { s.stream i with state := .finishing }
  completeIfFinished i { s with slc := s.slc.deferFinish r }

/-- The checks of STREAM_FINISH (R43, R60). -/
def streamFinishChecks (s : State) (r : Request) : List (Bool × Status) :=
  changeGate s ++ streamNumberChecks r ++
    [(!r.hasLength 0, .badField), (decide ((s.stream r.auxNat).state ≠ .ended), .state)]

/-- STREAM_FINISH (R60). -/
def execStreamFinish (s : State) : Host.Outcome State Fault Refusal :=
  take .streamFinish anyForm (fun r s => guarded (streamFinishChecks s r) r (streamFinishTaken r) s) s

/-- STREAM_COMPLETION (R61): the stream given, when it is FINISHING with an empty list. -/
def execStreamCompletion (stream : Fin 8) (s : State) : Host.Outcome State Fault Refusal :=
  event (completeIfFinished stream.val) s

/-! ### STREAM_ABORT and STREAM_READ -/

/-- OWED items on the list. -/
def Stream.owedCount (x : Stream) : Nat := (x.outstanding.filter Item.owed).length

/-- The STREAM_ABORT result record (R64), from the context before the abort. -/
def Stream.abortRecord (x : Stream) (i : Nat) : List Byte :=
  le 1 i ++ le 3 x.object ++ [flagByte (!x.abortFrees)] ++ le 1 x.owedCount

/-- STREAM_ABORT is taken (R64). -/
def streamAbortTaken (r : Request) (s : State) : State :=
  let i := r.auxNat
  answer r .ok ((s.stream i).abortRecord i) (abortStream i s)

/-- STREAM_ABORT (R64). -/
def execStreamAbort (s : State) : Host.Outcome State Fault Refusal :=
  take .streamAbort anyForm
    (fun r s => guarded (changeGate s ++ streamNumberChecks r ++ [(!r.hasLength 0, .badField)] ++ closedCheck s r) r
      (streamAbortTaken r) s) s

/-- An outstanding item as 44 bytes (R66). -/
def Item.bytes (it : Item) : List Byte :=
  let handle (k : Byte) (h : Nat) := k :: (le 4 it.ordinal ++ le 4 h ++ le 3 0 ++ List.replicate 32 0#8)
  match it.kind with
  | .owedNew h => handle 1#8 h
  | .owedPrivate d n => 2#8 :: (le 4 it.ordinal ++ le 4 0xFFFFFFFF ++ le 3 n ++ digestBytes d)
  | .owedRewrite h => handle 3#8 h
  | .pending h => handle 4#8 h

/-- The STREAM_READ result record (R66). -/
def Stream.record (x : Stream) : List Byte :=
  [x.state.code] ++ le 1 x.client ++ le 1 x.generation ++ le 3 x.object ++ le 2 x.collection ++ le 1 x.bay
    ++ [flagByte x.bayHeld] ++ le 4 x.lmin ++ le 4 x.ltgt ++ le 4 x.lmax ++ le 6 x.position ++ le 3 x.chunkLength
    ++ le 4 x.ordinal ++ [haltCode x.haltReason] ++ x.window ++ le 1 x.outstanding.length
    ++ x.outstanding.flatMap Item.bytes

/-- STREAM_READ (R66). -/
def execStreamRead (s : State) : Host.Outcome State Fault Refusal :=
  take .streamRead anyForm
    (fun r s => guarded (readGate s ++ streamNumberChecks r ++ [(!r.hasLength 0, .badField)]) r
      (answer r .ok (s.stream r.auxNat).record) s) s

end Sys2Proof.Machine
end

