-- ==== Sys2Proof/Machine/Chunks.lean ====
section
/-!
DEFINITION. The Chunk Index's request CHUNK_READ (R90, Table 4.4).
-/

namespace Sys2Proof.Machine

/-- Entry states as a record shows them (Table 4.4). -/
def ChunkState.code : ChunkState → Byte
  | .empty => 0#8 | .reserved => 1#8 | .present => 2#8 | .needsWriter => 3#8 | .damaged => 4#8 | .rewriting => 5#8

/-- A location as 9 bytes: bay, FFh when absent, and block, 0 when absent (Table 4.4). -/
def locBytes : Option Loc → List Byte
  | none => 0xFF#8 :: le 8 0
  | some l => le 1 l.bay ++ le 8 l.block

/-- Bytes 20 to 22: payer present, client and generation. With no payer the table states no content for the last two;
they are `open_` (assumption 3). -/
def payerBytes (open_ : List Byte) : Option (Nat × Nat) → List Byte
  | none => 0#8 :: open_
  | some (c, g) => 1#8 :: (le 1 c ++ le 1 g)

/-- The CHUNK_READ result record (Table 4.4). -/
def Chunk.record (e : Chunk) (h : Nat) (open_ : List Byte) : List Byte :=
  le 4 h ++ [e.state.code] ++ le 3 e.refcount ++ le 3 e.length ++ locBytes e.loc ++ payerBytes open_ e.payer
    ++ le 1 (e.writer.getD 255) ++ digestBytes e.digest

/-- The handle a CHUNK_READ names: given, or found by digest (R67, R90). -/
def State.chunkNamed (s : State) (p : List Byte) : Option Nat :=
  if byteAt p 0 = 0 then some (field p 1 4) else s.findDigest (digestOf (slice p 1 32))

/-- The checks of CHUNK_READ (R69, R90). -/
def chunkReadChecks (s : State) (r : Request) : List (Bool × Status) :=
  let p := r.payload
  readGate s ++
    [(!r.hasLength 33, .badField),
     (decide (1 < byteAt p 0), .badField),
     (decide (byteAt p 0 = 0) && decide (Config.chunkCount ≤ field p 1 4), .badField),
     ((s.chunkNamed p).isNone, .noSuch)]

/-- CHUNK_READ is taken (R90). -/
def chunkReadTaken (r : Request) (s : State) : State :=
  let h := (s.chunkNamed r.payload).getD 0
  answer r .ok ((s.chunk h).record h (s.freeBytes 2)) (s.spend 2)

/-- CHUNK_READ (R90). -/
def execChunkRead (s : State) : Host.Outcome State Fault Refusal :=
  take .chunkRead anyForm (fun r s => guarded (chunkReadChecks s r) r (chunkReadTaken r) s) s

end Sys2Proof.Machine
end

