-- ==== Sys2Proof/Machine/Collections.lean ====
section
/-!
DEFINITION. The Object Catalogue's requests (chapter 5): COLLECTION_OPEN, COLLECTION_CLOSE with the schedule advance it
reports (R177), RETIRE_COLLECTION, MEMBER_ADD, MEMBER_REMOVE, COLLECTION_READ, MEMBERS_FETCH, OBJECT_READ.
-/

namespace Sys2Proof.Machine

/-! ### The schedule advance -/

/-- k of R177 for `next`, period `p` and S. -/
def advanceSteps (next p S : Nat) : Nat := if S < next + p then 1 else (S - next) / p + 1

/-- A client's schedule and missed count after an advance at box time `t` (R177). -/
def Client.advanced (t : Nat) (x : Client) : Client :=
  match x.schedule with
  | none => x
  | some sch =>
    let p := sch.period * 60
    let k := advanceSteps sch.nextDue p (t + sch.lead)
    let next := sch.nextDue + k * p
    if Config.maxTime < next then { x with schedule := none }
    else { x with schedule := some { sch with nextDue := next }, missed := min 255 (x.missed + (k - 1)) }

/-- The Object Catalogue reports a closed snapshot of owner (c, g) (R177). -/
def advanceSchedule (c g : Nat) (s : State) : State :=
  let x := s.client c
  if x.active ∧ x.generation = g ∧ x.schedule.isSome then
    evaluateDue [c] (s.setClient c (x.advanced s.bck.boxTime))
  else s

/-! ### The collection record -/

/-- Collection states as a record shows them (Table 5.7). -/
def CollState.code : CollState → Byte
  | .free => 0#8 | .open => 1#8 | .closed => 2#8 | .retiring => 3#8

/-- Collection kinds as a record shows them (Table 5.7). -/
def CollKind.code : CollKind → Byte
  | .snapshot => 1#8 | .album => 2#8

/-- The collection record of 32 bytes (Table 5.7). -/
def State.collRecord (s : State) (n : Nat) : List Byte :=
  let c := s.coll n
  le 2 n ++ [c.state.code, c.kind.code] ++ le 1 c.owner.1 ++ le 1 c.owner.2 ++ le 4 c.created
    ++ [flagByte c.closed.isSome] ++ le 4 (c.closed.getD 0) ++ le 3 c.members.length ++ le 1 c.reserved
    ++ le 4 (pagesOf c.slots) ++ le 4 s.oct.freePages ++ List.replicate 5 0#8

/-- The collection number of a payload of 2 bytes. -/
def Request.collNumber (r : Request) : Nat := field r.payload 0 2

/-- BAD_FIELD for a payload that names one collection (Table 5.6, note 1). -/
def collNumberChecks (r : Request) : List (Bool × Status) :=
  [(!r.hasLength 2, .badField), (decide (Config.collectionCount ≤ r.collNumber), .badField)]

/-! ### Opening, closing, retiring -/

/-- The kind of a COLLECTION_OPEN payload (Table 5.6). -/
def CollKind.ofCode : Nat → Option CollKind
  | 1 => some .snapshot
  | 2 => some .album
  | _ => none

/-- The lowest-numbered FREE collection (R101). -/
def State.freeColl (s : State) : Option Nat := Table.lowestFree Config.collectionCount s.oct.colls

/-- The checks of COLLECTION_OPEN (R101). -/
def collectionOpenChecks (s : State) (r : Request) : List (Bool × Status) :=
  let x := s.client (byteAt r.payload 0)
  changeGate s ++
    [(!r.hasLength 2, .badField),
     (decide (15 < byteAt r.payload 0), .badField),
     ((CollKind.ofCode (byteAt r.payload 1)).isNone, .badField),
     (!x.active, .noSuch),
     (decide (x.role = .viewer), .state),
     (s.freeColl.isNone, .full)]

/-- The collection a COLLECTION_OPEN creates (R101). -/
def Coll.created_ (s : State) (r : Request) : Coll :=
  { Coll.free with
    state := .open, kind := (CollKind.ofCode (byteAt r.payload 1)).getD .snapshot,
    owner := (byteAt r.payload 0, (s.client (byteAt r.payload 0)).generation), created := s.bck.boxTime }

/-- COLLECTION_OPEN is taken (R101). -/
def collectionOpenTaken (r : Request) (s : State) : State :=
  let n := s.freeColl.getD 0
  let s := s.setColl n (Coll.created_ s r)
  answer r .ok (s.collRecord n) s

/-- COLLECTION_OPEN (R101). -/
def execCollectionOpen (s : State) : Host.Outcome State Fault Refusal :=
  take .collectionOpen anyForm (fun r s => guarded (collectionOpenChecks s r) r (collectionOpenTaken r) s) s

/-- The checks of COLLECTION_CLOSE (R102). -/
def collectionCloseChecks (s : State) (r : Request) : List (Bool × Status) :=
  let c := s.coll r.collNumber
  changeGate s ++ collNumberChecks r ++
    [(decide (c.state = .free), .noSuch),
     (decide (c.state = .retiring), .retiring),
     (decide (c.kind = .album) || decide (c.state = .closed), .state),
     (decide (0 < c.reserved), .streamsOpen)]

/-- A snapshot is sealed and its owner's schedule advances (R102, R177). -/
def closeSnapshot (n : Nat) (s : State) : State :=
  let c := s.coll n
  advanceSchedule c.owner.1 c.owner.2 (s.setColl n { c with state := .closed, closed := some s.bck.boxTime })

/-- COLLECTION_CLOSE (R102). -/
def execCollectionClose (s : State) : Host.Outcome State Fault Refusal :=
  take .collectionClose anyForm
    (fun r s => guarded (collectionCloseChecks s r) r
      (fun s =>
        let s := closeSnapshot r.collNumber s
        answer r .ok (s.collRecord r.collNumber) s) s) s

/-- The checks of RETIRE_COLLECTION (R103). -/
def retireCollectionChecks (s : State) (r : Request) : List (Bool × Status) :=
  let c := s.coll r.collNumber
  changeGate s ++ collNumberChecks r ++
    [(decide (c.state = .free), .noSuch),
     (decide (c.state = .retiring), .retiring),
     (decide (0 < c.reserved), .streamsOpen)]

/-- A collection is handed to the Retirement Unit, and the grants on it go (R103, R136). -/
def retireColl (n : Nat) (s : State) : State :=
  appendOrder (.coll n) (removeAlbumGrants n (s.setColl n { s.coll n with state := .retiring }))

/-- RETIRE_COLLECTION (R103). -/
def execRetireCollection (s : State) : Host.Outcome State Fault Refusal :=
  take .retireCollection anyForm
    (fun r s => guarded (retireCollectionChecks s r) r
      (fun s =>
        let s := retireColl r.collNumber s
        answer r .ok (s.collRecord r.collNumber) s) s) s

/-! ### Members -/

/-- The entries of a batch whose entries are of one collection, each whole before the next (R104, R105). -/
def memberEntries (one : Nat → State → Status × State) : List (List Byte) → List Status → State → List Status × State
  | [], sts, s => (sts, s)
  | e :: es, sts, s =>
    let t := one (field e 0 4) s
    memberEntries one es (sts ++ [t.1]) t.2

/-- BAD_FIELD for an aux that is no collection number. -/
def collAuxChecks (r : Request) : List (Bool × Status) := [(decide (Config.collectionCount ≤ r.auxNat), .badField)]

/-- The checks of one MEMBER_ADD entry (R104). -/
def memberAddEntryChecks (s : State) (c n : Nat) : List (Bool × Status) :=
  let x := s.coll c
  let o := s.object n
  [(decide (Config.objectCount ≤ n), .badField),
   (decide (o.state = .free), .noSuch),
   (decide (o.state = .building), .state),
   (decide (o.state = .retiring), .retiring),
   (decide (n ∈ x.members), .already),
   (x.isFull, .full),
   (!s.poolFits x.slots (x.slots + 1), .poolFull)]

/-- An object joins a list, and its holder count rises (R100, R104). -/
def addMember (c n : Nat) (s : State) : State :=
  let x := s.coll c
  let s := replaceColl c { x with members := insertMember n x.members } s
  s.setObject n { s.object n with holders := (s.object n).holders + 1 }

/-- One MEMBER_ADD entry (R104). -/
def memberAddEntry (c n : Nat) (s : State) : Status × State :=
  match firstFail (memberAddEntryChecks s c n) with
  | some st => (st, s)
  | none => (.ok, addMember c n s)

/-- The refusals of MEMBER_ADD as a whole (R104). -/
def memberAddChecks (s : State) (r : Request) : List (Bool × Status) :=
  let c := s.coll r.auxNat
  changeGate s ++ collAuxChecks r ++
    [(decide (c.state = .free), .noSuch),
     (decide (c.state = .retiring), .retiring),
     (decide (c.kind = .snapshot), .state)]

/-- MEMBER_ADD is taken (R104). -/
def memberAddTaken (r : Request) (s : State) : State :=
  let t := memberEntries (memberAddEntry r.auxNat) r.entries [] s
  answerBatch r t.1 t.2

/-- MEMBER_ADD (R104). -/
def execMemberAdd (s : State) : Host.Outcome State Fault Refusal :=
  take .memberAdd anyForm (fun r s => guarded (memberAddChecks s r) r (memberAddTaken r) s) s

/-- A member leaves a list: the list closes up, pages go back, the holder count falls (R105, R106). -/
def dropMember (c n : Nat) (s : State) : State :=
  let x := s.coll c
  let s := replaceColl c { x with members := x.members.filter fun m => decide (m ≠ n) } s
  let o := s.object n
  s.setObject n { o with
    holders := o.holders - 1
    state := if o.holders - 1 = 0 then .retiring else o.state }

/-- A MEMBER_REMOVE entry that passes (R105): at the last holder the object's order is appended. -/
def removeMember (c n : Nat) (s : State) : State :=
  let s := dropMember c n s
  if (s.object n).holders = 0 then appendOrder (.object n) s else s

/-- One MEMBER_REMOVE entry (R105). -/
def memberRemoveEntry (c n : Nat) (s : State) : Status × State :=
  if Config.objectCount ≤ n then (.badField, s)
  else if n ∉ (s.coll c).members then (.noSuch, s)
  else (.ok, removeMember c n s)

/-- The refusals of MEMBER_REMOVE as a whole (R105). -/
def memberRemoveChecks (s : State) (r : Request) : List (Bool × Status) :=
  let c := s.coll r.auxNat
  changeGate s ++ collAuxChecks r ++
    [(decide (c.state = .free), .noSuch),
     (decide (c.state = .retiring), .retiring),
     (decide (c.state = .closed), .state)]

/-- MEMBER_REMOVE is taken (R105). -/
def memberRemoveTaken (r : Request) (s : State) : State :=
  let t := memberEntries (memberRemoveEntry r.auxNat) r.entries [] s
  answerBatch r t.1 t.2

/-- MEMBER_REMOVE (R105). -/
def execMemberRemove (s : State) : Host.Outcome State Fault Refusal :=
  take .memberRemove anyForm (fun r s => guarded (memberRemoveChecks s r) r (memberRemoveTaken r) s) s

/-! ### Reading -/

/-- COLLECTION_READ (R108). -/
def execCollectionRead (s : State) : Host.Outcome State Fault Refusal :=
  take .collectionRead anyForm
    (fun r s => guarded (readGate s ++ collNumberChecks r) r (answer r .ok (s.collRecord r.collNumber)) s) s

/-- The MEMBERS_FETCH result record from a start (R109). -/
def Coll.fetchRecord (c : Coll) (start : Nat) : List Byte :=
  let from_ := c.members.filter fun m => decide (start ≤ m)
  let given := from_.take 1024
  le 2 given.length ++ [flagByte (decide (1024 < from_.length))] ++ given.flatMap (le 4)

/-- The checks of MEMBERS_FETCH (R109). -/
def membersFetchChecks (s : State) (r : Request) : List (Bool × Status) :=
  readGate s ++
    [(!r.hasLength 6, .badField),
     (decide (Config.collectionCount ≤ r.collNumber), .badField),
     (decide (Config.objectCount ≤ field r.payload 2 4), .badField),
     (decide ((s.coll r.collNumber).state = .free), .noSuch)]

/-- MEMBERS_FETCH (R109). -/
def execMembersFetch (s : State) : Host.Outcome State Fault Refusal :=
  take .membersFetch anyForm
    (fun r s => guarded (membersFetchChecks s r) r
      (answer r .ok ((s.coll r.collNumber).fetchRecord (field r.payload 2 4))) s) s

/-- Object states as a record shows them (Table 5.8). -/
def ObjectState.code : ObjectState → Byte
  | .free => 0#8 | .building => 1#8 | .complete => 2#8 | .retiring => 3#8

/-- A recipe reference as 50 bytes (Table 5.8). -/
def Ref.bytes : Ref → List Byte
  | .indexed h =>
    [1#8, 0#8, 0xFF#8] ++ le 4 h ++ le 6 0 ++ le 3 0 ++ List.replicate 32 0#8 ++ [0#8, 0#8]
  | .priv l n d damaged =>
    [2#8, flagByte damaged]
      ++ (match l with
          | none => 0xFF#8 :: (le 4 0xFFFFFFFF ++ le 6 0)
          | some x => le 1 x.bay ++ le 4 0xFFFFFFFF ++ le 6 x.block)
      ++ le 3 n ++ digestBytes d ++ [0#8, 0#8]

/-- The references of a run (R110). -/
def Obj.run (o : Obj) (first count : Nat) : List Ref := (o.recipe.drop first).take count

/-- The OBJECT_READ result record (Table 5.8). -/
def Obj.record (o : Obj) (n first count : Nat) : List Byte :=
  le 4 n ++ [o.state.code] ++ le 1 o.owner.1 ++ le 1 o.owner.2 ++ le 6 o.length ++ le 2 o.holders ++ le 1 o.planHolds
    ++ le 4 o.recipe.length ++ le 4 (recipeSlots o.recipe) ++ le 4 (pagesOf (recipeSlots o.recipe))
    ++ le 2 (o.run first count).length ++ (o.run first count).flatMap Ref.bytes

/-- The checks of OBJECT_READ (R110). -/
def objectReadChecks (s : State) (r : Request) : List (Bool × Status) :=
  readGate s ++
    [(!r.hasLength 10, .badField),
     (decide (Config.objectCount ≤ field r.payload 0 4), .badField),
     (decide (256 < field r.payload 8 2), .badField)]

/-- OBJECT_READ (R110). -/
def execObjectRead (s : State) : Host.Outcome State Fault Refusal :=
  take .objectRead anyForm
    (fun r s => guarded (objectReadChecks s r) r
      (let n := field r.payload 0 4
       answer r .ok ((s.object n).record n (field r.payload 4 4) (field r.payload 8 2))) s) s

end Sys2Proof.Machine
end

