-- ==== Sys2Proof/Machine/Retirement.lean ====
section
/-!
DEFINITION. The Retirement Unit (chapter 6): the walk's steps, RELEASE_TAKE, the deferred check as a command, the freeze
of an export, WALK_STATUS.
-/

namespace Sys2Proof.Machine

/-! ### The walk -/

/-- The collection whose member is the walk's next step: the current order is a collection and no nested walk stands. -/
def Rtu.walkColl (r : Rtu) : Option Nat :=
  match r.current, r.nested with
  | some (.coll c), none => some c
  | _, _ => none

/-- The object under walk: nested, or the current order's (R114, R115). -/
def Rtu.walkObject (r : Rtu) : Option Nat :=
  match r.nested, r.current with
  | some n, _ => some n
  | none, some (.object n) => some n
  | none, _ => none

/-- A walk step is taken in WALKING only (Table 6.1). -/
def whileWalking (step : State → State) (s : State) : State := if s.rtu.walk = .walking then step s else s

/-- The object a member removal took the last holder of (R114): walked nested at once, or its order appended to wait
for plans. -/
def afterLastHolder (n : Nat) (s : State) : State :=
  if (s.object n).planHolds = 0 then { s with rtu.nested := some n }
  else { s with rtu.orders := s.rtu.orders ++ [.object n] }

/-- A member removal of collection `c` (R106, R113, R114). -/
def walkMember (c : Nat) (s : State) : State :=
  match (s.coll c).members with
  | [] => s
  | n :: _ =>
    let s := dropMember c n s
    if (s.object n).holders = 0 then afterLastHolder n s else s

/-- The member removal step. -/
def memberRemoval (s : State) : State :=
  match s.rtu.walkColl with
  | some c => walkMember c s
  | none => s

/-- The collection free step (R106, R113). -/
def collectionFree (s : State) : State :=
  match s.rtu.walkColl with
  | some c => if (s.coll c).members = [] then endWalk (.coll c) (replaceColl c Coll.free s) else s
  | none => s

/-- A reference removal may add an extent: an INDEXED reference, or a PRIVATE one with a location (R118). -/
def Ref.mayAdd : Ref → Bool
  | .indexed _ => true
  | .priv l _ _ _ => l.isSome

/-- A reference is released at the event it leaves the recipe (R106, R115). -/
def releaseRef (n : Nat) (ref : Ref) (rest : List Ref) (s : State) : State :=
  let owner := (s.object n).owner
  let s := setRecipe n rest s
  match ref with
  | .indexed h => decrement h s
  | .priv l length _ _ => refund owner.1 owner.2 length (releaseExtent l length s)

/-- The release list is full (R118). -/
def Rtu.releaseFull (r : Rtu) : Bool := decide (Config.releaseMax ≤ r.release.length)

/-- The step at the first reference of the object under walk: the walk pauses before a removal that may add an extent
while the release list is full (R115, R118). -/
def referenceRemoval (s : State) : State :=
  match s.rtu.walkObject with
  | none => s
  | some n =>
    match (s.object n).recipe with
    | [] => s
    | ref :: rest =>
      if ref.mayAdd ∧ s.rtu.releaseFull then { s with rtu.walk := .paused } else releaseRef n ref rest s

/-- The walk of an object ends: a nested one returns to its collection, another takes its order off the list (R115). -/
def endObjectWalk (n : Nat) (s : State) : State :=
  match s.rtu.nested with
  | some _ => { s with rtu.nested := none }
  | none => endWalk (.object n) s

/-- The object free step (R106, R115). -/
def objectFree (s : State) : State :=
  match s.rtu.walkObject with
  | none => s
  | some n => if (s.object n).recipe = [] then endObjectWalk n (s.setObject n Obj.free) else s

/-- WALK_ORDER_TAKE (R112). -/
def execWalkOrderTake (s : State) : Host.Outcome State Fault Refusal := event takeIfIdle s

/-- MEMBER_REMOVAL (R106, R113, R114). -/
def execMemberRemoval (s : State) : Host.Outcome State Fault Refusal := event (whileWalking memberRemoval) s

/-- REFERENCE_REMOVAL (R106, R115, R118). -/
def execReferenceRemoval (s : State) : Host.Outcome State Fault Refusal := event (whileWalking referenceRemoval) s

/-- OBJECT_FREE (R106, R115). -/
def execObjectFree (s : State) : Host.Outcome State Fault Refusal := event (whileWalking objectFree) s

/-- COLLECTION_FREE (R106, R113). -/
def execCollectionFree (s : State) : Host.Outcome State Fault Refusal := event (whileWalking collectionFree) s

/-! ### RELEASE_TAKE -/

/-- An extent as 12 bytes (Table 6.2). -/
def Extent.bytes (e : Extent) : List Byte := le 1 e.bay ++ le 6 e.block ++ le 3 e.length ++ [0#8, 0#8]

/-- The RELEASE_TAKE result record from the last batch and the release list (Table 6.2). -/
def Rtu.takeRecord (r : Rtu) : List Byte :=
  le 2 r.lastBatch.length ++ le 2 r.release.length ++ r.lastBatch.flatMap Extent.bytes

/-- The checks of RELEASE_TAKE (R119, R120). -/
def releaseTakeChecks (s : State) (r : Request) : List (Bool × Status) :=
  changeGate s ++
    [(decide (1 < r.auxNat), .badField),
     (!r.hasLength 2, .badField),
     (decide (field r.payload 0 2 = 0) || decide (512 < field r.payload 0 2), .badField)]

/-- Extents leave the head of the release list and become the last batch (R119). -/
def takeExtents (count : Nat) (s : State) : State :=
  { s with rtu.lastBatch := s.rtu.release.take count, rtu.release := s.rtu.release.drop count }

/-- A paused walk with room on the list goes on and takes its paused step (R119). -/
def resumeWalk (s : State) : State :=
  if s.rtu.walk = .paused ∧ !s.rtu.releaseFull then referenceRemoval { s with rtu.walk := .walking } else s

/-- RELEASE_TAKE with aux 0 is taken (R119). -/
def releaseTakeTaken (r : Request) (s : State) : State :=
  let s := resumeWalk (makeDeferredCheck (takeExtents (field r.payload 0 2) s))
  answer r .ok s.rtu.takeRecord s

/-- RELEASE_TAKE with any aux but 1 (R119). -/
def execReleaseTake (s : State) : Host.Outcome State Fault Refusal :=
  take .releaseTake (fun r => decide (r.auxNat ≠ 1))
    (fun r s => guarded (releaseTakeChecks s r) r (releaseTakeTaken r) s) s

/-- RELEASE_TAKE with aux 1: the last batch again (R120). -/
def execReleaseTakeLastBatch (s : State) : Host.Outcome State Fault Refusal :=
  take .releaseTake (fun r => decide (r.auxNat = 1))
    (fun r s => guarded (releaseTakeChecks s r) r (answer r .ok s.rtu.takeRecord) s) s

/-- DEFERRED_CHECK (R122). -/
def execDeferredCheck (s : State) : Host.Outcome State Fault Refusal := event makeDeferredCheck s

/-! ### The freeze of an export -/

/-- The RTU enters FROZEN (R123). -/
def freezeWalk (s : State) : State := { s with rtu.walk := .frozen }

/-- The current walk's next step may add an extent (R123). -/
def State.nextMayAdd (s : State) : Bool :=
  match s.rtu.walkObject with
  | none => false
  | some n => ((s.object n).recipe.head?.map Ref.mayAdd).getD false

/-- The walk state at the end of a freeze, after the deferred check (R123). -/
def thawWalk (s : State) : State :=
  match s.rtu.current with
  | some _ =>
    { s with rtu.walk := if s.nextMayAdd ∧ s.rtu.releaseFull then .paused else .walking }
  | none => takeOldest s

/-- The end of a freeze (R123): the export has ended before. -/
def unfreezeWalk (s : State) : State := thawWalk (makeDeferredCheck s)

/-! ### WALK_STATUS -/

/-- Walk states as a record shows them (Table 6.3). -/
def WalkState.code : WalkState → Byte
  | .idle => 0#8 | .walking => 1#8 | .paused => 2#8 | .frozen => 3#8

/-- Bytes 1 to 5 of WALK_STATUS; the record number has no stated content when there is no order (assumption 3). -/
def orderBytes (open_ : List Byte) : Option Order → List Byte
  | none => 0#8 :: open_
  | some (.coll n) => 1#8 :: le 4 n
  | some (.object n) => 2#8 :: le 4 n

/-- Bytes 6 to 10 of WALK_STATUS; the object number has no stated content when none is nested (assumption 3). -/
def nestedBytes (open_ : List Byte) : Option Nat → List Byte
  | none => 0#8 :: open_
  | some n => 1#8 :: le 4 n

/-- The WALK_STATUS result record (Table 6.3). -/
def State.walkRecord (s : State) : List Byte :=
  [s.rtu.walk.code] ++ orderBytes (s.freeBytes 4) s.rtu.current ++ nestedBytes ((s.spend 4).freeBytes 4) s.rtu.nested
    ++ le 4 s.rtu.orders.length ++ le 4 (s.rtu.orders.filter s.walkable).length ++ le 2 s.rtu.release.length
    ++ le 2 s.rtu.deferred.length ++ le 2 s.rtu.reserved ++ le 2 s.rtu.lastBatch.length
    ++ le 4 ((s.rtu.deferred.head?.map fun d => d.tag.toNat).getD 0) ++ [0#8]

/-- WALK_STATUS (R126). -/
def execWalkStatus (s : State) : Host.Outcome State Fault Refusal :=
  take .walkStatus anyForm
    (fun r s => guarded (readGate s ++ [(!r.hasLength 0, .badField)]) r
      (fun s => answer r .ok s.walkRecord (s.spend 8)) s) s

end Sys2Proof.Machine
end

