-- ==== Sys2Proof/Machine/Grants.lean ====
section
/-!
DEFINITION. The Grant Table's requests (chapter 7): GRANT_SET, GRANT_CLEAR, GRANT_READ.
-/

namespace Sys2Proof.Machine

/-! ### Fields -/

/-- A grantee byte (Table 7.2): 0 to 15, or FFh. -/
def Grantee.ofCode (n : Nat) : Option Grantee :=
  if n < 16 then some (.client n) else if n = 255 then some .anyViewer else none

/-- A grantee as a byte. -/
def Grantee.code : Grantee → Nat
  | .client n => n
  | .anyViewer => 255

/-- A target kind and number (Table 7.2). -/
def Target.ofCode (kind n : Nat) : Option Target :=
  if kind = 1 ∧ n < Config.collectionCount then some (.album n)
  else if kind = 2 ∧ n < 16 then some (.allOf n)
  else none

/-- A target as its kind and number, 3 bytes. -/
def Target.bytes : Target → List Byte
  | .album n => 1#8 :: le 2 n
  | .allOf n => 2#8 :: le 2 n

/-- A mode byte (Table 7.2). -/
def Mode.ofCode : Nat → Option Mode
  | 0 => some .deny
  | 1 => some .inWindow
  | 2 => some .outOfWindow
  | 3 => some .allow
  | _ => none

/-- A mode as a byte. -/
def Mode.code : Mode → Byte
  | .deny => 0#8 | .inWindow => 1#8 | .outOfWindow => 2#8 | .allow => 3#8

/-- A window end as it is taken (R130). -/
def clampMinute (n : Nat) : Nat := min n 1439

/-- The grant a GRANT_SET entry carries, if its fields are in range (Table 7.2, R128 step 1, R130). -/
def Grant.ofBytes (e : List Byte) : Option Grant :=
  match Grantee.ofCode (byteAt e 0), Target.ofCode (byteAt e 1) (field e 2 2), Mode.ofCode (byteAt e 4) with
  | some who, some on, some mode =>
    if 1 < byteAt e 9 then none
    else
      some { live := true, grantee := who, target := on, mode := mode, windowStart := clampMinute (field e 5 2),
             windowEnd := clampMinute (field e 7 2),
             expiry := if byteAt e 9 = 1 then some (field e 10 4) else none }
  | _, _, _ => none

/-- A grant record of 18 bytes (Table 7.6). -/
def State.grantRecord (s : State) (n : Nat) : List Byte :=
  let g := s.grant n
  le 1 n ++ [flagByte g.live] ++ le 1 g.grantee.code ++ g.target.bytes ++ [g.mode.code] ++ le 2 g.windowStart
    ++ le 2 g.windowEnd ++ [flagByte g.expiry.isSome] ++ le 4 (g.expiry.getD 0)
    ++ [flagByte (g.expired s.bck.boxTime), 0#8]

/-! ### GRANT_SET -/

/-- A grantee that names a FREE client (R128 step 2). -/
def State.granteeMissing (s : State) : Grantee → Bool
  | .client n => !(s.client n).active
  | .anyViewer => false

/-- The checks of a target (R128 steps 2 to 4). -/
def targetChecks (s : State) : Target → List (Bool × Status)
  | .album n =>
    let c := s.coll n
    [(decide (c.state = .free), .noSuch), (decide (c.kind = .snapshot), .state),
     (decide (c.state = .retiring), .retiring)]
  | .allOf n => [(!(s.client n).active, .noSuch)]

/-- The lowest-numbered FREE grant record (R129). -/
def State.freeGrant (s : State) : Option Nat := Table.lowestFree Config.grantCount s.grants

/-- The record an entry is placed in: the scope's own, or the lowest FREE one (R129). -/
def State.grantPlace (s : State) (g : Grant) : Option Nat :=
  match s.grantOf g.grantee g.target with
  | some n => some n
  | none => s.freeGrant

/-- The checks of one GRANT_SET entry whose fields are in range (R128). -/
def grantEntryChecks (s : State) (g : Grant) : List (Bool × Status) :=
  (s.granteeMissing g.grantee, .noSuch) :: (targetChecks s g.target ++ [((s.grantPlace g).isNone, .full)])

/-- One GRANT_SET entry (R128, R129). -/
def grantEntry (e : List Byte) (s : State) : Status × State :=
  match Grant.ofBytes e with
  | none => (.badField, s)
  | some g =>
    match firstFail (grantEntryChecks s g) with
    | some st => (st, s)
    | none => (.ok, s.setGrant ((s.grantPlace g).getD 0) g)

/-- The entries of a GRANT_SET, each whole before the next (R128). -/
def grantEntries : List (List Byte) → List Status → State → List Status × State
  | [], sts, s => (sts, s)
  | e :: es, sts, s =>
    let t := grantEntry e s
    grantEntries es (sts ++ [t.1]) t.2

/-- GRANT_SET is taken (R128). -/
def grantSetTaken (r : Request) (s : State) : State :=
  let t := grantEntries r.entries [] s
  answerBatch r t.1 t.2

/-- GRANT_SET (R128). -/
def execGrantSet (s : State) : Host.Outcome State Fault Refusal :=
  take .grantSet anyForm
    (fun r s => guarded (changeGate s ++ [(decide (r.auxNat ≠ 0), .badField)]) r (grantSetTaken r) s) s

/-! ### GRANT_CLEAR and GRANT_READ -/

/-- The pair that selector 1 names (Table 7.5). -/
def selectedScope (p : List Byte) : Option (Grantee × Target) :=
  match Grantee.ofCode (byteAt p 1), Target.ofCode (byteAt p 2) (field p 3 2) with
  | some who, some on => some (who, on)
  | _, _ => none

/-- The LIVE grant of the pair that selector 1 names (R137, R138). -/
def State.selectedByScope (s : State) (p : List Byte) : Option Nat :=
  (selectedScope p).bind fun x => s.grantOf x.1 x.2

/-- The record a GRANT_CLEAR names (R137). -/
def State.grantNamed (s : State) (p : List Byte) : Option Nat :=
  if byteAt p 0 = 0 then (if (s.grant (byteAt p 1)).live then some (byteAt p 1) else none) else s.selectedByScope p

/-- BAD_FIELD of selector 1 (Table 7.5, note 2). -/
def scopeCheck (p : List Byte) : Bool × Status := (decide (byteAt p 0 = 1) && (selectedScope p).isNone, .badField)

/-- The checks of GRANT_CLEAR (R137). -/
def grantClearChecks (s : State) (r : Request) : List (Bool × Status) :=
  let p := r.payload
  changeGate s ++
    [(!r.hasLength 5, .badField), (decide (1 < byteAt p 0), .badField), scopeCheck p, ((s.grantNamed p).isNone, .noSuch)]

/-- GRANT_CLEAR is taken (R137): the record as it stood before. -/
def grantClearTaken (r : Request) (s : State) : State :=
  let n := (s.grantNamed r.payload).getD 0
  answer r .ok (s.grantRecord n) (s.setGrant n Grant.free)

/-- GRANT_CLEAR (R137). -/
def execGrantClear (s : State) : Host.Outcome State Fault Refusal :=
  take .grantClear anyForm (fun r s => guarded (grantClearChecks s r) r (grantClearTaken r) s) s

/-- The records a GRANT_READ with selector 0 or 1 returns (R138). -/
def State.grantsRead (s : State) (p : List Byte) : List Nat :=
  if byteAt p 0 = 0 then (List.range' (byteAt p 1) (min (field p 2 2) (256 - byteAt p 1)))
  else (s.selectedByScope p).toList

/-- The checks of GRANT_READ with selector 0 or 1 (R138). -/
def grantReadChecks (s : State) (r : Request) : List (Bool × Status) :=
  let p := r.payload
  readGate s ++
    [(!r.hasLength 5, .badField),
     (decide (1 < byteAt p 0), .badField),
     (decide (byteAt p 0 = 0) && (decide (field p 2 2 = 0) || decide (256 < field p 2 2)), .badField),
     scopeCheck p,
     (decide (byteAt p 0 = 1) && (s.selectedByScope p).isNone, .noSuch)]

/-- GRANT_READ with selector 0 or 1 is taken (R138). -/
def grantReadTaken (r : Request) (s : State) : State :=
  let ns := s.grantsRead r.payload
  answer r .ok (le 2 ns.length ++ ns.flatMap s.grantRecord) s

/-- GRANT_READ with any selector but 2 (R138). -/
def execGrantRead (s : State) : Host.Outcome State Fault Refusal :=
  take .grantRead (fun r => decide (byteAt r.payload 0 ≠ 2))
    (fun r s => guarded (grantReadChecks s r) r (grantReadTaken r) s) s

/-- The checks of GRANT_READ with selector 2 (R139). -/
def grantDecisionChecks (s : State) (r : Request) : List (Bool × Status) :=
  let p := r.payload
  let c := s.coll (field p 2 2)
  readGate s ++
    [(!r.hasLength 5, .badField),
     (decide (15 < byteAt p 1), .badField),
     (decide (Config.collectionCount ≤ field p 2 2), .badField),
     (!(s.client (byteAt p 1)).active, .noSuch),
     (decide (c.state = .free), .noSuch),
     (decide (c.kind = .snapshot), .state),
     (decide (c.state = .retiring), .retiring)]

/-- GRANT_READ with selector 2: the decision for a reader and an album (R139). -/
def grantDecisionTaken (r : Request) (s : State) : State :=
  let a := field r.payload 2 2
  answer r .ok (s.decisionRecord (s.decision (byteAt r.payload 1) a (s.coll a).owner.1)) s

/-- GRANT_READ with selector 2 (R139). -/
def execGrantReadDecision (s : State) : Host.Outcome State Fault Refusal :=
  take .grantRead (fun r => decide (byteAt r.payload 0 = 2))
    (fun r s => guarded (grantDecisionChecks s r) r (grantDecisionTaken r) s) s

end Sys2Proof.Machine
end

