-- ==== Sys2Proof/Machine/Plans.lean ====
section
/-!
DEFINITION. The Read Plan Builder's requests and scan steps (chapter 8): PLAN_OPEN, SCAN_STEP, PLAN_FETCH, PLAN_CHECK,
PLAN_DONE.
-/

namespace Sys2Proof.Machine

/-! ### PLAN_OPEN -/

/-- The lowest-numbered FREE slot (R144). -/
def State.freePlan (s : State) : Option Nat := (List.range 16).find? fun p => decide ((s.plan p).state = .free)

/-- The fields of a PLAN_OPEN payload (Table 8.3). -/
structure PlanFields where
  client : Nat
  collection : Nat
  object : Nat
  deriving DecidableEq, Repr

/-- A PLAN_OPEN payload read (Table 8.3). -/
def PlanFields.ofBytes (p : List Byte) : PlanFields :=
  { client := byteAt p 0, collection := field p 1 2, object := field p 3 4 }

/-- The object counts as a member (R107): COMPLETE, and in the list of a collection that is OPEN or CLOSED. -/
def State.isMember (s : State) (c n : Nat) : Bool :=
  let x := s.coll c
  decide (x.state = .open ∨ x.state = .closed) && decide ((s.object n).state = .complete) && decide (n ∈ x.members)

/-- Steps 1 to 6 of R143. -/
def planOpenChecks (s : State) (r : Request) : List (Bool × Status) :=
  let f := PlanFields.ofBytes r.payload
  readGate s ++
    [(!r.hasLength 7, .badField), (decide (15 < f.client), .badField),
     (decide (Config.collectionCount ≤ f.collection), .badField),
     (decide (Config.objectCount ≤ f.object), .badField),
     (decide (s.bxp.power ≠ .run), .state),
     (s.freePlan.isNone, .full),
     (!(s.client f.client).active, .noSuch),
     (!s.isMember f.collection f.object, .noSuch)]

/-- Step 7 of R143: a snapshot is read by its owner alone; an album by the Grant Table's decision. -/
def State.planDecision (s : State) (f : PlanFields) : Decision :=
  let c := s.coll f.collection
  match c.kind with
  | .album => s.decision f.client f.collection c.owner.1
  | .snapshot =>
    if f.client = c.owner.1 then { allowed := true, basis := .owner } else { allowed := false, basis := .noGrant }

/-- The slot, the epoch and the object's hold of a plan that opens (R142, R144). -/
def openPlan (p : Nat) (f : PlanFields) (s : State) : State :=
  let s := { s with rpb.epoch := s.rpb.epoch + 1 }
  let s := s.setObject f.object { s.object f.object with planHolds := (s.object f.object).planHolds + 1 }
  scanEndIfDone p
    (s.setPlan p { Plan.free with
      state := .scanning, client := f.client, object := f.object, epoch := s.rpb.epoch, scanPos := some 0,
      scanBays := some 0#4 })

/-- The PLAN_OPEN result record (Table 8.3). -/
def State.planOpenRecord (s : State) (p : Nat) (f : PlanFields) : List Byte :=
  le 1 p ++ [1#8] ++ le 4 s.rpb.epoch.toNat ++ le 6 (s.object f.object).length ++ le 4 (s.object f.object).recipe.length

/-- PLAN_OPEN past its checks: taken, or DENIED with the decision record (R143 step 7, R144). -/
def planOpenTaken (r : Request) (s : State) : State :=
  let f := PlanFields.ofBytes r.payload
  let d := s.planDecision f
  if d.allowed then
    let p := s.freePlan.getD 0
    let s := openPlan p f s
    answer r .ok (s.planOpenRecord p f) s
  else answer r .denied (s.decisionRecord d) s

/-- PLAN_OPEN (R143, R144). -/
def execPlanOpen (s : State) : Host.Outcome State Fault Refusal :=
  take .planOpen anyForm (fun r s => guarded (planOpenChecks s r) r (planOpenTaken r) s) s

/-! ### SCAN_STEP -/

/-- One scan step of plan `p` and, at the last, the end of the scan (R145, R146). -/
def scanStep (p : Nat) (s : State) : State :=
  match (s.plan p).scanPos with
  | none => s
  | some pos =>
    match (s.object (s.plan p).object).recipe[pos]? with
    | some ref => scanEndIfDone p (scanRead p ref pos s)
    | none => scanEndIfDone p s

/-- SCAN_STEP (R145). -/
def execScanStep (plan : Fin 16) (s : State) : Host.Outcome State Fault Refusal := event (scanStep plan.val) s

/-! ### PLAN_FETCH -/

/-- Plan states as records show them (Table 8.2 in its order; Table 8.3 gives SCANNING as 1). -/
def PlanState.code : PlanState → Byte
  | .free => 0#8 | .scanning => 1#8 | .waiting => 2#8 | .ready => 3#8 | .bayLost => 4#8

/-- The kind byte of a reference (Tables 8.5, 8.7). -/
def Ref.kindByte : Ref → Byte
  | .indexed _ => 1#8
  | .priv _ _ _ _ => 2#8

/-- An extent as fetched (Table 8.5). -/
def fetchedBytes (ordinal : Nat) (ref : Ref) (x : Located) : List Byte :=
  le 4 ordinal ++ [ref.kindByte]
    ++ (match x.loc with
        | some l => le 1 l.bay ++ le 6 l.block
        | none => 0xFF#8 :: le 6 0)
    ++ le 3 x.length ++ [flagByte x.damaged]

/-- The plan's state after a fetch placed a hold, or was answered BAY_LOST (R149). -/
def Plan.afterFetchHold (x : Plan) (taken ready : Bool) : Plan :=
  if !taken then { x with state := .bayLost }
  else if x.state = .ready ∧ !ready then { x with state := .waiting }
  else x

/-- The hold of a fetched extent on a bay that the plan does not hold (R149). -/
def fetchHold (p : Nat) (loc : Option Loc) (s : State) : State :=
  match loc with
  | none => s
  | some l =>
    if (s.plan p).heldBays.getLsbD l.bay then s
    else
      let h := planHold p l.bay s
      h.2.setPlan p ((h.2.plan p).afterFetchHold h.1 (decide ((h.2.bay l.bay).state = .ready)))

/-- The references of a run, from ordinal `k`, one after another (R148, R149). -/
def fetchRefs (p : Nat) : Nat → List Ref → List Byte → State → List Byte × State
  | _, [], out, s => (out, s)
  | k, ref :: rest, out, s =>
    let x := s.locate ref
    fetchRefs p (k + 1) rest (out ++ fetchedBytes k ref x) (fetchHold p x.loc s)

/-- The checks of a request whose aux low byte is a plan number (R141). The high byte of aux in PLAN_FETCH and PLAN_DONE is
not examined (DESIGN CHOICE, assumption 24). -/
def planNumberChecks (r : Request) : List (Bool × Status) := [(decide (15 < r.auxLow), .badField)]

/-- STATE for a FREE slot (Table 8.2, note 1). -/
def freePlanCheck (s : State) (r : Request) : Bool × Status := (decide ((s.plan r.auxLow).state = .free), .state)

/-- The checks of PLAN_FETCH (R148). -/
def planFetchChecks (s : State) (r : Request) : List (Bool × Status) :=
  readGate s ++ planNumberChecks r ++
    [(!r.hasLength 6, .badField),
     (decide (field r.payload 4 2 = 0) || decide (512 < field r.payload 4 2), .badField),
     freePlanCheck s r]

/-- The PLAN_FETCH result record (Table 8.4). -/
def Plan.fetchRecord (x : Plan) (total start count : Nat) (extents : List Byte) : List Byte :=
  [x.state.code] ++ le 1 x.heldBays.toNat ++ le 4 total ++ le 2 count ++ [flagByte (decide (start + count < total))]
    ++ extents

/-- PLAN_FETCH is taken (R148). -/
def planFetchTaken (r : Request) (s : State) : State :=
  let p := r.auxLow
  let start := field r.payload 0 4
  let recipe := (s.object (s.plan p).object).recipe
  let run := (recipe.drop start).take (field r.payload 4 2)
  let t := fetchRefs p start run [] s
  answer r .ok ((t.2.plan p).fetchRecord recipe.length start run.length t.1) t.2

/-- PLAN_FETCH (R148). -/
def execPlanFetch (s : State) : Host.Outcome State Fault Refusal :=
  take .planFetch anyForm (fun r s => guarded (planFetchChecks s r) r (planFetchTaken r) s) s

/-! ### PLAN_CHECK -/

/-- Outcomes of a checked read (Table 8.7). -/
inductive CheckOutcome where
  | isMatch | cleared | damaged | stale
  deriving DecidableEq, Repr

/-- The value of an outcome (Table 8.7). -/
def CheckOutcome.code : CheckOutcome → Byte
  | .isMatch => 1#8 | .cleared => 2#8 | .damaged => 3#8 | .stale => 4#8

/-- R89: the entry after a checked read of location `l`, and the outcome. -/
def Chunk.checked (e : Chunk) (l : Loc) (same : Bool) : Chunk × CheckOutcome :=
  if e.loc ≠ some l then (e, .stale)
  else match e.state, same with
    | .present, true => (e, .isMatch)
    | .present, false => ({ e with state := .damaged }, .damaged)
    | .damaged, true => ({ e with state := .present }, .cleared)
    | .damaged, false => (e, .damaged)
    | .rewriting, true => (e, .isMatch)
    | .rewriting, false => (e, .damaged)
    | _, _ => (e, .stale)

/-- R96: the private reference after a checked read of location `l`, and the outcome. -/
def Ref.checked (ref : Ref) (l : Loc) (same : Bool) : Ref × CheckOutcome :=
  match ref with
  | .indexed _ => (ref, .stale)
  | .priv loc n d damaged =>
    if loc ≠ some l then (ref, .stale)
    else if same then (.priv loc n d false, if damaged then .cleared else .isMatch)
    else (.priv loc n d true, .damaged)

/-- The length expected of a reference (R151). -/
def State.expectedLength (s : State) (ref : Ref) : Nat := (s.locate ref).length

/-- The digest expected of a reference (R152). -/
def State.expectedDigest (s : State) : Ref → Digest
  | .indexed h => (s.chunk h).digest
  | .priv _ _ d _ => d

/-- A mark byte of a reference (Table 8.7). -/
def Ref.markByte : Ref → Byte
  | .indexed _ => 0#8
  | .priv _ _ _ damaged => flagByte damaged

/-- DAMAGE_FOUND is latched when the outcome set damage that did not stand (R152). -/
def latchDamage (set : Bool) (s : State) : State := if set then latch .damageFound s else s

/-- The record at LAST (Table 8.7). -/
def checkRecord (outcome : CheckOutcome) (applied : Bool) (after : Byte) (count : Nat) (kind : Byte) : List Byte :=
  [outcome.code, flagByte applied, after] ++ le 4 count ++ [kind, 0#8, 0#8]

/-- OK, or STALE for STALE (R152). -/
def CheckOutcome.status : CheckOutcome → Status
  | .stale => .stale
  | _ => .ok

/-- The outcome of a check on reference `k` of object `n`, applied outside an export (R152): the state byte after it and
the state. -/
def applyCheck (n k : Nat) (ref : Ref) (l : Loc) (same : Bool) (s : State) : CheckOutcome × Byte × State :=
  let applied := !s.tiu.exporting
  match ref with
  | .indexed h =>
    let e := s.chunk h
    let t := e.checked l same
    if applied then
      (t.2, t.1.state.code, latchDamage (decide (e.state = .present ∧ t.1.state = .damaged)) (s.setChunk h t.1))
    else (t.2, e.state.code, s)
  | .priv loc len d damaged =>
    let t := (Ref.priv loc len d damaged).checked l same
    if applied then
      (t.2, t.1.markByte,
        latchDamage (decide (t.2 = .damaged) && !damaged)
          (s.setObject n { s.object n with recipe := (s.object n).recipe.set k t.1 }))
    else (t.2, flagByte damaged, s)

/-- The header of a PLAN_CHECK payload (Table 8.6). -/
structure CheckHeader where
  ordinal : Nat
  loc : Loc
  deriving DecidableEq, Repr

/-- A PLAN_CHECK header read (Table 8.6). -/
def CheckHeader.ofBytes (p : List Byte) : CheckHeader :=
  { ordinal := field p 0 4, loc := { bay := byteAt p 4, block := field p 5 6 } }

/-- The recipe of the plan's object. -/
def State.planRecipe (s : State) (p : Nat) : List Ref := (s.object (s.plan p).object).recipe

/-- The checks of PLAN_CHECK (R151). Byte 11 of the header, zero in Table 8.6, is not examined (DESIGN CHOICE,
assumption 24). -/
def planCheckChecks (s : State) (r : Request) : List (Bool × Status) :=
  let h := CheckHeader.ofBytes r.payload
  readGate s ++ planNumberChecks r ++
    [(decide (3 < r.auxHigh), .badField),
     (decide (r.payload.length < 12), .badField),
     (decide (3 < h.loc.bay), .badField),
     freePlanCheck s r,
     (decide ((s.planRecipe r.auxLow).length ≤ h.ordinal), .badField)]

/-- The context a packet acts on: a new one with FIRST, the present one otherwise, if the header names the same ordinal
and location (R151). -/
def State.checkContext (s : State) (r : Request) (ref : Ref) : Option CheckContext :=
  let h := CheckHeader.ofBytes r.payload
  if r.auxHigh.testBit 1 then
    some { ordinal := h.ordinal, loc := h.loc, expected := s.expectedLength ref, received := 0,
           running := Running.start }
  else (s.plan r.auxLow).check.filter fun c => decide (c.ordinal = h.ordinal ∧ c.loc = h.loc)

/-- A context with a packet's chunk bytes joined (R151). -/
def CheckContext.join (c : CheckContext) (bytes : List Byte) : CheckContext :=
  { c with received := c.received + bytes.length, running := bytes.foldl Running.push c.running }

/-- The plan with its check context as given. -/
def setCheck (p : Nat) (c : Option CheckContext) (s : State) : State := s.setPlan p { s.plan p with check := c }

/-- A check ends at LAST with its byte count complete (R152). -/
def completeCheck (r : Request) (ref : Ref) (c : CheckContext) (s : State) : State :=
  let n := (s.plan r.auxLow).object
  let same := decide (c.running.finish = s.expectedDigest ref)
  let t := applyCheck n c.ordinal ref c.loc same (setCheck r.auxLow none s)
  answer r t.1.status (checkRecord t.1 (!s.tiu.exporting) t.2.1 c.received ref.kindByte) t.2.2

/-- A packet's bytes join the context (R151): past the length expected, or short of it at LAST, the request is answered
BAD_FIELD and the context is dropped. -/
def takeCheckBytes (r : Request) (ref : Ref) (c : CheckContext) (s : State) : State :=
  let c := c.join (r.payload.drop 12)
  if c.expected < c.received then refuse r .badField (setCheck r.auxLow none s)
  else if r.auxHigh.testBit 0 then
    if c.received < c.expected then refuse r .badField (setCheck r.auxLow none s) else completeCheck r ref c s
  else answer r .ok (le 4 c.received) (setCheck r.auxLow (some c) s)

/-- PLAN_CHECK past its checks (R151). -/
def planCheckTaken (r : Request) (s : State) : State :=
  match (s.planRecipe r.auxLow)[(CheckHeader.ofBytes r.payload).ordinal]? with
  | none => s
  | some ref =>
    match s.checkContext r ref with
    | none => refuse r .badField s
    | some c => takeCheckBytes r ref c s

/-- PLAN_CHECK (R151, R152). -/
def execPlanCheck (s : State) : Host.Outcome State Fault Refusal :=
  take .planCheck anyForm (fun r s => guarded (planCheckChecks s r) r (planCheckTaken r) s) s

/-! ### PLAN_DONE -/

/-- PLAN_DONE is taken (R153): the plan number and the state the plan was in. -/
def planDoneTaken (r : Request) (s : State) : State :=
  let result := le 1 r.auxLow ++ [(s.plan r.auxLow).state.code]
  answer r .ok result (closePlan r.auxLow s)

/-- PLAN_DONE (R153). -/
def execPlanDone (s : State) : Host.Outcome State Fault Refusal :=
  take .planDone anyForm
    (fun r s => guarded (readGate s ++ planNumberChecks r ++ [(!r.hasLength 0, .badField), freePlanCheck s r]) r
      (planDoneTaken r) s) s

end Sys2Proof.Machine
end

