-- ==== Sys2Proof/Machine/Bays.lean ====
section
/-!
DEFINITION. The Bay Power Controller's requests, timer expiries and presence events (chapter 9).
-/

namespace Sys2Proof.Machine

/-! ### Records -/

/-- Bay states as records show them (Table 9.4). -/
def BayState.code : BayState → Byte
  | .empty => 0#8 | .off => 1#8 | .queued => 2#8 | .spinningUp => 3#8 | .ready => 4#8 | .spinningDown => 5#8

/-- Bay timers as records show them (Table 9.4). -/
def BayTimer.code : BayTimer → Byte
  | .spinUp => 1#8 | .idle => 2#8 | .spinDown => 3#8

/-- A timer as 3 bytes: which one, and the second events still to come (Table 9.4). -/
def timerBytes : Option (BayTimer × Nat) → List Byte
  | none => [0#8, 0#8, 0#8]
  | some (k, n) => k.code :: le 2 n

/-- A bay's place in the queue, from 1; 0 when it is not queued (Table 9.4). -/
def Bpc.queuePlace (b : Bpc) (i : Nat) : Nat := if i ∈ b.queue then b.queue.idxOf i + 1 else 0

/-- The 12-byte record of a bay (Table 9.4). -/
def Bpc.bayRecord (b : Bpc) (i : Nat) : List Byte :=
  let x := b.bay i
  [x.state.code] ++ le 1 x.streamHolds ++ le 1 x.planHolds ++ [flagByte x.manual, flagByte x.respin]
    ++ le 1 (b.queuePlace i) ++ timerBytes x.timer ++ le 1 x.state.draw ++ [flagByte x.present, 0#8]

/-- The BAY_STATUS result record (Table 9.4). -/
def State.bayStatusRecord (s : State) : List Byte :=
  let b := s.bpc
  le 1 b.totalDraw ++ le 1 s.slc.settings.budget ++ [flagByte b.force] ++ le 1 b.queue.length
    ++ ((b.queue.map (BitVec.ofNat 8)) ++ List.replicate (4 - b.queue.length) 0xFF#8)
    ++ (List.range 4).flatMap b.bayRecord

/-! ### Requests -/

/-- BAD_FIELD of BAY_HOLD and BAY_RELEASE (R158). -/
def bayNumberChecks (r : Request) : List (Bool × Status) :=
  [(!r.hasLength 1, .badField), (decide (3 < byteAt r.payload 0), .badField)]

/-- A bay request is answered with the bay's record as it stands after it (R158). -/
def answerBay (r : Request) (st : Status) (s : State) : State :=
  answer r st (s.bpc.bayRecord (byteAt r.payload 0)) s

/-- BAY_HOLD past its BAD_FIELD checks (R158). -/
def bayHoldTaken (r : Request) (s : State) : State :=
  let i := byteAt r.payload 0
  if s.bxp.power ≠ .run then answerBay r .state s
  else if (s.bay i).manual then answerBay r .ok s
  else if s.bpc.isEmpty i then answerBay r .bayLost s
  else answerBay r .ok (holdBay .manual i s)

/-- BAY_HOLD (R158). -/
def execBayHold (s : State) : Host.Outcome State Fault Refusal :=
  take .bayHold anyForm (fun r => guarded (bayNumberChecks r) r (bayHoldTaken r)) s

/-- BAY_RELEASE past its BAD_FIELD checks (R158). -/
def bayReleaseTaken (r : Request) (s : State) : State := answerBay r .ok (releaseBay .manual (byteAt r.payload 0) s)

/-- BAY_RELEASE (R158). -/
def execBayRelease (s : State) : Host.Outcome State Fault Refusal :=
  take .bayRelease anyForm (fun r => guarded (bayNumberChecks r) r (bayReleaseTaken r)) s

/-- BAY_STATUS (R166). -/
def execBayStatus (s : State) : Host.Outcome State Fault Refusal :=
  take .bayStatus anyForm
    (fun r s => guarded [(!r.hasLength 0, .badField)] r (answer r .ok s.bayStatusRecord) s) s

/-! ### The queue and the timers -/

/-- An examination of the spin-up queue (R160). -/
def examineQueue (s : State) : State := { s with bpc := s.bpc.examine s.slc.settings }

/-- SPIN_UP_START (R160). -/
def execSpinUpStart (s : State) : Host.Outcome State Fault Refusal := event examineQueue s

/-- The timer given of bay `i` has no second event left. -/
def State.bayTimerOut (s : State) (i : Nat) (k : BayTimer) : Bool := decide ((s.bay i).timer = some (k, 0))

/-- The bay becomes READY at the expiry of its spin-up timer (R161): held, or let down at once. -/
def Bpc.finishSpinUp (cfg : Settings) (i : Nat) (b : Bpc) : Bpc :=
  let x := { b.bay i with state := .ready, timer := none }
  b.setBay i (if x.holdCount = 0 then x.letDown cfg b.force else x)

/-- The expiry of a spin-up timer (R161): BAY_CHANGED, the report to the RPB, and an examination of the queue. -/
def spinUpDone (i : Nat) (s : State) : State :=
  let s := latch .bayChanged { s with bpc := s.bpc.finishSpinUp s.slc.settings i }
  examineQueue (reportBayReady i s)

/-- SPIN_UP_EXPIRY (R161). -/
def execSpinUpExpiry (bay : Fin 4) (s : State) : Host.Outcome State Fault Refusal :=
  event (fun s => if s.bayTimerOut bay.val .spinUp then spinUpDone bay.val s else s) s

/-- The bay enters SPINNING_DOWN at the expiry of its idle timer (R162). -/
def idleDone (i : Nat) (s : State) : State :=
  { s with bpc := s.bpc.setBay i ((s.bay i).startSpinDown s.slc.settings) }

/-- IDLE_TIMER_EXPIRY (R162). -/
def execIdleTimerExpiry (bay : Fin 4) (s : State) : Host.Outcome State Fault Refusal :=
  event (fun s => if s.bayTimerOut bay.val .idle then idleDone bay.val s else s) s

/-- A bay at the expiry of its spin-down timer (R163): OFF, or with respin set at the tail of the queue. -/
def Bpc.finishSpinDown (cfg : Settings) (i : Nat) (b : Bpc) : Bpc :=
  let x := b.bay i
  if x.respin then Bpc.joinQueue cfg i (b.setBay i { x with respin := false, timer := none })
  else Bpc.examine cfg (b.setBay i { x with state := .off, timer := none })

/-- The expiry of a spin-down timer (R163, R171). -/
def spinDownDone (i : Nat) (s : State) : State :=
  bayReport { s with bpc := s.bpc.finishSpinDown s.slc.settings i }

/-- SPIN_DOWN_EXPIRY (R163). -/
def execSpinDownExpiry (bay : Fin 4) (s : State) : Host.Outcome State Fault Refusal :=
  event (fun s => if s.bayTimerOut bay.val .spinDown then spinDownDone bay.val s else s) s

/-! ### Presence -/

/-- A presence change of the kind given stands at bay `i`: the line showed the other level at two consecutive second
events (R155). -/
def State.presenceChange (s : State) (i : Nat) (present : Bool) : Bool :=
  decide ((s.bay i).differ = 2) && decide ((s.bay i).present = present)

/-- The loss of presence is reported to the stream contexts (R63). The rule orders them in no way; here they halt in
ascending number (DESIGN CHOICE, assumption 20). -/
def reportLossToStreams (bay : Nat) (s : State) : State := (List.range 8).foldl (streamBayLost bay) s

/-- The loss of presence at bay `i` (R164). -/
def bayLoss (i : Nat) (s : State) : State :=
  let s := latch .bayChanged { s with bpc := s.bpc.lose s.slc.settings i }
  bayReport (reportBayLost i (reportLossToStreams i s))

/-- PRESENCE_LOSS (R164). -/
def execPresenceLoss (bay : Fin 4) (s : State) : Host.Outcome State Fault Refusal :=
  event (fun s => if s.presenceChange bay.val true then bayLoss bay.val s else s) s

/-- The arrival of presence at bay `i` (R164). -/
def bayArrival (i : Nat) (s : State) : State := bayReport (latch .bayChanged { s with bpc := s.bpc.arrive i })

/-- PRESENCE_ARRIVAL (R164). -/
def execPresenceArrival (bay : Fin 4) (s : State) : Host.Outcome State Fault Refusal :=
  event (fun s => if s.presenceChange bay.val false then bayArrival bay.val s else s) s

end Sys2Proof.Machine
end

