-- ==== Sys2Proof/Machine/Power.lean ====
section
/-!
DEFINITION. The Box Power Controller's requests, timer expiries and the button (chapter 10).
-/

namespace Sys2Proof.Machine

/-! ### Answers with the power record -/

/-- A request of the BXP is answered with the power record as it stands after it (R170, R175, R178). -/
def answerPower (r : Request) (st : Status) (s : State) : State := answer r st s.powerRecord (s.spend 1)

/-! ### Requests -/

/-- POWER_STATUS (R178). -/
def execPowerStatus (s : State) : Host.Outcome State Fault Refusal :=
  take .powerStatus anyForm (fun r => guarded [(!r.hasLength 0, .badField)] r (answerPower r .ok)) s

/-- Checks of a request whose every response carries the power record (R170, R175). -/
def powerGuarded (checks : List (Bool × Status)) (r : Request) (effect : State → State) (s : State) : State :=
  match firstFail checks with
  | some st => answerPower r st s
  | none => answerPower r .ok (effect s)

/-- The checks of STANDBY_ENTER (R170). -/
def standbyEnterChecks (s : State) (r : Request) : List (Bool × Status) :=
  [(!r.hasLength 0, .badField), (decide (s.bxp.power ≠ .run), .state)] ++ entryChecks s

/-- STANDBY_ENTER (R170, R171). -/
def execStandbyEnter (s : State) : Host.Outcome State Fault Refusal :=
  take .standbyEnter anyForm (fun r s => powerGuarded (standbyEnterChecks s r) r acceptStandby s) s

/-- The checks of RETURN_PRIOR (R175). -/
def returnPriorChecks (s : State) (r : Request) : List (Bool × Status) :=
  [(!r.hasLength 0, .badField), (decide (s.bxp.power ≠ .run), .state), (!s.bxp.returnStandby, .staysRun)]
    ++ entryChecks s

/-- RETURN_PRIOR is accepted: the return state becomes RUN, and standby entry begins (R175). -/
def returnToStandby (s : State) : State := acceptStandby { s with bxp.returnStandby := false }

/-- RETURN_PRIOR (R175). -/
def execReturnPrior (s : State) : Host.Outcome State Fault Refusal :=
  take .returnPrior anyForm (fun r s => powerGuarded (returnPriorChecks s r) r returnToStandby s) s

/-- STANDBY_ENTRY_COMPLETE (R171). -/
def execStandbyEntryComplete (s : State) : Host.Outcome State Fault Refusal := event completeStandby s

/-! ### Timers -/

/-- The power timer given has no second event left. -/
def Bxp.timerOut (b : Bxp) (k : PowerTimer) : Bool := decide (b.timer = some (k, 0))

/-- HANDSHAKE_TIMER_EXPIRY (R172). -/
def execHandshakeTimerExpiry (s : State) : Host.Outcome State Fault Refusal :=
  event (fun s =>
    if s.bxp.timerOut .handshake ∧ s.bxp.power = .standbyEntry ∧ s.bxp.sleepAcked = false then
      abandonStandby .handshakeTimeout s
    else s) s

/-- The wake timer expires (R168): host power is removed; a retry pause, or HALTED at the third failure. -/
def wakeFails (s : State) : State :=
  let n := s.bxp.failures + 1
  if n < 3 then
    linkDown { s with bxp.failures := n, bxp.phase := .pause, bxp.timer := some (.pause, Config.pauseSeconds) }
  else linkDown { s with bxp.failures := n, bxp.power := .halted, bxp.timer := none, bxp.returnStandby := false }

/-- WAKE_TIMER_EXPIRY (R168). -/
def execWakeTimerExpiry (s : State) : Host.Outcome State Fault Refusal :=
  event (fun s => if s.bxp.timerOut .wake ∧ s.bxp.power = .waking then wakeFails s else s) s

/-- The pause ends (R168): host power on again, and a new wake timer. -/
def pauseEnds (s : State) : State := { s with bxp.phase := .powered, bxp.timer := some (.wake, Config.wakeSeconds) }

/-- PAUSE_TIMER_EXPIRY (R168). -/
def execPauseTimerExpiry (s : State) : Host.Outcome State Fault Refusal :=
  event (fun s => if s.bxp.timerOut .pause ∧ s.bxp.power = .waking then pauseEnds s else s) s

/-! ### The button -/

/-- A button press by the power state (R174, R169, R173). -/
def pressButton (s : State) : State :=
  match s.bxp.power with
  | .run => latch .button { s with bxp.returnStandby := false }
  | .standbyEntry => abandonStandby .button { s with bxp.returnStandby := false }
  | .standby => startWake .button false s
  | .waking => { s with bxp.returnStandby := false, bxp.cause := .button }
  | .halted => startWake .button false s

/-- BUTTON_PRESS (R174). -/
def execButtonPress (s : State) : Host.Outcome State Fault Refusal := event pressButton s

end Sys2Proof.Machine
end

