-- ==== Sys2Proof/Machine/Network.lean ====
section
/-!
DEFINITION. The Network Watch Unit (chapter 11): received frames, the transmit buffer, templates and filters.
-/

namespace Sys2Proof.Machine

/-! ### Received frames -/

/-- The byte test of R181: every byte of the match exists in the frame and equals the pattern under the mask. -/
def matchesBytes (frame : List Byte) (offset : Nat) (pattern mask : List Byte) : Bool :=
  decide (offset + pattern.length ≤ frame.length)
    && ((slice frame offset pattern.length).zip (pattern.zip mask)).all fun x =>
        decide (x.1 &&& x.2.2 = x.2.1 &&& x.2.2)

/-- A filter matches a frame (R182). -/
def Filter.matchesFrame (f : Filter) (frame : List Byte) : Bool := matchesBytes frame f.offset f.pattern f.mask

/-- A template matches a frame (R181). -/
def Template.matchesFrame (t : Template) (frame : List Byte) : Bool := matchesBytes frame t.offset t.pattern t.mask

/-- The first present template that matches (R181). -/
def Nwu.matching (n : Nwu) (frame : List Byte) : Option Template :=
  (n.templates.toList.filterMap id).find? fun t => t.matchesFrame frame

/-- A frame matches a client (R182). -/
def Client.matchesFrame (c : Client) (frame : List Byte) : Bool :=
  c.active && decide (slice frame 6 6 = c.address) && c.filters.any fun f => f.matchesFrame frame

/-- The first client that matches (R182). -/
def State.matchingClient (s : State) (frame : List Byte) : Option Nat :=
  (List.range 16).find? fun c => (s.client c).matchesFrame frame

/-- A frame joins the transmit buffer unless it holds 4 (R180, R181). -/
def queueTransmit (frame : List Byte) (s : State) : State :=
  if s.nwu.transmit.length < Config.transmitMax then { s with nwu.transmit := s.nwu.transmit ++ [frame] } else s

/-- A client's hold with a new frame (R183). -/
def Client.hold (c : Client) (frame : List Byte) : Client :=
  match c.holdStatus with
  | .empty => { c with holdStatus := .one, held := [frame] }
  | .one => { c with holdStatus := .two, held := c.held ++ [frame] }
  | .two => { c with holdStatus := .lost, held := c.held.drop 1 ++ [frame] }
  | .lost => { c with holdStatus := .lost, held := c.held.drop 1 ++ [frame] }

/-- A frame is held for client `c` and reported (R182, R183). -/
def holdFrame (c : Nat) (frame : List Byte) (s : State) : State :=
  frameHeldReport c (s.setClient c ((s.client c).hold frame))

/-- A frame in pass mode (R179). -/
def passFrame (frame : List Byte) (s : State) : State :=
  if s.nwu.receive.length < Config.receiveMax then
    { s with nwu.receive := s.nwu.receive ++ [{ lost := false, bytes := frame }] }
  else s

/-- A frame against the wake filters, in LOADED (R182). -/
def watchClients (frame : List Byte) (s : State) : State :=
  if s.loaded then
    match s.matchingClient frame with
    | some c => holdFrame c frame s
    | none => s
  else s

/-- A frame in watch mode (section 11.2). -/
def watchFrame (frame : List Byte) (s : State) : State :=
  match s.nwu.matching frame with
  | some t => queueTransmit t.reply s
  | none => watchClients frame s

/-- A frame that the MAC takes, by the mode (R179). -/
def frameTaken (frame : List Byte) (s : State) : State :=
  match s.nwu.mode with
  | .pass => passFrame frame s
  | .watch => watchFrame frame s

/-- The MAC takes a frame with a good check and a length of 60 to 1,518 bytes (R179). -/
def macTakes (frame : List Byte) (good : Bool) : Bool :=
  good && decide (60 ≤ frame.length) && decide (frame.length ≤ 1518)

/-- FRAME_RECEIVED (R179). -/
def execFrameReceived (frame : List Byte) (good : Bool) (s : State) : Host.Outcome State Fault Refusal :=
  event (fun s => if macTakes frame good then frameTaken frame s else s) s

/-! ### The transmit buffer -/

/-- The checks of FRAME_OUT (R180). -/
def frameOutChecks (s : State) (r : Request) : List (Bool × Status) :=
  [(decide (r.auxNat ≠ 0), .badField),
   (decide (r.payload.length < 14) || decide (1518 < r.payload.length), .badField),
   (decide (s.nwu.mode = .watch), .state),
   (decide (Config.transmitMax ≤ s.nwu.transmit.length), .full)]

/-- FRAME_OUT (R180). -/
def execFrameOut (s : State) : Host.Outcome State Fault Refusal :=
  take .frameOut anyForm
    (fun r s => guarded (frameOutChecks s r) r (fun s => answer r .ok [] (queueTransmit r.payload s)) s) s

/-- The bytes on the wire of a frame: padded with zeros to 60 bytes, then its frame check sequence (R180). -/
def wireBytes (frame : List Byte) : List Byte := padTo 60 frame ++ frameCheck (padTo 60 frame)

/-- The MAC begins to transmit the oldest frame when none is on the wire (R180). -/
def transmitStarts (s : State) : State :=
  match s.nwu.onWire, s.nwu.transmit with
  | none, frame :: _ => { s with nwu.onWire := some (wireBytes frame) }
  | _, _ => s

/-- FRAME_TRANSMIT_START (R180). -/
def execFrameTransmitStart (s : State) : Host.Outcome State Fault Refusal := event transmitStarts s

/-- The transmission ends, and the frame leaves the buffer (R180). -/
def transmitEnds (s : State) : State :=
  match s.nwu.onWire with
  | some _ => { s with nwu.onWire := none, nwu.transmit := s.nwu.transmit.drop 1 }
  | none => s

/-- FRAME_TRANSMIT_END (R180). -/
def execFrameTransmitEnd (s : State) : Host.Outcome State Fault Refusal := event transmitEnds s

/-! ### Filters -/

/-- The filters that bytes hold, up to `n` of them, if their offsets and lengths are in range and nothing is left over
(Table 11.3, R186). -/
def filtersOf : Nat → List Byte → Option (List Filter)
  | 0, p => if p = [] then some [] else none
  | n + 1, p =>
    let len := byteAt p 2
    if p.length < 3 + 2 * len ∨ len < 1 ∨ 32 < len ∨ 1499 < field p 0 2 then none
    else
      (filtersOf n (p.drop (3 + 2 * len))).map fun rest =>
        { offset := field p 0 2, pattern := slice p 3 len, mask := slice p (3 + len) len } :: rest

/-- The filters of a FILTER_SET payload (R186). -/
def payloadFilters (p : List Byte) : Option (List Filter) :=
  if p.length < 2 ∨ 2 < byteAt p 1 then none else filtersOf (byteAt p 1) (p.drop 2)

/-- A filter in the layout of Table 11.3. -/
def Filter.bytes (f : Filter) : List Byte := le 2 f.offset ++ le 1 f.pattern.length ++ f.pattern ++ f.mask

/-- A client's filters in the layout of Table 11.3. -/
def State.filterRecord (s : State) (c : Nat) : List Byte :=
  le 1 c ++ le 1 (s.client c).filters.length ++ (s.client c).filters.flatMap Filter.bytes

/-- The checks of FILTER_SET with aux 0 (R186). -/
def filterSetChecks (s : State) (r : Request) : List (Bool × Status) :=
  changeGate s ++
    [(decide (r.auxNat ≠ 0), .badField),
     (decide (15 < byteAt r.payload 0), .badField),
     ((payloadFilters r.payload).isNone, .badField),
     (!(s.client (byteAt r.payload 0)).active, .noSuch)]

/-- The filters of client `c` are replaced (R186). -/
def writeFilters (c : Nat) (fs : List Filter) (s : State) : State := s.setClient c { s.client c with filters := fs }

/-- FILTER_SET with any aux but 1 (R186). -/
def execFilterSet (s : State) : Host.Outcome State Fault Refusal :=
  take .filterSet (fun r => decide (r.auxNat ≠ 1))
    (fun r s => guarded (filterSetChecks s r) r
      (fun s =>
        let s := writeFilters (byteAt r.payload 0) ((payloadFilters r.payload).getD []) s
        answer r .ok (s.filterRecord (byteAt r.payload 0)) s) s) s

/-- The checks of FILTER_SET with aux 1 (R186). -/
def filterReadChecks (s : State) (r : Request) : List (Bool × Status) :=
  readGate s ++
    [(!r.hasLength 1, .badField), (decide (15 < byteAt r.payload 0), .badField),
     (!(s.client (byteAt r.payload 0)).active, .noSuch)]

/-- FILTER_SET with aux 1 (R186). -/
def execFilterRead (s : State) : Host.Outcome State Fault Refusal :=
  take .filterSet (fun r => decide (r.auxNat = 1))
    (fun r s => guarded (filterReadChecks s r) r (answer r .ok (s.filterRecord (byteAt r.payload 0))) s) s

/-! ### Templates -/

/-- The template a TEMPLATE_SET payload carries: absent, or present with its fields in range; none for BAD_FIELD
(Table 11.2, R185). -/
def payloadTemplate (p : List Byte) : Option (Option Template) :=
  let len := byteAt p 4
  let reply := byteAt p 5
  if p.length < 2 ∨ 3 < byteAt p 0 ∨ 1 < byteAt p 1 then none
  else if byteAt p 1 = 0 then (if p.length = 2 then some none else none)
  else if 1499 < field p 2 2 ∨ len < 1 ∨ 64 < len ∨ reply < 60 ∨ 128 < reply ∨ p.length ≠ 6 + 2 * len + reply then none
  else
    some (some { offset := field p 2 2, pattern := slice p 6 len, mask := slice p (6 + len) len,
                 reply := slice p (6 + 2 * len) reply })

/-- Template `t`. -/
def State.template (s : State) (t : Nat) : Option Template := slot none s.nwu.templates t

/-- A template in the layout of Table 11.2. -/
def State.templateRecord (s : State) (t : Nat) : List Byte :=
  match s.template t with
  | none => le 1 t ++ [0#8]
  | some x =>
    le 1 t ++ [1#8] ++ le 2 x.offset ++ le 1 x.pattern.length ++ le 1 x.reply.length ++ x.pattern ++ x.mask ++ x.reply

/-- Template `t` becomes what is given (R185). -/
def writeTemplate (t : Nat) (x : Option Template) (s : State) : State :=
  { s with nwu.templates := put s.nwu.templates t x }

/-- TEMPLATE_SET with any aux but 1 (R185). -/
def execTemplateSet (s : State) : Host.Outcome State Fault Refusal :=
  take .templateSet (fun r => decide (r.auxNat ≠ 1))
    (fun r => guarded [(decide (r.auxNat ≠ 0), .badField), ((payloadTemplate r.payload).isNone, .badField)] r
      (fun s =>
        let s := writeTemplate (byteAt r.payload 0) ((payloadTemplate r.payload).getD none) s
        answer r .ok (s.templateRecord (byteAt r.payload 0)) s)) s

/-- TEMPLATE_SET with aux 1 (R185). -/
def execTemplateRead (s : State) : Host.Outcome State Fault Refusal :=
  take .templateSet (fun r => decide (r.auxNat = 1))
    (fun r s => guarded [(!r.hasLength 1, .badField), (decide (3 < byteAt r.payload 0), .badField)] r
      (answer r .ok (s.templateRecord (byteAt r.payload 0))) s) s

end Sys2Proof.Machine
end

