-- ==== Sys2Proof/Machine/Images.lean ====
section
/-!
DEFINITION. The Table Image Unit (chapter 12): TABLES_INIT, the export and its cursor, the import of image records with
their checks, IMAGE_END.
-/

namespace Sys2Proof.Machine

/-! ### Image records -/

/-- An image record of 64 bytes (Table 12.2). -/
def imageRecord (code part number : Nat) (content : List Byte) : List Byte :=
  let b := le 1 code ++ le 4 part ++ le 4 number ++ padTo 53 content
  b ++ checkBytes (crc16 b)

/-- The image records of one record: part 0 and its continuations in order (section 12.2). -/
def imageParts (code number : Nat) (parts : List (List Byte)) : List (List Byte) :=
  parts.zipIdx.map fun x => imageRecord code x.2 number x.1

/-- A list cut into pieces of at most `n` (`fuel` bounds the number of pieces). -/
def pieces {α : Type} (n : Nat) : Nat → List α → List (List α)
  | 0, _ => []
  | _, [] => []
  | fuel + 1, xs => xs.take n :: pieces n fuel (xs.drop n)

/-- The two parts of a wake filter (Table 12.3). -/
def Filter.parts (f : Filter) : List (List Byte) := [le 2 f.offset ++ le 1 f.pattern.length ++ f.pattern, f.mask]

/-- Part contents of a recipe (Table 12.3): INDEXED references in groups of up to 12 consecutive ones, PRIVATE ones
singly. `group` holds the handles of the open group. -/
def recipeParts : List Nat → List Ref → List (List Byte)
  | group, [] => if group = [] then [] else [[1#8] ++ le 1 group.length ++ group.flatMap (le 4)]
  | group, .indexed h :: rest =>
    if group.length = 12 then ([1#8] ++ le 1 12 ++ group.flatMap (le 4)) :: recipeParts [h] rest
    else recipeParts (group ++ [h]) rest
  | group, .priv l n d damaged :: rest =>
    let one := [2#8, flagByte damaged]
      ++ (match l with
          | none => 0xFF#8 :: le 6 0
          | some x => le 1 x.bay ++ le 6 x.block)
      ++ le 3 n ++ digestBytes d
    (if group = [] then [] else [[1#8] ++ le 1 group.length ++ group.flatMap (le 4)]) ++ one :: recipeParts [] rest

/-- Part 0 of an object (Table 12.3). -/
def Obj.head (o : Obj) : List Byte :=
  [o.state.code] ++ le 1 o.owner.1 ++ le 1 o.owner.2 ++ le 6 o.length ++ le 2 o.holders ++ le 4 o.recipe.length

/-- A chunk entry (Table 12.3): bytes 4 to 22 and 24 to 55 of its CHUNK_READ record; a payer that is absent is written
with zeros. -/
def Chunk.imageContent (e : Chunk) (h : Nat) : List Byte :=
  let b := e.record h [0#8, 0#8]
  slice b 4 19 ++ slice b 24 32

/-- An order (Table 12.3). -/
def Order.bytes : Order → List Byte
  | .coll n => 1#8 :: le 4 n
  | .object n => 2#8 :: le 4 n

/-- The image records of a section, by its code (Table 12.3). -/
def State.imageSection (s : State) : Nat → List (List Byte)
  | 1 => imageParts 1 0 [s.tiu.settingsCopy.bytes]
  | 2 => (List.range 16).flatMap fun c =>
      imageParts 2 c (slice (s.clientRecord c) 0 46 :: (s.client c).filters.flatMap Filter.parts)
  | 3 => s.oct.colls.flatMap fun x =>
      imageParts 3 x.1
        (s.collRecord x.1 :: (pieces 13 x.2.members.length x.2.members).map fun ms => ms.flatMap (le 4))
  | 4 => s.oct.objects.flatMap fun x => imageParts 4 x.1 (x.2.head :: recipeParts [] x.2.recipe)
  | 5 => s.chunks.map fun x => imageRecord 5 0 x.1 (x.2.imageContent x.1)
  | 6 => s.grants.map fun x => imageRecord 6 0 x.1 (slice (s.grantRecord x.1) 0 16)
  | 7 => s.rtu.orders.zipIdx.map fun x => imageRecord 7 0 x.2 x.1.bytes
  | 8 => s.rtu.release.zipIdx.map fun x => imageRecord 8 0 x.2 x.1.bytes
  | 9 => s.rtu.deferred.zipIdx.map fun x => imageRecord 9 0 x.2 (x.1.extent.bytes ++ le 4 x.1.tag.toNat)
  | _ => []

/-- Sections 1 to 9. -/
def State.sections (s : State) : List (List (List Byte)) := (List.range' 1 9).map s.imageSection

/-- The image: sections 1 to 9 and the trailer (Table 12.3). -/
def State.image (s : State) : List (List Byte) :=
  let parts := s.sections
  parts.flatten ++ [imageRecord 10 0 0 (parts.flatMap fun x => le 4 x.length)]

/-! ### The status record -/

/-- Load states as the record shows them (Table 12.4). -/
def LoadState.code : LoadState → Byte
  | .unloaded => 0#8 | .loading => 1#8 | .loaded => 2#8 | .loadFailed => 3#8

/-- A count of 8 bytes. -/
abbrev le8 (n : Nat) : List Byte := le 8 n

/-- The image status record (Table 12.4). `field11` is bytes 11 to 14, `failed` the failed check. -/
def Tiu.record (t : Tiu) (field11 : List Byte) (failed : Nat) : List Byte :=
  [t.load.code, flagByte t.exporting] ++ le 1 t.section_ ++ le8 t.moved ++ field11 ++ le 1 failed

/-- Bytes 11 to 14: the export total; with no export the table states no content (assumption 3). -/
def State.totalBytes (s : State) : List Byte :=
  match s.tiu.total with
  | some n => le 4 n
  | none => s.freeBytes 4

/-- A request of the TIU is answered with the status record, and what follows it, as it stands after the request. -/
def answerImage (r : Request) (st : Status) (records : List (List Byte)) (s : State) : State :=
  answer r st (s.tiu.record s.totalBytes 0 ++ records.flatten) (s.spend 4)

/-! ### TABLES_INIT -/

/-- Every record table is empty (R188, R191). -/
def emptyTables (s : State) : State :=
  { s with
    clients := Vector.replicate 16 (Client.free 0)
    chunks := []
    oct := { objects := [], colls := [], freePages := Config.poolPages }
    rtu := Rtu.empty
    grants := []
    bxp.due := 0#16 }

/-- No transfer is under way, and nothing of one is kept. -/
def Tiu.cleared (t : Tiu) (load : LoadState) : Tiu :=
  { t with
    load := load, exporting := false, section_ := 0, moved := 0, total := none, lastBatch := [],
    cursor := ImportCursor.start }

/-- The checks of TABLES_INIT (R188). -/
def tablesInitChecks (s : State) (r : Request) : List (Bool × Status) :=
  [(decide (s.bxp.power ≠ .run), .state),
   (s.tiu.exporting, .imageBusy),
   (!r.hasLength 0, .badField),
   (decide (0 < s.streamCount), .streamsOpen),
   (decide (0 < s.planCount), .plansOpen)]

/-- TABLES_INIT is taken (R188). -/
def initTables (s : State) : State := { emptyTables s with tiu := s.tiu.cleared .loaded }

/-- TABLES_INIT (R188). -/
def execTablesInit (s : State) : Host.Outcome State Fault Refusal :=
  take .tablesInit anyForm
    (fun r s => guarded (tablesInitChecks s r) r (fun s => answerImage r .ok [] (initTables s)) s) s

/-! ### Export -/

/-- The checks of IMAGE_EXPORT (R189). -/
def imageExportChecks (s : State) (r : Request) : List (Bool × Status) :=
  [(decide (s.bxp.power ≠ .run), .state)] ++ changeGate s ++
    [(!r.hasLength 0, .badField), (decide (0 < s.streamCount), .streamsOpen)]

/-- IMAGE_EXPORT is taken (R189): the copy, the cursor before the first record, the freeze. -/
def startExport (s : State) : State :=
  let s := freezeWalk { s with
    tiu := { s.tiu.cleared .loaded with exporting := true, settingsCopy := s.slc.settings } }
  { s with tiu.total := some s.image.length }

/-- IMAGE_EXPORT (R189). -/
def execImageExport (s : State) : Host.Outcome State Fault Refusal :=
  take .imageExport anyForm
    (fun r s => guarded (imageExportChecks s r) r (fun s => answerImage r .ok [] (startExport s)) s) s

/-- BAD_FIELD of IMAGE_NEXT (R190). R190 gives aux 0 and 1 alone; an aux above 1 is BAD_FIELD in every load state, as a field
out of range (R12), and neither R190's STATE nor Table 12.4 (DESIGN CHOICE, assumption 9). -/
def imageNextChecks (r : Request) : List (Bool × Status) :=
  [(decide (1 < r.auxNat), .badField), (!r.hasLength 2, .badField),
   (decide (field r.payload 0 2 = 0) || decide (255 < field r.payload 0 2), .badField)]

/-- The section code of an image record. -/
def codeOf (record : List Byte) : Nat := byteAt record 0

/-- The export ends (R190): the flag is cleared, and the RTU leaves FROZEN. -/
def endExport (s : State) : State := unfreezeWalk { s with tiu.exporting := false }

/-- A batch leaves the export (R190): it becomes the last batch, and the cursor stands behind it. The batch that returns
the trailer ends the export and latches IMAGE_DONE. -/
def exportBatch (count : Nat) (s : State) : State :=
  let all := s.image
  let batch := (all.drop s.tiu.moved).take count
  let moved := s.tiu.moved + batch.length
  let s := { s with
    tiu := { s.tiu with
      lastBatch := batch, moved := moved, section_ := (batch.getLast?.map codeOf).getD s.tiu.section_ } }
  if all.length ≤ moved then latch .imageDone (endExport s) else s

/-- IMAGE_NEXT with aux 0 past its BAD_FIELD checks (R190). -/
def imageNextTaken (r : Request) (s : State) : State :=
  if s.tiu.exporting then
    let s := exportBatch (field r.payload 0 2) s
    answerImage r .ok s.tiu.lastBatch s
  else if s.tiu.load = .loading then answerImage r .ok [] s
  else refuse r .state s

/-- IMAGE_NEXT with any aux but 1 (R190). -/
def execImageNext (s : State) : Host.Outcome State Fault Refusal :=
  take .imageNext (fun r => decide (r.auxNat ≠ 1)) (fun r => guarded (imageNextChecks r) r (imageNextTaken r)) s

/-- IMAGE_NEXT with aux 1 past its BAD_FIELD checks: the last export batch again (R190). -/
def imageAgainTaken (r : Request) (s : State) : State :=
  match s.tiu.load with
  | .loaded => answerImage r .ok s.tiu.lastBatch s
  | .loading => answerImage r .ok [] s
  | _ => refuse r .state s

/-- IMAGE_NEXT with aux 1 (R190). -/
def execImageNextAgain (s : State) : Host.Outcome State Fault Refusal :=
  take .imageNext (fun r => decide (r.auxNat = 1)) (fun r => guarded (imageNextChecks r) r (imageAgainTaken r)) s

/-- The import ends without success (R190, R191). -/
def failImport (s : State) : State := { s with tiu.load := .loadFailed }

/-- IMAGE_CANCEL past its BAD_FIELD check (R190). -/
def imageCancelTaken (r : Request) (s : State) : State :=
  if s.tiu.exporting then answer r .ok [] (endExport s)
  else if s.tiu.load = .loading then answer r .ok [] (failImport s)
  else refuse r .state s

/-- IMAGE_CANCEL (R190). -/
def execImageCancel (s : State) : Host.Outcome State Fault Refusal :=
  take .imageCancel anyForm (fun r => guarded [(!r.hasLength 0, .badField)] r (imageCancelTaken r)) s

/-! ### Import: one image record -/

/-- The checks of IMAGE_IMPORT (R191). -/
def imageImportChecks (s : State) (r : Request) : List (Bool × Status) :=
  [(!r.hasLength 0, .badField),
   (decide (s.bxp.power ≠ .run) || decide (s.tiu.load = .loaded) || decide (s.tiu.load = .loading), .state)]

/-- IMAGE_IMPORT is taken (R191). -/
def startImport (s : State) : State := { emptyTables s with tiu := s.tiu.cleared .loading }

/-- IMAGE_IMPORT (R191). -/
def execImageImport (s : State) : Host.Outcome State Fault Refusal :=
  take .imageImport anyForm
    (fun r s => guarded (imageImportChecks s r) r (fun s => answer r .ok [] (startImport s)) s) s

/-- An image record's fields (Table 12.2). -/
structure ImageEntry where
  code : Nat
  part : Nat
  number : Nat
  content : List Byte
  deriving DecidableEq, Repr

/-- An image record read (Table 12.2). -/
def ImageEntry.ofBytes (e : List Byte) : ImageEntry :=
  { code := field e 0 1, part := field e 1 4, number := field e 5 4, content := slice e 9 53 }

/-- The record before is complete: no member, reference or mask of it is still to come. -/
def ImportCursor.complete (c : ImportCursor) : Bool := decide (c.want = 0) && c.filterHead.isNone

/-- A continuation that may follow now (Table 12.3): of a client, up to two parts for each of two filters; of a
collection or object, while members or references are still to come. A surplus one, a third filter of a client or a part
after the stated members or references have come, so fails check 1 of R191 and is STATE; R191 does not say which check it
fails (DESIGN CHOICE, assumption 27). -/
def ImportCursor.expects (c : ImportCursor) (code : Nat) : Bool :=
  match code with
  | 2 => decide (c.part < 4)
  | 3 => decide (0 < c.want)
  | 4 => decide (0 < c.want)
  | _ => false

/-- Check 1 of R191: the image record is in order. Before the first record (section 0) none precedes, so every record
that begins at part 0 is; a section code 0 there fails check 2. -/
def Tiu.inOrder (t : Tiu) (e : ImageEntry) : Bool :=
  if t.section_ = 10 then false
  else if e.code < t.section_ then false
  else if e.part = 0 then t.cursor.complete && 
    (decide (t.section_ < e.code) || decide (t.section_ = 0) || decide (t.cursor.number < e.number))
  else decide (e.code = t.section_) && decide (e.number = t.cursor.number) && decide (e.part = t.cursor.part + 1)
    && t.cursor.expects e.code

/-- What an image record comes to: a refusal, or the tables with it written and what of its record is still to come. -/
inductive Applied where
  | refused (st : Status)
  | written (s : State) (want : Nat) (filterHead : Option (Nat × List Byte))
  deriving DecidableEq, Repr

/-- An image record is written when its checks pass. -/
def Applied.when (checks : List (Bool × Status)) (s : State) (want : Nat) : Applied :=
  match firstFail checks with
  | some st => .refused st
  | none => .written s want none

/-- An optional field: present byte at `off`, value after it. -/
def optionField (p : List Byte) (off len : Nat) : Option Nat :=
  if byteAt p off = 1 then some (field p (off + 1) len) else none

/-- Section 1 (Table 12.3): the settings record, clamped. -/
def applySettings (e : ImageEntry) (s : State) : Applied :=
  Applied.when [(decide (e.number ≠ 0), .badField)] (replaceSettings (Settings.ofBytes e.content) s) 0

/-- The schedule of a client's image record (Table 2.7, bytes 36 to 44). -/
def imageSchedule (p : List Byte) : Option Schedule :=
  if byteAt p 36 = 1 then some { period := field p 37 2, nextDue := field p 39 4, lead := field p 43 2 } else none

/-- The client of an image record (Table 2.7, bytes 0 to 45). -/
def imageClient (p : List Byte) : Client :=
  if byteAt p 1 = 1 then
    { active := true, generation := byteAt p 2, role := (Role.ofCode (byteAt p 3)).getD .unset, address := slice p 4 6,
      label := slice p 10 16, quota := if field p 26 4 = 0 then none else some (field p 26 4), charged := field p 30 6,
      schedule := imageSchedule p, missed := byteAt p 45, filters := [], holdStatus := .empty, held := [] }
  else Client.free (byteAt p 2)

/-- The ranges of a present schedule (Table 2.4). -/
def scheduleInRange (sch : Option Schedule) : Bool :=
  match sch with
  | none => true
  | some x => decide (1 ≤ x.period) && decide (x.period ≤ 40320) && decide (x.lead ≤ 3600)

/-- The checks of an ACTIVE client's image record (R191 step 2). A VIEWER with missed above 0, which R31 keeps from
arising, is taken (assumption 14). -/
def activeClientChecks (s : State) (p : List Byte) : List (Bool × Status) :=
  let x := imageClient p
  [((Role.ofCode (byteAt p 3)).isNone, .badField),
   (!acceptableAddress x.address, .badField),
   (s.addressTaken (byteAt p 0) x.address, .badField),
   (decide (Config.maxQuota < field p 26 4), .badField),
   ((match x.quota with
      | some q => decide (q * Config.mib < x.charged)
      | none => false), .badField),
   (decide (1 < byteAt p 36), .badField),
   (!scheduleInRange x.schedule, .badField),
   (x.schedule.isSome && decide (x.role = .viewer), .badField)]

/-- The checks of a client's image record (R191 step 2). A FREE record holds its generation alone. R191 names no check of
the client number that the content repeats (Table 2.7, byte 0): another number than the image record's is BAD_FIELD (DESIGN
CHOICE, assumption 14). -/
def clientImageChecks (s : State) (e : ImageEntry) : List (Bool × Status) :=
  let p := e.content
  [(decide (15 < e.number), .badField), (decide (byteAt p 0 ≠ e.number), .badField),
   (decide (1 < byteAt p 1), .badField)]
    ++ (if byteAt p 1 = 1 then activeClientChecks s p
        else [((slice p 3 43).any (fun b => decide (b ≠ 0#8)), .badField)])

/-- Section 2, part 0 (Table 12.3). -/
def applyClient (e : ImageEntry) (s : State) : Applied :=
  Applied.when (clientImageChecks s e) (s.setClient e.number (imageClient e.content)) 0

/-- Section 2, the first part of a filter: its offset, length and pattern. -/
def applyFilterHead (e : ImageEntry) (s : State) : Applied :=
  let n := byteAt e.content 2
  if field e.content 0 2 ≤ 1499 ∧ 1 ≤ n ∧ n ≤ 32 ∧ (s.client e.number).active then
    .written s 0 (some (field e.content 0 2, slice e.content 3 n))
  else .refused .badField

/-- Section 2, the second part of a filter: its mask. -/
def applyFilterMask (e : ImageEntry) (offset : Nat) (pattern : List Byte) (s : State) : Applied :=
  let x := s.client e.number
  let f : Filter := { offset := offset, pattern := pattern, mask := slice e.content 0 pattern.length }
  .written (s.setClient e.number { x with filters := x.filters ++ [f] }) 0 none

/-- Section 2, a continuation. -/
def applyClientPart (e : ImageEntry) (s : State) : Applied :=
  match s.tiu.cursor.filterHead with
  | none => applyFilterHead e s
  | some (offset, pattern) => applyFilterMask e offset pattern s

/-- The collection state of an image record; FREE is not written (Table 12.3). -/
def CollState.ofCode : Nat → Option CollState
  | 1 => some .open
  | 2 => some .closed
  | 3 => some .retiring
  | _ => none

/-- The collection of an image record, its members still to come (Table 5.7). -/
def imageColl (p : List Byte) : Coll :=
  { state := (CollState.ofCode (byteAt p 2)).getD .free, kind := (CollKind.ofCode (byteAt p 3)).getD .snapshot,
    owner := (byteAt p 4, byteAt p 5), created := field p 6 4, closed := optionField p 10 4, members := [],
    reserved := 0 }

/-- A closed time that agrees with state and kind (Table 5.4, Table 5.5). -/
def Coll.closedAgrees (c : Coll) : Bool :=
  match c.state with
  | .open => c.closed.isNone
  | .closed => c.closed.isSome && decide (c.kind = .snapshot)
  | .retiring => c.closed.isNone || decide (c.kind = .snapshot)
  | .free => false

/-- The client stands ACTIVE with the generation of an owner pair (R191 step 3). -/
def State.ownerStands (s : State) (c g : Nat) : Bool := (s.client c).active && decide ((s.client c).generation = g)

/-- The checks of a collection's image record (R191). The owner's role and the two page counts of Table 5.7 are not examined
(DEDUCED, assumption 14). R191 names no check of the collection number that the content repeats (Table 5.7, bytes 0 and 1):
another number than the image record's is BAD_FIELD (DESIGN CHOICE, assumption 14). -/
def collImageChecks (s : State) (e : ImageEntry) : List (Bool × Status) :=
  let p := e.content
  let c := imageColl p
  [(decide (Config.collectionCount ≤ e.number), .badField), (decide (field p 0 2 ≠ e.number), .badField),
   ((CollState.ofCode (byteAt p 2)).isNone, .badField), ((CollKind.ofCode (byteAt p 3)).isNone, .badField),
   (decide (15 < byteAt p 4), .badField), (decide (1 < byteAt p 10), .badField), (!c.closedAgrees, .badField),
   (decide (Config.maxMembers < field p 15 3), .badField), (decide (byteAt p 18 ≠ 0), .badField),
   (!s.ownerStands (byteAt p 4) (byteAt p 5), .noSuch)]

/-- Section 3, part 0 (Table 12.3). -/
def applyColl (e : ImageEntry) (s : State) : Applied :=
  Applied.when (collImageChecks s e) (s.setColl e.number (imageColl e.content)) (field e.content 15 3)

/-- Strictly ascending numbers. -/
def ascending : List Nat → Bool
  | a :: b :: rest => decide (a < b) && ascending (b :: rest)
  | _ => true

/-- The next numbers of a run of 4-byte fields. -/
def fieldsOf (p : List Byte) (off n : Nat) : List Nat := (List.range n).map fun i => field p (off + 4 * i) 4

/-- Section 3, a continuation: up to 13 members (Table 12.3). -/
def applyMembers (e : ImageEntry) (s : State) : Applied :=
  let c := s.coll e.number
  let want := s.tiu.cursor.want
  let ms := fieldsOf e.content 0 (min want 13)
  let new := { c with members := c.members ++ ms }
  Applied.when
    [(ms.any (fun m => decide (Config.objectCount ≤ m)), .badField),
     (!ascending (c.members.getLast?.toList ++ ms), .badField),
     (!s.poolFits c.slots new.slots, .poolFull)]
    (replaceColl e.number new s) (want - ms.length)

/-- The object state of an image record: COMPLETE or RETIRING (R191 step 2). -/
def ObjectState.ofCode : Nat → Option ObjectState
  | 2 => some .complete
  | 3 => some .retiring
  | _ => none

/-- The object of an image record, its references still to come (Table 12.3). -/
def imageObject (p : List Byte) : Obj :=
  { state := (ObjectState.ofCode (byteAt p 0)).getD .free, owner := (byteAt p 1, byteAt p 2), length := field p 3 6,
    holders := field p 9 2, planHolds := 0, recipe := [] }

/-- The checks of an object's image record (R191 step 2). A COMPLETE object has a holder and a RETIRING one none. A length
that does not fit the reference count is taken (assumption 14). -/
def objectImageChecks (e : ImageEntry) : List (Bool × Status) :=
  let o := imageObject e.content
  [(decide (Config.objectCount ≤ e.number), .badField),
   ((ObjectState.ofCode (byteAt e.content 0)).isNone, .badField),
   (decide (15 < o.owner.1), .badField),
   (decide (Config.maxObjectLength < o.length), .badField),
   (decide (Config.collectionCount < o.holders), .badField),
   (decide (o.state = .complete) != decide (0 < o.holders), .badField)]

/-- Section 4, part 0 (Table 12.3). -/
def applyObject (e : ImageEntry) (s : State) : Applied :=
  Applied.when (objectImageChecks e) (s.setObject e.number (imageObject e.content)) (field e.content 11 4)

/-- References written by a continuation of an object, with the pages they need (R91). -/
def appendRefs (n : Nat) (refs : List Ref) (checks : List (Bool × Status)) (want : Nat) (s : State) : Applied :=
  let o := s.object n
  Applied.when
    (checks ++ [(!s.poolFits (recipeSlots o.recipe) (recipeSlots (o.recipe ++ refs)), .poolFull)])
    (setRecipe n (o.recipe ++ refs) s) (want - refs.length)

/-- An extent's fields are in range (R117). -/
def extentInRange (bay block length : Nat) : Bool :=
  decide (bay ≤ 3) && decide (block < Config.blockCount) && decide (1 ≤ length) && decide (length ≤ 131072)

/-- The PRIVATE reference of a continuation (Table 12.3). -/
def imagePrivate (p : List Byte) : Ref :=
  .priv (if byteAt p 2 = 255 then none else some { bay := byteAt p 2, block := field p 3 6 }) (field p 9 3)
    (digestOf (slice p 12 32)) (decide (byteAt p 1 = 1))

/-- Section 4, a continuation (Table 12.3): a group of handles, or one PRIVATE reference. A group of more handles than
are still to come is BAD_FIELD; R191 does not say which check it fails (DESIGN CHOICE, assumption 27). A PRIVATE reference
marked damaged with no location, which R96 keeps from arising, is taken (assumption 14). -/
def applyRefs (e : ImageEntry) (s : State) : Applied :=
  let p := e.content
  let want := s.tiu.cursor.want
  match byteAt p 0 with
  | 1 =>
    let k := byteAt p 1
    let hs := fieldsOf p 2 k
    appendRefs e.number (hs.map Ref.indexed)
      [(decide (k < 1) || decide (12 < k) || decide (want < k), .badField),
       (hs.any (fun h => decide (Config.chunkCount ≤ h)), .badField)] want s
  | 2 =>
    let absent := decide (byteAt p 2 = 255)
    appendRefs e.number [imagePrivate p]
      [(decide (1 < byteAt p 1), .badField),
       (!(extentInRange (if absent then 0 else byteAt p 2) (if absent then 0 else field p 3 6) (field p 9 3)), .badField),
       (absent && decide ((s.object e.number).state = .complete), .badField)] want s
  | _ => .refused .badField

/-- The entry state of an image record (R191 step 2, Table 12.3). -/
def ChunkState.ofCode : Nat → Option ChunkState
  | 2 => some .present
  | 3 => some .needsWriter
  | 4 => some .damaged
  | _ => none

/-- The chunk entry of an image record (Table 12.3: bytes 4 to 22 and 24 to 55 of Table 4.4). -/
def imageChunk (p : List Byte) : Chunk :=
  { state := (ChunkState.ofCode (byteAt p 0)).getD .empty, refcount := field p 1 3, length := field p 4 3,
    loc := if byteAt p 7 = 255 then none else some { bay := byteAt p 7, block := field p 8 8 },
    payer := if byteAt p 16 = 1 then some (byteAt p 17, byteAt p 18) else none,
    writer := none, digest := digestOf (slice p 19 32) }

/-- The fields that go with an entry's state (Table 4.2): a location and no or one payer in PRESENT and DAMAGED, neither
in NEEDS_WRITER. -/
def Chunk.stateAgrees (e : Chunk) : Bool :=
  match e.state with
  | .needsWriter => e.loc.isNone && e.payer.isNone
  | _ => e.loc.isSome

/-- A location of an image record is in range. -/
def locInRange : Option Loc → Bool
  | none => true
  | some l => decide (l.bay ≤ 3) && decide (l.block < Config.blockCount)

/-- The checks of an entry's image record (R191 step 2). -/
def chunkImageChecks (s : State) (e : ImageEntry) : List (Bool × Status) :=
  let p := e.content
  let x := imageChunk p
  [(decide (Config.chunkCount ≤ e.number), .badField),
   ((ChunkState.ofCode (byteAt p 0)).isNone, .badField),
   (decide (x.refcount = 0), .badField),
   (decide (x.length < 1) || decide (131072 < x.length), .badField),
   (!locInRange x.loc, .badField),
   (decide (1 < byteAt p 16) || (decide (byteAt p 16 = 1) && decide (15 < byteAt p 17)), .badField),
   (!x.stateAgrees, .badField),
   (decide (bucketOf x.digest ≠ e.number / Config.ways), .badField),
   ((s.findDigest x.digest).isSome, .badField)]

/-- Section 5 (Table 12.3). -/
def applyChunk (e : ImageEntry) (s : State) : Applied :=
  Applied.when (chunkImageChecks s e) (s.setChunk e.number (imageChunk e.content)) 0

/-- The grant of an image record, if its fields are in range (Table 7.6, bytes 0 to 15). -/
def imageGrant (p : List Byte) : Option Grant :=
  match Grantee.ofCode (byteAt p 2), Target.ofCode (byteAt p 3) (field p 4 2), Mode.ofCode (byteAt p 6) with
  | some who, some on, some mode =>
    if byteAt p 1 ≠ 1 ∨ 1439 < field p 7 2 ∨ 1439 < field p 9 2 ∨ 1 < byteAt p 11 then none
    else
      some { live := true, grantee := who, target := on, mode := mode, windowStart := field p 7 2,
             windowEnd := field p 9 2, expiry := optionField p 11 4 }
  | _, _, _ => none

/-- The target of an imported grant (R191 steps 3 and 4). An ALBUM target that names a SNAPSHOT is STATE, as an album that
is not OPEN is (DEDUCED, assumption 14). -/
def importTargetChecks (s : State) : Target → List (Bool × Status)
  | .album n =>
    let c := s.coll n
    [(decide (c.state = .free), .noSuch), (decide (c.kind = .snapshot) || decide (c.state ≠ .open), .state)]
  | .allOf n => [(!(s.client n).active, .noSuch)]

/-- Section 6 (Table 12.3). R191 names no check of the grant number that the content repeats (Table 7.6, byte 0): another
number than the image record's is BAD_FIELD (DESIGN CHOICE, assumption 14). -/
def applyGrant (e : ImageEntry) (s : State) : Applied :=
  match imageGrant e.content with
  | none => .refused .badField
  | some g =>
    Applied.when
      ([(decide (Config.grantCount ≤ e.number), .badField), (decide (byteAt e.content 0 ≠ e.number), .badField),
        (s.granteeMissing g.grantee, .noSuch)]
        ++ importTargetChecks s g.target ++ [((s.grantOf g.grantee g.target).isSome, .state)])
      (s.setGrant e.number g) 0

/-- The order of an image record, if its fields are in range (Table 12.3). -/
def imageOrder (p : List Byte) : Option Order :=
  match byteAt p 0 with
  | 1 => if field p 1 4 < Config.collectionCount then some (.coll (field p 1 4)) else none
  | 2 => if field p 1 4 < Config.objectCount then some (.object (field p 1 4)) else none
  | _ => none

/-- The record an order names is FREE (R191 step 3). -/
def State.orderMissing (s : State) : Order → Bool
  | .coll n => decide ((s.coll n).state = .free)
  | .object n => decide ((s.object n).state = .free)

/-- The record an order names is RETIRING (R191 step 4). -/
def State.orderRetiring (s : State) : Order → Bool
  | .coll n => decide ((s.coll n).state = .retiring)
  | .object n => decide ((s.object n).state = .retiring)

/-- Section 7 (Table 12.3). -/
def applyOrder (e : ImageEntry) (s : State) : Applied :=
  match imageOrder e.content with
  | none => .refused .badField
  | some o =>
    Applied.when
      [(s.orderMissing o, .noSuch), (!s.orderRetiring o, .state), (decide (o ∈ s.rtu.orders), .state)]
      { s with rtu.orders := s.rtu.orders ++ [o] } 0

/-- The extent of an image record (Table 6.2). -/
def imageExtent (p : List Byte) : Extent := { bay := byteAt p 0, block := field p 1 6, length := field p 7 3 }

/-- An extent's fields are in range. -/
def Extent.inRange (x : Extent) : Bool := extentInRange x.bay x.block x.length

/-- Section 8 (Table 12.3). -/
def applyRelease (e : ImageEntry) (s : State) : Applied :=
  let x := imageExtent e.content
  Applied.when
    [(!x.inRange, .badField), (decide (Config.releaseMax ≤ s.rtu.release.length), .full)]
    { s with rtu.release := s.rtu.release ++ [x] } 0

/-- A tag does not decrease along the deferred list, in the wrapped order of R122 (R191 step 2). -/
def Rtu.tagFollows (r : Rtu) (tag : Epoch) : Bool :=
  match r.deferred.getLast? with
  | none => true
  | some d => atOrBefore d.tag tag

/-- Section 9 (Table 12.3). -/
def applyDeferred (e : ImageEntry) (s : State) : Applied :=
  let x := imageExtent e.content
  let tag : Epoch := BitVec.ofNat 32 (field e.content 12 4)
  Applied.when
    [(!x.inRange, .badField), (!s.rtu.tagFollows tag, .badField),
     (decide (Config.deferredMax ≤ s.rtu.deferred.length), .full)]
    { s with rtu.deferred := s.rtu.deferred ++ [{ extent := x, tag := tag }] } 0

/-- Section 10: the trailer's nine counts. -/
def applyTrailer (e : ImageEntry) (s : State) : Applied :=
  Applied.when [(decide (e.number ≠ 0), .badField)] { s with tiu.cursor.trailer := some (fieldsOf e.content 0 9) } 0

/-- The checks 2 to 5 and the writing of an image record that is in order, by its section (R191). -/
def applyRecord (e : ImageEntry) (s : State) : Applied :=
  match e.code, decide (e.part = 0) with
  | 1, _ => applySettings e s
  | 2, true => applyClient e s
  | 2, false => applyClientPart e s
  | 3, true => applyColl e s
  | 3, false => applyMembers e s
  | 4, true => applyObject e s
  | 4, false => applyRefs e s
  | 5, _ => applyChunk e s
  | 6, _ => applyGrant e s
  | 7, _ => applyOrder e s
  | 8, _ => applyRelease e s
  | 9, _ => applyDeferred e s
  | 10, _ => applyTrailer e s
  | _, _ => .refused .badField

/-- The cursor behind an image record that was written; `want` and `head` say what of its record is still to come. -/
def Tiu.after (t : Tiu) (e : ImageEntry) (want : Nat) (head : Option (Nat × List Byte)) : Tiu :=
  { t with
    section_ := e.code, moved := t.moved + 1,
    cursor := { t.cursor with
      number := e.number, part := e.part, want := want, filterHead := head,
      applied := t.cursor.applied.modify (e.code - 1) (· + 1) } }

/-- One IMAGE_PUT entry (R191): NOT_LOADED after a failure; the first failing check ends the import. -/
def putEntry (bytes : List Byte) (s : State) : Status × State :=
  let e := ImageEntry.ofBytes bytes
  if s.tiu.load ≠ .loading then (.notLoaded, s)
  else if !s.tiu.inOrder e then (.state, failImport s)
  else match applyRecord e s with
    | .refused st => (st, failImport s)
    | .written s' want head => (.ok, { s' with tiu := s'.tiu.after e want head })

/-- The entries of an IMAGE_PUT, each whole before the next (R191). -/
def putEntries : List (List Byte) → List Status → State → List Status × State
  | [], sts, s => (sts, s)
  | e :: es, sts, s =>
    let t := putEntry e s
    putEntries es (sts ++ [t.1]) t.2

/-- The checks of IMAGE_PUT as a whole (R191). -/
def imagePutChecks (s : State) (r : Request) : List (Bool × Status) :=
  [(decide (s.tiu.load = .unloaded) || decide (s.tiu.load = .loadFailed), .notLoaded),
   (decide (r.auxNat ≠ 0), .badField),
   (decide (s.tiu.load = .loaded), .state)]

/-- A bad entry check or a break ends the import (R191). -/
def failUnless (whole : Bool) (s : State) : State := if whole then s else failImport s

/-- IMAGE_PUT is taken (R191). -/
def imagePutTaken (r : Request) (s : State) : State :=
  let t := putEntries r.entries [] s
  answerBatch r t.1 (failUnless r.whole t.2)

/-- IMAGE_PUT (R191). -/
def execImagePut (s : State) : Host.Outcome State Fault Refusal :=
  take .imagePut anyForm (fun r s => guarded (imagePutChecks s r) r (imagePutTaken r) s) s

/-! ### IMAGE_END -/

/-- INDEXED references of a recipe to handle `h`. -/
def refsTo (h : Nat) (recipe : List Ref) : Nat := recipe.countP fun x => decide (x = .indexed h)

/-- INDEXED references to handle `h` in the recipes of objects that are not FREE. -/
def State.refsTo (s : State) (h : Nat) : Nat := (s.oct.objects.map fun x => Sys2Proof.Machine.refsTo h x.2.recipe).sum

/-- An INDEXED reference that names an EMPTY entry. -/
def State.dangling (s : State) : Ref → Bool
  | .indexed h => decide ((s.chunk h).state = .empty)
  | .priv _ _ _ _ => false

/-- Check 2 of R192: the first record found failing. -/
def State.failedRefs (s : State) : Option Nat :=
  ((s.oct.objects.find? fun x => x.2.recipe.any s.dangling).map (·.1)).or
    ((s.chunks.find? fun x =>
      decide (x.2.refcount ≠ Config.pinned) && decide (x.2.refcount ≠ s.refsTo x.1)).map (·.1))

/-- Member lists that contain object `n`. -/
def State.listsOf (s : State) (n : Nat) : Nat := s.oct.colls.countP fun x => decide (n ∈ x.2.members)

/-- Check 3 of R192: the first record found failing. -/
def State.failedMembers (s : State) : Option Nat :=
  ((s.oct.colls.find? fun x => x.2.members.any fun m => decide ((s.object m).state = .free)).map (·.1)).or
    ((s.oct.objects.find? fun x => decide (x.2.holders ≠ s.listsOf x.1)).map (·.1))

/-- Check 4 of R192: the first record found failing. -/
def State.failedOrders (s : State) : Option Nat :=
  ((s.oct.colls.find? fun x => decide (x.2.state = .retiring) && decide (.coll x.1 ∉ s.rtu.orders)).map (·.1)).or
    ((s.oct.objects.find? fun x =>
      decide (x.2.state = .retiring) && decide (.object x.1 ∉ s.rtu.orders)).map (·.1))

/-- The extents of live entries and of private references. -/
def State.liveExtents (s : State) : List Extent :=
  (s.chunks.filterMap fun x => x.2.loc.map fun l => l.extent x.2.length) ++
    (s.oct.objects.flatMap fun x => x.2.recipe.filterMap fun ref =>
      match ref with
      | .priv (some l) n _ _ => some (l.extent n)
      | _ => none)

/-- Check 5 of R192: the place in its list of the first extent found failing, the release list first. -/
def State.failedExtents (s : State) : Option Nat :=
  let live := s.liveExtents
  (s.rtu.release.findIdx? fun x => live.any x.overlaps).or
    (s.rtu.deferred.findIdx? fun x => live.any x.extent.overlaps)

/-- The first failed check of IMAGE_END with the bytes of the record number it names (R192); check 1 names a trailer or
count, and the manual states no number for it (assumption 3). -/
def State.failedCheck (s : State) : Option (Nat × List Byte) :=
  if s.tiu.cursor.trailer ≠ some s.tiu.cursor.applied then some (1, s.freeBytes 4)
  else match s.failedRefs with
    | some n => some (2, le 4 n)
    | none => match s.failedMembers with
      | some n => some (3, le 4 n)
      | none => match s.failedOrders with
        | some n => some (4, le 4 n)
        | none => s.failedExtents.map fun n => (5, le 4 n)

/-- The epoch counter after an import that left deferred extents: the tag of the newest (R142). -/
def setImportEpoch (s : State) : State :=
  match s.rtu.deferred.getLast? with
  | some d => { s with rpb.epoch := d.tag }
  | none => s

/-- A successful IMAGE_END (R192, R125, R142, R176). -/
def finishImport (s : State) : State :=
  let s := latch .imageDone { s with tiu.load := .loaded }
  evaluateDue allClients (takeIfIdle (setImportEpoch (makeDeferredCheck s)))

/-- IMAGE_END in LOADING (R192). -/
def imageEndTaken (r : Request) (s : State) : State :=
  match s.failedCheck with
  | none => answer r .ok [] (finishImport s)
  | some (k, number) =>
    let s := failImport s
    answer r .state (s.tiu.record number k) (s.spend 4)

/-- The checks of IMAGE_END (R192). -/
def imageEndChecks (s : State) (r : Request) : List (Bool × Status) :=
  [(!r.hasLength 0, .badField), (decide (s.tiu.load ≠ .loading), .state)]

/-- IMAGE_END (R192). -/
def execImageEnd (s : State) : Host.Outcome State Fault Refusal :=
  take .imageEnd anyForm (fun r s => guarded (imageEndChecks s r) r (imageEndTaken r) s) s

end Sys2Proof.Machine
end

