-- ==== Sys2Proof/Machine/Dispatch.lean ====
section
/-! DEFINITION. The dispatch of commands: one arm for each constructor of Instr, in the order of spec/opcode_table.json. -/

namespace Sys2Proof.Machine

/-- A command's effect on everything but the queue of waiting commands. -/
def exec (i : Instr) (s : State) : Host.Outcome State Fault Refusal :=
  match i with
  | .powerOnReset sense => Sys2Proof.Machine.execPowerOnReset sense s
  | .headerReceived header underHold => Sys2Proof.Machine.execHeaderReceived header underHold s
  | .packetComplete payload check => Sys2Proof.Machine.execPacketComplete payload check s
  | .packetBreak => Sys2Proof.Machine.execPacketBreak s
  | .batchComplete payload => Sys2Proof.Machine.execBatchComplete payload s
  | .batchBreak received => Sys2Proof.Machine.execBatchBreak received s
  | .transmitPacket => Sys2Proof.Machine.execTransmitPacket s
  | .packetSendEnd => Sys2Proof.Machine.execPacketSendEnd s
  | .trainingStart => Sys2Proof.Machine.execTrainingStart s
  | .trainingComplete => Sys2Proof.Machine.execTrainingComplete s
  | .trainingLost => Sys2Proof.Machine.execTrainingLost s
  | .hostIdle => Sys2Proof.Machine.execHostIdle s
  | .hostWake => Sys2Proof.Machine.execHostWake s
  | .sleepAck => Sys2Proof.Machine.execSleepAck s
  | .hostReset => Sys2Proof.Machine.execHostReset s
  | .linkStatus => Sys2Proof.Machine.execLinkStatus s
  | .linkStatusClearCounts => Sys2Proof.Machine.execLinkStatusClearCounts s
  | .noticeRead => Sys2Proof.Machine.execNoticeRead s
  | .noticeClear => Sys2Proof.Machine.execNoticeClear s
  | .noticeMask => Sys2Proof.Machine.execNoticeMask s
  | .settingsRead => Sys2Proof.Machine.execSettingsRead s
  | .settingsWrite => Sys2Proof.Machine.execSettingsWrite s
  | .secondEvent sense => Sys2Proof.Machine.execSecondEvent sense s
  | .clockSet => Sys2Proof.Machine.execClockSet s
  | .clockRead => Sys2Proof.Machine.execClockRead s
  | .clientSet => Sys2Proof.Machine.execClientSet s
  | .clientRead => Sys2Proof.Machine.execClientRead s
  | .clientRetire => Sys2Proof.Machine.execClientRetire s
  | .scheduleSet => Sys2Proof.Machine.execScheduleSet s
  | .streamOpen => Sys2Proof.Machine.execStreamOpen s
  | .streamData => Sys2Proof.Machine.execStreamData s
  | .streamCommit => Sys2Proof.Machine.execStreamCommit s
  | .streamFinish => Sys2Proof.Machine.execStreamFinish s
  | .streamCompletion stream => Sys2Proof.Machine.execStreamCompletion stream s
  | .streamAbort => Sys2Proof.Machine.execStreamAbort s
  | .streamRead => Sys2Proof.Machine.execStreamRead s
  | .chunkRead => Sys2Proof.Machine.execChunkRead s
  | .collectionOpen => Sys2Proof.Machine.execCollectionOpen s
  | .collectionClose => Sys2Proof.Machine.execCollectionClose s
  | .memberAdd => Sys2Proof.Machine.execMemberAdd s
  | .memberRemove => Sys2Proof.Machine.execMemberRemove s
  | .collectionRead => Sys2Proof.Machine.execCollectionRead s
  | .membersFetch => Sys2Proof.Machine.execMembersFetch s
  | .objectRead => Sys2Proof.Machine.execObjectRead s
  | .retireCollection => Sys2Proof.Machine.execRetireCollection s
  | .walkOrderTake => Sys2Proof.Machine.execWalkOrderTake s
  | .memberRemoval => Sys2Proof.Machine.execMemberRemoval s
  | .referenceRemoval => Sys2Proof.Machine.execReferenceRemoval s
  | .objectFree => Sys2Proof.Machine.execObjectFree s
  | .collectionFree => Sys2Proof.Machine.execCollectionFree s
  | .releaseTake => Sys2Proof.Machine.execReleaseTake s
  | .releaseTakeLastBatch => Sys2Proof.Machine.execReleaseTakeLastBatch s
  | .deferredCheck => Sys2Proof.Machine.execDeferredCheck s
  | .walkStatus => Sys2Proof.Machine.execWalkStatus s
  | .grantSet => Sys2Proof.Machine.execGrantSet s
  | .grantClear => Sys2Proof.Machine.execGrantClear s
  | .grantRead => Sys2Proof.Machine.execGrantRead s
  | .grantReadDecision => Sys2Proof.Machine.execGrantReadDecision s
  | .planOpen => Sys2Proof.Machine.execPlanOpen s
  | .scanStep plan => Sys2Proof.Machine.execScanStep plan s
  | .planFetch => Sys2Proof.Machine.execPlanFetch s
  | .planCheck => Sys2Proof.Machine.execPlanCheck s
  | .planDone => Sys2Proof.Machine.execPlanDone s
  | .bayHold => Sys2Proof.Machine.execBayHold s
  | .bayRelease => Sys2Proof.Machine.execBayRelease s
  | .bayStatus => Sys2Proof.Machine.execBayStatus s
  | .spinUpStart => Sys2Proof.Machine.execSpinUpStart s
  | .spinUpExpiry bay => Sys2Proof.Machine.execSpinUpExpiry bay s
  | .idleTimerExpiry bay => Sys2Proof.Machine.execIdleTimerExpiry bay s
  | .spinDownExpiry bay => Sys2Proof.Machine.execSpinDownExpiry bay s
  | .presenceLoss bay => Sys2Proof.Machine.execPresenceLoss bay s
  | .presenceArrival bay => Sys2Proof.Machine.execPresenceArrival bay s
  | .standbyEnter => Sys2Proof.Machine.execStandbyEnter s
  | .standbyEntryComplete => Sys2Proof.Machine.execStandbyEntryComplete s
  | .handshakeTimerExpiry => Sys2Proof.Machine.execHandshakeTimerExpiry s
  | .returnPrior => Sys2Proof.Machine.execReturnPrior s
  | .powerStatus => Sys2Proof.Machine.execPowerStatus s
  | .wakeTimerExpiry => Sys2Proof.Machine.execWakeTimerExpiry s
  | .pauseTimerExpiry => Sys2Proof.Machine.execPauseTimerExpiry s
  | .buttonPress => Sys2Proof.Machine.execButtonPress s
  | .frameReceived frame good => Sys2Proof.Machine.execFrameReceived frame good s
  | .frameOut => Sys2Proof.Machine.execFrameOut s
  | .frameTransmitStart => Sys2Proof.Machine.execFrameTransmitStart s
  | .frameTransmitEnd => Sys2Proof.Machine.execFrameTransmitEnd s
  | .filterSet => Sys2Proof.Machine.execFilterSet s
  | .filterRead => Sys2Proof.Machine.execFilterRead s
  | .templateSet => Sys2Proof.Machine.execTemplateSet s
  | .templateRead => Sys2Proof.Machine.execTemplateRead s
  | .tablesInit => Sys2Proof.Machine.execTablesInit s
  | .imageExport => Sys2Proof.Machine.execImageExport s
  | .imageNext => Sys2Proof.Machine.execImageNext s
  | .imageNextAgain => Sys2Proof.Machine.execImageNextAgain s
  | .imageCancel => Sys2Proof.Machine.execImageCancel s
  | .imageImport => Sys2Proof.Machine.execImageImport s
  | .imagePut => Sys2Proof.Machine.execImagePut s
  | .imageEnd => Sys2Proof.Machine.execImageEnd s
  | .receiveLineQuiet => Sys2Proof.Machine.execReceiveLineQuiet s

end Sys2Proof.Machine
end

