-- ==== Sys2Proof/Safety.lean ====
section
/-!
DEFINITION. The words in which the statements are put: when a request can be taken, what a step ends in, which check
fails first, and what every step keeps of the bays, of standby, of the network side, of the record arrays and of the sizes.
-/

namespace Sys2Proof.Machine

/-! ### Taking a request, and what a step ends in -/

/-- Request `r` of kind `k` is the oldest that waits for its owning block (R11). -/
abbrev Offered (s : State) (k : Kind) (r : Request) : Prop := s.slc.offered k.owner = some r ∧ r.kind = k

/-- Requests that read records run (R187). -/
abbrev Readable (s : State) : Prop := s.tiu.load = .loaded

/-- Requests that change records run: LOADED, outside an export (R187, R189). -/
abbrev Changeable (s : State) : Prop := s.tiu.load = .loaded ∧ s.tiu.exporting = false

/-- Command `i` at `s` completes, and its own change of the state makes `t`; what the SLC does at the end of every step
(R7, R17) is `settle`. -/
abbrev Ends (i : Instr) (s t : State) : Prop := exec i s = .next (settle s.quiet t)

/-- Command `i` answers request `r` with a status and a result record, over the change of the state that makes `t`. -/
abbrev Answers (i : Instr) (s : State) (r : Request) (st : Status) (rec : List Byte) (t : State) : Prop :=
  Ends i s (answer r st rec t)

/-- Command `i` is taken in state `s` for request `r` and refused with status `st`, with no effect but the answer. -/
abbrev Refused (i : Instr) (s : State) (r : Request) (st : Status) : Prop := Ends i s (refuse r st s.quiet)

/-! ### Checks in order -/

/-- Request `r` at command `i` is refused with the status of the first condition that holds, with no effect but the answer;
where none holds nothing is said. -/
def RefusedFirst (i : Instr) (s : State) (r : Request) : List (Prop × Status) → Prop
  | [] => True
  | (fails, st) :: rest => (fails → Refused i s r st) ∧ (¬ fails → RefusedFirst i s r rest)

/-- Position `k` of list `l` holds `x`, the first entry of the list that is bad. -/
abbrev FirstAt {α : Type} (l : List α) (bad : α → Prop) (k : Nat) (x : α) : Prop :=
  ∃ before after, l = before ++ x :: after ∧ before.length = k ∧ bad x ∧ ∀ y ∈ before, ¬ bad y

/-- `result` is the refusal with the status of the first condition that holds, and `written` when none does. -/
def FirstFails (result written : Applied) : List (Prop × Status) → Prop
  | [] => result = written
  | (fails, st) :: rest => (fails → result = .refused st) ∧ (¬ fails → FirstFails result written rest)

/-! ### Retire orders (R111, R112, R116) -/

/-- `t` is `s` after the order of object `n` joins the retire order list: an IDLE walk, in LOADED outside an export, takes
the oldest walkable order at once, this one when no plan holds the object and no order before it is walkable; in every other
case the order waits. -/
abbrev ObjectOrderJoins (s : State) (n : Nat) (t : State) : Prop :=
  let walks (o : Order) : Bool := match o with | .coll _ => true | .object m => decide ((s.object m).planHolds = 0)
  let orders := s.rtu.orders ++ [.object n]
  let waits : State := { s with rtu := { s.rtu with orders := orders } }
  let takes (o : Order) : State :=
    { s with rtu := { s.rtu with orders := orders, current := some o, nested := none, walk := .walking } }
  (s.rtu.walk ≠ .idle ∨ s.tiu.load ≠ .loaded ∨ s.tiu.exporting = true → t = waits)
    ∧ (s.rtu.walk = .idle → s.tiu.load = .loaded → s.tiu.exporting = false →
        (∀ o, s.rtu.orders.find? walks = some o → t = takes o)
          ∧ ((∀ o ∈ s.rtu.orders, walks o = false) →
            ((s.object n).planHolds = 0 → t = takes (.object n)) ∧ ((s.object n).planHolds ≠ 0 → t = waits)))

/-! ### Bays (chapter 9) -/

/-- The timer of a bay agrees with its state (Table 9.2, Table 9.3). -/
def Bay.timerAgrees (x : Bay) : Bool :=
  match x.state, x.timer with
  | .spinningUp, some (.spinUp, _) => true
  | .spinningDown, some (.spinDown, _) => true
  | .ready, none => true
  | .ready, some (.idle, _) => decide (x.holdCount = 0)
  | .empty, none => true
  | .off, none => true
  | .queued, none => true
  | _, _ => false

/-- The holds of a bay agree with its state (Table 9.2, R156, R157). -/
def Bay.holdsAgree (x : Bay) : Bool :=
  match x.state with
  | .empty => decide (x.holdCount = 0)
  | .off => decide (x.holdCount = 0)
  | .queued => decide (0 < x.holdCount)
  | _ => true

/-- One bay record is sound: presence, timer, holds, and the respin flag of a held bay that spins down. -/
abbrev Bay.Sound (x : Bay) : Prop :=
  (x.present = true ↔ x.state ≠ .empty) ∧ x.timerAgrees = true ∧ x.holdsAgree = true
    ∧ (x.respin = true ↔ x.state = .spinningDown ∧ 0 < x.holdCount) ∧ x.differ ≤ 2

/-- The Bay Power Controller is sound: each bay is, the queue lists the QUEUED bays once each, and the total draw keeps
to the budget (R159, R160). -/
abbrev Bpc.Sound (budget : Nat) (b : Bpc) : Prop :=
  (∀ i < 4, (b.bay i).Sound) ∧ b.queue.Nodup ∧ (∀ i ∈ b.queue, i < 4)
    ∧ (∀ i < 4, i ∈ b.queue ↔ (b.bay i).state = .queued) ∧ b.totalDraw ≤ budget

/-- The bays of the part are sound under the budget of its settings. -/
abbrev State.BaysSound (s : State) : Prop := s.bpc.Sound s.slc.settings.budget

/-! ### Standby (chapter 10) -/

/-- In STANDBY_ENTRY and STANDBY no stream is open, no plan is open and no manual hold stands (R170); in STANDBY every
bay is OFF or EMPTY and the link is DOWN (R171). A FREE plan slot holds nothing (Table 8.1). -/
abbrev State.StandbySound (s : State) : Prop :=
  (∀ p < 16, (s.plan p).state = .free → s.plan p = Plan.free)
    ∧ (s.bxp.power = .standbyEntry ∨ s.bxp.power = .standby →
        (∀ i < 8, (s.stream i).state = .closed) ∧ (∀ p < 16, (s.plan p).state = .free)
          ∧ ∀ i < 4, (s.bay i).manual = false)
    ∧ (s.bxp.power = .standby → s.bpc.allStopped = true ∧ s.slc.link = .down)

/-! ### The network side and the line (chapters 1, 10, 11) -/

/-- Frames that a hold of each status keeps (R183). -/
def HoldStatus.frames : HoldStatus → Nat
  | .empty => 0 | .one => 1 | .two => 2 | .lost => 2

/-- The NWU passes in RUN and watches in every other power state; watching, it queues nothing to the host; passing, no
frame is held; the sizes of the queues; a link that is IDLE has nothing to send; without host power the link is DOWN. -/
abbrev State.NetworkSound (s : State) : Prop :=
  (s.nwu.mode = .pass ↔ s.bxp.power = .run) ∧ (s.nwu.mode = .watch → s.nwu.receive = [])
    ∧ (∀ c < 16, (s.client c).held.length = (s.client c).holdStatus.frames)
    ∧ (s.nwu.mode = .pass → ∀ c < 16, (s.client c).holdStatus = .empty)
    ∧ s.nwu.receive.length ≤ Config.receiveMax ∧ s.nwu.transmit.length ≤ Config.transmitMax
    ∧ (s.nwu.onWire.isSome = true → s.nwu.transmit ≠ [])
    ∧ (s.slc.link = .idle → s.slc.outgoing = [] ∧ s.nwu.receive = [])
    ∧ (s.bxp.hostPowered = false → s.slc.link = .down)

/-! ### Record arrays and sizes -/

/-- The four large record arrays are in canonical form: numbers strictly rising, no unused record listed. -/
abbrev State.TablesSound (s : State) : Prop :=
  (Table.sorted s.chunks = true ∧ ∀ p ∈ s.chunks, p.2 ≠ Chunk.empty)
    ∧ (Table.sorted s.oct.objects = true ∧ ∀ p ∈ s.oct.objects, p.2 ≠ Obj.free)
    ∧ (Table.sorted s.oct.colls = true ∧ ∀ p ∈ s.oct.colls, p.2 ≠ Coll.free)
    ∧ (Table.sorted s.grants = true ∧ ∀ p ∈ s.grants, p.2 ≠ Grant.free)

/-- No two LIVE grants have the same grantee and target (R129). -/
abbrev State.GrantsSound (s : State) : Prop :=
  ∀ p ∈ s.grants, ∀ q ∈ s.grants, p.2.live = true → q.2.live = true → p.2.grantee = q.2.grantee →
    p.2.target = q.2.target → p = q

/-- A client's charge keeps to its quota (R33, R34). -/
def Client.chargeKept (c : Client) : Bool :=
  match c.quota with
  | none => true
  | some q => decide (c.charged ≤ q * Config.mib)

/-- The sizes the manual fixes: the input buffer (R5), the release list (R117), box time (R22), charges (R34). -/
abbrev State.SizesSound (s : State) : Prop :=
  s.slc.places.length ≤ Config.inputPlaces ∧ (s.slc.places.map Place.slot).Nodup
    ∧ s.rtu.release.length ≤ Config.releaseMax ∧ s.bck.boxTime ≤ Config.maxTime
    ∧ ∀ c < 16, (s.client c).chargeKept = true

end Sys2Proof.Machine
end

