-- ==== Sys2Proof/Certificates/Slice0/Obligations.lean ====
section
/-!
DEFINITION. The statements put to the provers. `Ends`, `Answers` and `Refused` (Safety.lean) say that a command completes
and give the state it makes before the end of the step; what the end of a step adds at the link is said once, by
`EndOfStepAtTheLink`. Every value of the counter `free` is covered: no statement rests on a free byte.
-/

open Sys2Proof Sys2Proof.Machine

/-! ### The step -/

/-- The step takes the command at the front of the queue; with none waiting the block idles (assumption 5). -/
def Obligations.StepTakesTheFrontCommand : Prop :=
  (∀ (s : State) (c : Instr) (rest : List Instr), s.pending = c :: rest → step s = exec c { s with pending := rest })
    ∧ ∀ s : State, s.pending = [] → step s = .next s

/-- Every command answers a next state in every state, and leaves the queue of commands to the step.
A command whose event cannot come about leaves the state as it is (assumption 1). -/
def Obligations.EveryCommandCompletesAndKeepsTheQueue : Prop :=
  ∀ (c : Instr) (s : State), ∃ t, exec c s = .next t ∧ t.pending = s.pending

/-- R7 and R17: what the end of a step adds at the link.
That the pending enabled set is compared once, around the whole step, is the model's reading (assumption 19); that a partly
sent ATTENTION no longer waits in the queue is its choice (assumption 11). -/
def Obligations.EndOfStepAtTheLink : Prop :=
  ∀ before after : State,
    let rise := before.pendingEnabled = 0#11 ∧ after.pendingEnabled ≠ 0#11
    let toSend := after.slc.outgoing ≠ [] ∨ after.nwu.receive ≠ []
    let attended := if .attention ∈ after.slc.outgoing then after.slc.outgoing else after.slc.outgoing ++ [.attention]
    let t := settle before after
    (rise → after.slc.link = .active → t = { after with slc.outgoing := attended })
      ∧ (rise → after.slc.link = .idle →
          t = { after with slc := { after.slc with link := .active, outgoing := attended, wakeOut := true, owed := false } })
      ∧ (rise → after.slc.link ≠ .active → after.slc.link ≠ .idle → t = { after with slc.owed := true })
      ∧ (¬ rise → after.slc.link = .idle → toSend →
          t = { after with
            slc := { after.slc with
              link := .active
              outgoing := if after.pendingEnabled ≠ 0#11 ∧ after.slc.owed = true then attended else after.slc.outgoing
              wakeOut := true
              owed := false } })
      ∧ (¬ rise → after.slc.link ≠ .idle ∨ ¬ toSend → t = after)

/-- R167 and the reset values of every chapter: what POWER_ON_RESET leaves, whatever stood before.
That the waiting commands stay is the model's choice (assumption 2); so are the receiver, the packet being sent, the frame on
the wire and the WAKE signal after reset (assumption 16). -/
def Obligations.PowerOnResetLeavesTheResetValues : Prop :=
  ∀ (sense : Vector Bool 4) (s : State), ∃ t, exec (.powerOnReset sense) s = .next t
    ∧ t.slc.link = .down ∧ t.slc.startCause = .powerUp ∧ t.slc.acked = false ∧ t.slc.places = [] ∧ t.slc.outgoing = []
    ∧ t.slc.linkErrors = 0 ∧ t.slc.breaks = 0 ∧ t.slc.latched = 0#11 ∧ t.slc.enables = BitVec.allOnes 11
    ∧ t.slc.owed = false ∧ t.slc.receiver = .quiet ∧ t.slc.sending = none ∧ t.slc.deferred = Vector.replicate 8 none
    ∧ t.slc.sleepReq = false ∧ t.slc.wakeOut = false
    ∧ t.slc.settings = { zone := 0, lmin := 8192, ltgt := 32768, lmax := 131072, budget := 12, spinUp := 12, idle := 900,
                         spinDown := 3 }
    ∧ t.bck.boxTime = 0 ∧ t.bck.clockSet = false
    ∧ (∀ c < 16, t.client c = Client.free 0) ∧ (∀ i < 8, t.stream i = Stream.closed)
    ∧ t.chunks = [] ∧ t.oct.objects = [] ∧ t.oct.colls = [] ∧ t.oct.freePages = 4194304
    ∧ t.rtu = Rtu.empty ∧ t.grants = [] ∧ (∀ p < 16, t.plan p = Plan.free) ∧ t.rpb.epoch = 0
    ∧ (∀ i < 4, (t.bay i).state = (if slot false sense i then .off else .empty) ∧ (t.bay i).holdCount = 0
        ∧ (t.bay i).timer = none ∧ (t.bay i).respin = false)
    ∧ t.bpc.queue = [] ∧ t.bpc.force = false
    ∧ t.bxp.power = .waking ∧ t.bxp.phase = .powered ∧ t.bxp.returnStandby = false ∧ t.bxp.sleepAcked = false
    ∧ t.bxp.cause = .powerOn ∧ t.bxp.failures = 0 ∧ t.bxp.timer = some (.wake, 30) ∧ t.bxp.lastFailure = .none ∧ t.bxp.due = 0#16
    ∧ t.nwu.mode = .watch ∧ t.nwu.receive = [] ∧ t.nwu.transmit = [] ∧ t.nwu.onWire = none
    ∧ (∀ k < 4, t.template k = none)
    ∧ t.tiu.load = .unloaded ∧ t.tiu.exporting = false ∧ t.tiu.lastBatch = [] ∧ t.pending = s.pending

/-! ### The receiver and the transmitter -/

/-- R3, R10, R11, R12: where a complete packet goes.
R4, R12, Table 1.5: what a response carries and where it goes: status, kind and result record, the place answered; a
refused batch carries an applied count of 0; that it does with BAD_PACKET, BAD_REQUEST and RESET too is the model's choice
(assumption 10). R11: the request offered to a block is its oldest that waits. Tables 1.2,
1.3, 1.6: the codes of statuses and kinds, the owning blocks, the entry sizes.
Section 10.3: STANDBY_ENTER and RETURN_PRIOR carry the power record with every status, so with those that the SLC gives
too; that each such answer spends a free byte is the model's choice (assumption 3). -/
def Obligations.RoutingOfACompletePacket : Prop :=
  (∀ (s : State) (p : Place) (body : Body),
    let answered (st : Status) (result : List Byte) (n : Nat) : State :=
      { s with
        slc := { s.slc with
          places := s.slc.places.map fun q => if q.slot = p.slot then { q with phase := .answered } else q
          outgoing := s.slc.outgoing ++ [.response (some p.slot) p.tag p.aux (st.code :: p.kind :: result)] }
        free := s.free + n }
    (∀ st,
      (p.kind = 0x78#8 ∨ p.kind = 0x79#8 → answerPlace p st s = answered st s.powerRecord 1)
        ∧ (p.kind ∈ [0x22#8, 0x42#8, 0x43#8, 0x58#8, 0x95#8] → answerPlace p st s = answered st [0#8, 0#8] 0)
        ∧ (p.kind ∉ [0x22#8, 0x42#8, 0x43#8, 0x58#8, 0x78#8, 0x79#8, 0x95#8] →
            answerPlace p st s = answered st [] 0))
      ∧ (Kind.ofCode p.kind = none → route p body s = answerPlace p .badRequest s)
      ∧ (∀ k, Kind.ofCode p.kind = some k → s.slc.acked = false → k ≠ .linkStatus →
          route p body s = answerPlace p .reset s)
      ∧ (∀ k, Kind.ofCode p.kind = some k → s.slc.acked = true ∨ k = .linkStatus →
          route p body s =
            { s with slc.places :=
                s.slc.places.map fun q => if q.slot = p.slot then { q with phase := .waiting body } else q }))
  ∧ (∀ (s : State) (r : Request) (st : Status) (record : List Byte),
    let answered (result : List Byte) : State :=
      { s with slc := { s.slc with
          places := s.slc.places.map fun q => if q.slot = r.slot then { q with phase := .answered } else q
          outgoing := s.slc.outgoing ++ [.response (some r.slot) r.tag r.aux (st.code :: r.kind.code :: result)] } }
    let batch : Prop := r.kind ∈ [Kind.streamCommit, .memberAdd, .memberRemove, .grantSet, .imagePut]
    answer r st record s = answered record
      ∧ (batch → refuse r st s = answered [0#8, 0#8]) ∧ (¬ batch → refuse r st s = answered []))
  ∧ (∀ (s : State) (b : Block) (r : Request),
    s.slc.offered b = some r ↔
      ∃ before p after, s.slc.places = before ++ p :: after
        ∧ p.phase = .waiting r.body ∧ Kind.ofCode p.kind = some r.kind ∧ r.kind.owner = b
        ∧ p.slot = r.slot ∧ p.tag = r.tag ∧ p.aux = r.aux
        ∧ ∀ q ∈ before, ∀ body k, q.phase = .waiting body → Kind.ofCode q.kind = some k → k.owner ≠ b)
  ∧ [Status.ok, .badPacket, .badRequest, .badField, .broken, .reset, .notLoaded, .imageBusy, .noSuch, .state, .full,
      .poolFull, .backlog, .quota, .denied, .retiring, .addressTaken, .ownsRecords, .streamsOpen, .plansOpen, .baysHeld,
      .wakePending, .staysRun, .aborted, .writeFailed, .bayLost, .tooLong, .stale, .already, .halted].map Status.code
    = (List.range 30).map (BitVec.ofNat 8)
  ∧ (let owns (b : Block) (first : Nat) (kinds : List Kind) : Prop :=
      ∀ x ∈ kinds.zipIdx, x.1.owner = b ∧ x.1.code = BitVec.ofNat 8 (first + x.2)
    owns .slc 0x01 [.linkStatus, .noticeRead, .noticeClear, .noticeMask, .settingsRead, .settingsWrite]
      ∧ owns .bck 0x10 [.clockSet, .clockRead]
      ∧ owns .clt 0x12 [.clientSet, .clientRead, .clientRetire, .scheduleSet]
      ∧ owns .cke 0x20 [.streamOpen, .streamData, .streamCommit, .streamFinish, .streamAbort, .streamRead]
      ∧ owns .cix 0x30 [.chunkRead]
      ∧ owns .oct 0x40 [.collectionOpen, .collectionClose, .memberAdd, .memberRemove, .collectionRead, .membersFetch,
          .objectRead, .retireCollection]
      ∧ owns .rtu 0x50 [.releaseTake, .walkStatus] ∧ owns .grt 0x58 [.grantSet, .grantClear, .grantRead]
      ∧ owns .rpb 0x60 [.planOpen, .planFetch, .planCheck, .planDone]
      ∧ owns .bpc 0x70 [.bayHold, .bayRelease, .bayStatus] ∧ owns .bxp 0x78 [.standbyEnter, .returnPrior, .powerStatus]
      ∧ owns .nwu 0x80 [.frameOut, .filterSet, .templateSet]
      ∧ owns .tiu 0x90 [.tablesInit, .imageExport, .imageNext, .imageCancel, .imageImport, .imagePut, .imageEnd])
  ∧ (∀ (b : Byte) (k : Kind), Kind.ofCode b = some k ↔ k.code = b)
  ∧ ∀ (b : Byte) (size : Nat), entrySizeOf b = some size ↔
      (b = 0x22#8 ∨ b = 0x58#8) ∧ size = 16 ∨ (b = 0x42#8 ∨ b = 0x43#8) ∧ size = 8 ∨ b = 0x95#8 ∧ size = 64

/-- R2: what a header that arrives whole, or is cut by quiet, does while the link is ACTIVE, or IDLE: there it is taken as
though WAKE had preceded it (R7). Bytes in DOWN, TRAINING and SLEEP are ignored; discarded bytes end at quiet.
What is ignored, and that a partly sent ATTENTION no longer waits in the queue, are the model's reading (assumption 11); the
slot number is its own (assumption 12). -/
def Obligations.HeaderReception : Prop :=
  (∀ s : State,
    (∀ h held, s.slc.link = .down ∨ s.slc.link = .training ∨ s.slc.link = .sleep →
        Ends (.headerReceived h held) s s.quiet)
      ∧ (s.slc.receiver = .discarding →
          (∀ h held, Ends (.headerReceived h held) s s.quiet)
            ∧ Ends .receiveLineQuiet s { s.quiet with slc.receiver := .quiet }))
  ∧ ∀ s : State, s.slc.receiver = .quiet → s.slc.link = .active ∨ s.slc.link = .idle →
    let attended := if .attention ∈ s.slc.outgoing then s.slc.outgoing else s.slc.outgoing ++ [.attention]
    let awake : State :=
      if s.slc.link = .active then s.quiet
      else
        { s.quiet with slc := { s.quiet.slc with
          link := .active, owed := false
          outgoing := if s.pendingEnabled ≠ 0#11 ∧ s.slc.owed = true then attended else s.slc.outgoing } }
    let counted := { awake with slc.linkErrors := min 65535 (s.slc.linkErrors + 1) }
    (s.slc.linkErrors ≤ 65535 → ∀ held, Ends (.headerReceived .cut held) s counted)
      ∧ (s.slc.linkErrors ≤ 65535 → ∀ v held, held = true ∨ 8 ≤ s.slc.places.length →
          Ends (.headerReceived (.whole v) held) s { counted with slc.receiver := .discarding })
      ∧ (s.slc.linkErrors ≤ 65535 → ∀ v : Vector Byte 8, s.slc.places.length < 8 →
          field v.toList 6 2 ≠ (crc16 (v.toList.take 6)).toNat →
          Ends (.headerReceived (.whole v) false) s { counted with slc.receiver := .discarding })
      ∧ ∀ (v : Vector Byte 8) (kind tag : Byte) (aux : Half) (len : Nat),
          v.toList = headerBytes kind tag aux len → len < 65536 → s.slc.places.length < 8 →
          ∃ n, (∀ q ∈ s.slc.places, q.slot ≠ n) ∧
            let p : Place := { slot := n, kind := kind, tag := tag, aux := aux, length := len, phase := .receiving }
            let placed := { awake with slc.places := s.slc.places ++ [p] }
            (16384 < len → Ends (.headerReceived (.whole v) false) s
                (answerPlace p .badPacket { placed with slc.receiver := .discarding }))
              ∧ (len = 0 → Ends (.headerReceived (.whole v) false) s (route p (emptyBody kind) placed))
              ∧ (1 ≤ len → len ≤ 16384 → Ends (.headerReceived (.whole v) false) s
                  { placed with slc.receiver := .payload n })

/-- R3: the end of a long packet that is no batch.
That a break acts whatever the link's state is the model's reading (assumption 11). -/
def Obligations.PacketReception : Prop :=
  ∀ (s : State) (n : Nat) (p : Place),
    s.slc.receiver = .payload n → s.slc.place n = some p → entrySizeOf p.kind = none →
    let quiet := { s.quiet with slc.receiver := .quiet }
    (∀ payload check, s.slc.link = .active ∨ s.slc.link = .idle → payload.length = p.length →
        (Kind.ofCode p.kind = none → Ends (.packetComplete payload check) s (answerPlace p .badRequest quiet))
          ∧ ((Kind.ofCode p.kind).isSome → crc16 payload ≠ check →
              Ends (.packetComplete payload check) s (answerPlace p .badPacket quiet))
          ∧ ((Kind.ofCode p.kind).isSome → crc16 payload = check →
              Ends (.packetComplete payload check) s (route p (.plain payload) quiet)))
      ∧ (s.slc.breaks ≤ 65535 →
          Ends .packetBreak s
            { quiet with
              slc.places := s.slc.places.filter fun q => decide (q.slot ≠ p.slot)
              slc.breaks := min 65535 (s.slc.breaks + 1) })

/-- R4: the end of a batch packet: the entries with a good check up to the first that is incomplete or bad.
That a break acts whatever the link's state is the model's reading (assumption 11). -/
def Obligations.BatchReception : Prop :=
  ∀ (s : State) (n size : Nat) (p : Place) (bodies : List (List Byte)) (tail : List Byte),
    s.slc.receiver = .payload n → s.slc.place n = some p → entrySizeOf p.kind = some size →
    (∀ b ∈ bodies, b.length = size - 2) →
    (tail.length < size ∨ field tail (size - 2) 2 ≠ (crc16 (tail.take (size - 2))).toNat) →
    let entries := bodies.map fun b => b ++ checkBytes (crc16 b)
    let bytes := entries.flatten ++ tail
    let quiet := { s.quiet with slc.receiver := .quiet }
    (s.slc.link = .active ∨ s.slc.link = .idle → bytes.length = p.length →
        Ends (.batchComplete bytes) s (route p (.batch entries (decide (tail = []))) quiet))
      ∧ (s.slc.breaks ≤ 65535 → bytes.length < p.length →
          Ends (.batchBreak bytes) s
            (route p (.batch entries false) { quiet with slc.breaks := min 65535 (s.slc.breaks + 1) }))

/-- R5, R14: the transmitter takes the oldest packet, frames of the receive queue last, and the end of a response frees
the place it answers.
R7, R14, R17: in IDLE the part signals WAKE before it sends; the link enters ACTIVE, where the ATTENTION that is owed is
placed and the owed flag cleared. While a packet is being sent none is started.
With nothing to send, or nothing being sent, the command leaves the state as it is (assumption 1). That a packet in
mid-send ends in SLEEP as elsewhere, and that an ATTENTION leaves the queue at its start, is the model's (assumption 11). -/
def Obligations.PacketTransmission : Prop :=
  ∀ s : State,
    (s.slc.sending = none → s.slc.link = .active →
        (∀ p rest, s.slc.outgoing = p :: rest →
            Ends .transmitPacket s { s.quiet with slc := { s.quiet.slc with outgoing := rest, sending := some p } })
          ∧ (∀ f rest, s.slc.outgoing = [] → s.nwu.receive = f :: rest →
              Ends .transmitPacket s
                { s.quiet with slc.sending := some (.frameIn f.lost f.bytes), nwu.receive := rest })
          ∧ (s.slc.outgoing = [] → s.nwu.receive = [] → Ends .transmitPacket s s.quiet))
      ∧ (s.slc.sending = none → s.slc.link = .idle →
        let attended :=
          if .attention ∈ s.slc.outgoing ∨ s.pendingEnabled = 0#11 ∨ s.slc.owed = false then s.slc.outgoing
          else s.slc.outgoing ++ [.attention]
        let awake : Slc := { s.slc with link := .active, owed := false, wakeOut := true, outgoing := attended }
        (∀ p rest, s.slc.outgoing ≠ [] → attended = p :: rest →
            Ends .transmitPacket s { s with slc := { awake with outgoing := rest, sending := some p } })
          ∧ (s.slc.outgoing = [] → s.nwu.receive ≠ [] → attended = [.attention] →
            Ends .transmitPacket s { s with slc := { awake with outgoing := [], sending := some .attention } })
          ∧ (∀ f rest, s.slc.outgoing = [] → s.nwu.receive = f :: rest → attended = [] →
            Ends .transmitPacket s
              { s with slc := { awake with sending := some (.frameIn f.lost f.bytes) }, nwu.receive := rest })
          ∧ (s.slc.outgoing = [] → s.nwu.receive = [] → Ends .transmitPacket s s.quiet))
      ∧ (s.slc.sending ≠ none ∨ s.slc.link = .down ∨ s.slc.link = .training ∨ s.slc.link = .sleep →
          Ends .transmitPacket s s.quiet)
      ∧ (s.slc.sending = none → Ends .packetSendEnd s s.quiet)
      ∧ (∀ n tag aux payload, s.slc.sending = some (.response (some n) tag aux payload) →
          Ends .packetSendEnd s
            { s.quiet with slc := { s.quiet.slc with
                sending := none, places := s.slc.places.filter fun q => decide (q.slot ≠ n) } })
      ∧ (∀ tag aux payload, s.slc.sending = some (.response none tag aux payload) →
          Ends .packetSendEnd s { s.quiet with slc.sending := none })
      ∧ (s.slc.sending = some .attention → Ends .packetSendEnd s { s.quiet with slc.sending := none })
      ∧ ∀ lost frame, s.slc.sending = some (.frameIn lost frame) →
          Ends .packetSendEnd s { s.quiet with slc.sending := none }

/-- Table 1.1, R1, R12, R17, R179: a packet on the line reads back: its header fields by the receiver's own reading, its
payload, and two checks that are good. RESPONSE is F0h, ATTENTION F1h without payload, FRAME_IN F2h with the lost flag as
its aux. -/
def Obligations.PacketBytesReadBack : Prop :=
  (∀ (kind tag : Byte) (aux : Half) (payload : List Byte), payload.length < 65536 →
    let line := longPacket kind tag aux payload
    line.length = payload.length + 10 ∧ line.getD 0 0 = kind ∧ line.getD 1 0 = tag ∧ field line 2 2 = aux.toNat
      ∧ field line 4 2 = payload.length ∧ field line 6 2 = (crc16 (line.take 6)).toNat
      ∧ slice line 8 payload.length = payload ∧ field line (8 + payload.length) 2 = (crc16 payload).toNat)
  ∧ (∀ place tag aux payload, (OutPacket.response place tag aux payload).bytes = longPacket 0xF0#8 tag aux payload)
  ∧ (∀ lost frame,
      (OutPacket.frameIn lost frame).bytes = longPacket 0xF2#8 0#8 (if lost = true then 1#16 else 0#16) frame)
  ∧ let line := OutPacket.attention.bytes
    line.length = 8 ∧ line.take 6 = [0xF1#8, 0#8, 0#8, 0#8, 0#8, 0#8] ∧ field line 6 2 = (crc16 (line.take 6)).toNat

/-! ### Training, the host's signals, link reset -/

/-- R168, R184: entry to RUN: the power timer goes, the NWU passes, and the held frames, clients in ascending number,
join the receive queue; the first frame of a hold in LOST carries the lost flag.
R6, R7, R10, R17: training begins with host power (Table 10.1), completes with an unacknowledged start and an ATTENTION
for what is pending; IDLE and WAKE move the link.
A row whose event cannot come about in the link state leaves it as it is (assumption 1); a partly sent ATTENTION no longer
waits in the queue (assumption 11). -/
def Obligations.TrainingWakeAndEntryToRun : Prop :=
  (∀ s : State,
    let frames (c : Client) : List RxFrame :=
      c.held.zipIdx.map fun x => { lost := decide (x.2 = 0 ∧ c.holdStatus = .lost), bytes := x.1 }
    (enterRun s).bxp = { s.bxp with power := .run, timer := none }
      ∧ (enterRun s).nwu =
          { s.nwu with mode := .pass, receive := s.nwu.receive ++ (List.range 16).flatMap fun c => frames (s.client c) }
      ∧ (∀ c < 16, (enterRun s).client c = { s.client c with holdStatus := .empty, held := [] })
      ∧ enterRun s = { s with bxp := (enterRun s).bxp, nwu := (enterRun s).nwu, clients := (enterRun s).clients })
  ∧ ∀ s : State,
    let attended := if .attention ∈ s.slc.outgoing then s.slc.outgoing else s.slc.outgoing ++ [.attention]
    (s.slc.link = .down → s.bxp.hostPowered = true →
        Ends .trainingStart s { s.quiet with slc := { s.quiet.slc with link := .training, startCause := .powerUp } })
      ∧ (s.slc.link = .training →
          let up := { s.quiet with slc := { s.quiet.slc with
            link := .active, acked := false, owed := false
            outgoing := if s.pendingEnabled ≠ 0#11 then attended else s.slc.outgoing } }
          (s.bxp.power = .waking ∧ s.bxp.phase = .powered → Ends .trainingComplete s (enterRun up))
            ∧ (¬ (s.bxp.power = .waking ∧ s.bxp.phase = .powered) → Ends .trainingComplete s up))
      ∧ (s.bxp.hostPowered = true ↔
          s.bxp.power = .run ∨ s.bxp.power = .standbyEntry ∨ s.bxp.power = .waking ∧ s.bxp.phase = .powered)
      ∧ (s.slc.link ≠ .down ∨ s.bxp.hostPowered = false → Ends .trainingStart s s.quiet)
      ∧ (s.slc.link ≠ .training → Ends .trainingComplete s s.quiet)
      ∧ (s.slc.link ≠ .idle → Ends .hostWake s s.quiet)
      ∧ (s.slc.link = .active → Ends .hostIdle s { s.quiet with slc.link := .idle })
      ∧ (s.slc.link ≠ .active → Ends .hostIdle s s.quiet)
      ∧ (s.slc.link = .idle →
          Ends .hostWake s { s.quiet with slc := { s.quiet.slc with
            link := .active, owed := false
            outgoing := if s.pendingEnabled ≠ 0#11 ∧ s.slc.owed = true then attended else s.slc.outgoing } })

/-- R8, R171: SLEEP_ACK while SLEEP_REQ is signalled: the link sleeps; in STANDBY_ENTRY sleep is acknowledged and the
handshake timer goes, and with every bay stopped the box enters STANDBY and the link goes DOWN. Without SLEEP_REQ, or
in another link state, it has no effect (assumption 1).
That a partly sent ATTENTION becomes owed is the model's reading (assumption 11); that the acknowledged flag keeps its
value in STANDBY is its choice (assumption 21). -/
def Obligations.SleepAcknowledgement : Prop :=
  ∀ s : State,
    let heard : Prop := s.slc.sleepReq = true ∧ (s.slc.link = .active ∨ s.slc.link = .idle)
    (¬ heard → Ends .sleepAck s s.quiet)
      ∧ (heard → s.bxp.power ≠ .standbyEntry → Ends .sleepAck s { s.quiet with slc.link := .sleep })
      ∧ (heard → s.bxp.power = .standbyEntry → s.bpc.allStopped = false →
        Ends .sleepAck s
          { s.quiet with slc.link := .sleep, bxp := { s.bxp with sleepAcked := true, timer := none } })
      ∧ (heard → s.bxp.power = .standbyEntry → s.bpc.allStopped = true →
          Ends .sleepAck s
            { s.quiet with
              slc := { s.quiet.slc with
                link := .down, receiver := .quiet, places := [], outgoing := [], sending := none
                deferred := Vector.replicate 8 none, sleepReq := false
                owed := s.slc.owed || decide (.attention ∈ s.slc.outgoing) || decide (s.slc.sending = some .attention) }
              bxp := { s.bxp with power := .standby, sleepAcked := true, timer := none, returnStandby := false }
              bpc.force := false
              nwu.receive := [] })

/-- R9, R65, R154, R158, R172, R179: what a link reset does: HOST_RESET in ACTIVE, IDLE and TRAINING, TRAINING_LOST in
ACTIVE and IDLE; elsewhere neither has an effect (assumption 1). The streams that are not CLOSED end as an abort ends them
and the plans that are not FREE as a close does, in ascending number; then the manual holds go as releases, the receive
queue is emptied, and a standby entry is abandoned.
The order in which the blocks take the reset is the model's (assumption 20); so is it that an ATTENTION partly sent becomes
owed (assumption 11). -/
def Obligations.LinkResetEndsEverySession : Prop :=
  ∀ s : State, ∀ c ∈ [(Instr.hostReset, StartCause.hostReset), (Instr.trainingLost, StartCause.trainingLost)],
    let resets : Prop :=
      s.slc.link = .active ∨ s.slc.link = .idle ∨ c.1 = .hostReset ∧ s.slc.link = .training
    let dropped : State :=
      { s.quiet with slc := { s.quiet.slc with
        link := .training, startCause := c.2, receiver := .quiet, places := [], outgoing := [], sending := none
        deferred := Vector.replicate 8 none, sleepReq := false
        owed := s.slc.owed || decide (.attention ∈ s.slc.outgoing) || decide (s.slc.sending = some .attention) } }
    let aborted := (List.range 8).foldl (fun u i => if (u.stream i).state = .closed then u else abortStream i u) dropped
    let closed := (List.range 16).foldl (fun u p => if (u.plan p).state = .free then u else closePlan p u) aborted
    let ended : State :=
      { closed with
        bpc := (List.range 4).foldl (fun b i => b.release s.slc.settings .manual i) closed.bpc
        nwu.receive := [] }
    let t := if s.bxp.power = .standbyEntry then abandonStandby .linkReset ended else ended
    (¬ resets → Ends c.1 s s.quiet)
    ∧ (resets → Ends c.1 s t
      ∧ t.slc.link = .training ∧ t.slc.startCause = c.2 ∧ t.slc.receiver = .quiet ∧ t.slc.places = []
      ∧ t.slc.outgoing = [] ∧ t.slc.sending = none ∧ t.slc.deferred = Vector.replicate 8 none ∧ t.slc.sleepReq = false
      ∧ t.slc.linkErrors = s.slc.linkErrors ∧ t.slc.breaks = s.slc.breaks ∧ t.slc.acked = s.slc.acked
      ∧ t.slc.enables = s.slc.enables ∧ t.slc.settings = s.slc.settings
      ∧ (∀ i < 8, (t.stream i).state = .closed) ∧ (∀ p < 16, (t.plan p).state = .free)
      ∧ (∀ i < 4, (t.bay i).manual = false)
      ∧ (s.bxp.power ≠ .standbyEntry →
          t.nwu = { s.nwu with receive := [] } ∧ t.bxp = s.bxp ∧ t.slc.latched = s.slc.latched
            ∧ ∀ k < 16, t.client k = { s.client k with charged := (t.client k).charged })
      ∧ (s.bxp.power = .standbyEntry → t.bxp.power = .run ∧ t.bxp.lastFailure = .linkReset ∧ t.nwu.mode = .pass
          ∧ t.slc.latched = s.slc.latched ||| Notice.standbyFailed.set
          ∧ ∀ k < 16, t.client k =
              { s.client k with charged := (t.client k).charged, holdStatus := .empty, held := [] })
      ∧ t.nwu.templates = s.nwu.templates ∧ t.nwu.transmit = s.nwu.transmit ∧ t.nwu.onWire = s.nwu.onWire
      ∧ t.bck = s.bck ∧ t.grants = s.grants ∧ t.tiu = s.tiu ∧ t.rpb.epoch = s.rpb.epoch ∧ t.pending = s.pending
      ∧ t.free = s.free)

/-! ### Gates -/

/-- R187, R189: outside LOADED a request that reads or changes records is answered NOT_LOADED, and during an export one
that changes records is answered IMAGE_BUSY, with no other effect.
Which of two rows of one kind takes a request of which form is the model's choice (assumption 7). -/
def Obligations.GatesOfRecordRequests : Prop :=
  (∀ (s : State) (r : Request), s.tiu.load ≠ .loaded →
    (∀ c ∈ [(Instr.clientSet, Kind.clientSet), (.clientRead, .clientRead), (.clientRetire, .clientRetire),
          (.scheduleSet, .scheduleSet), (.streamOpen, .streamOpen), (.streamData, .streamData),
          (.streamCommit, .streamCommit), (.streamFinish, .streamFinish), (.streamAbort, .streamAbort),
          (.streamRead, .streamRead), (.chunkRead, .chunkRead), (.collectionOpen, .collectionOpen),
          (.collectionClose, .collectionClose), (.retireCollection, .retireCollection), (.memberAdd, .memberAdd),
          (.memberRemove, .memberRemove), (.collectionRead, .collectionRead), (.membersFetch, .membersFetch),
          (.objectRead, .objectRead), (.walkStatus, .walkStatus), (.grantSet, .grantSet), (.grantClear, .grantClear),
          (.planOpen, .planOpen), (.planFetch, .planFetch), (.planCheck, .planCheck), (.planDone, .planDone)],
        Offered s c.2 r → Refused c.1 s r .notLoaded)
      ∧ (Offered s .releaseTake r →
          (r.auxNat ≠ 1 → Refused .releaseTake s r .notLoaded) ∧ (r.auxNat = 1 → Refused .releaseTakeLastBatch s r .notLoaded))
      ∧ (Offered s .grantRead r →
          (byteAt r.payload 0 ≠ 2 → Refused .grantRead s r .notLoaded)
            ∧ (byteAt r.payload 0 = 2 → Refused .grantReadDecision s r .notLoaded))
      ∧ (Offered s .filterSet r →
          (r.auxNat ≠ 1 → Refused .filterSet s r .notLoaded) ∧ (r.auxNat = 1 → Refused .filterRead s r .notLoaded)))
  ∧ ∀ (s : State) (r : Request), s.tiu.load = .loaded → s.tiu.exporting = true →
    (∀ c ∈ [(Instr.clientSet, Kind.clientSet), (.clientRetire, .clientRetire), (.scheduleSet, .scheduleSet),
          (.streamOpen, .streamOpen), (.streamData, .streamData), (.streamCommit, .streamCommit),
          (.streamFinish, .streamFinish), (.streamAbort, .streamAbort), (.collectionOpen, .collectionOpen),
          (.collectionClose, .collectionClose), (.retireCollection, .retireCollection), (.memberAdd, .memberAdd),
          (.memberRemove, .memberRemove), (.grantSet, .grantSet), (.grantClear, .grantClear)],
        Offered s c.2 r → Refused c.1 s r .imageBusy)
      ∧ (Offered s .releaseTake r → r.auxNat ≠ 1 → Refused .releaseTake s r .imageBusy)
      ∧ (Offered s .releaseTake r → r.auxNat = 1 → Refused .releaseTakeLastBatch s r .imageBusy)
      ∧ (Offered s .filterSet r → r.auxNat ≠ 1 → Refused .filterSet s r .imageBusy)

/-! ### Link status, notices, settings, clock -/

/-- R15: LINK_STATUS: the record as it stood, then the acknowledged flag, then with aux 1 the counts; it passes the link
start check, and any other aux is answered BAD_FIELD with nothing changed.
That the row LINK_STATUS takes the refused values of aux is the model's choice (assumption 7). -/
def Obligations.LinkStatus : Prop :=
  (∀ (s : State) (r : Request), Offered s .linkStatus r → r.payload = [] →
      let record : List Byte :=
        [(match s.slc.link with | .down => 0#8 | .training => 1#8 | .active => 2#8 | .idle => 3#8 | .sleep => 4#8),
         (match s.slc.startCause with | .powerUp => 0#8 | .hostReset => 1#8 | .trainingLost => 2#8),
         (if s.slc.acked then 1#8 else 0#8)]
          ++ le 2 s.slc.linkErrors ++ le 2 s.slc.breaks ++ le 1 s.slc.places.length
          ++ le 1 ((List.range 8).filter fun i => (slot none s.slc.deferred i).isSome).length
          ++ [(if s.slc.sleepReq then 1#8 else 0#8)]
      (r.aux = 0#16 → Answers .linkStatus s r .ok record { s.quiet with slc.acked := true })
        ∧ (r.aux = 1#16 → Answers .linkStatusClearCounts s r .ok record
            { s.quiet with slc := { s.quiet.slc with acked := true, linkErrors := 0, breaks := 0 } })
        ∧ (1 < r.aux.toNat → Refused .linkStatus s r .badField))
    ∧ ∀ (s : State) (p : Place) (body : Body), p.kind = 0x01#8 →
        route p body s =
          { s with
            slc.places := s.slc.places.map fun q => if q.slot = p.slot then { q with phase := .waiting body } else q }

/-- R18: NOTICE_READ: the first notice of Table 1.7 that is pending and enabled, the pending set and the enable set. -/
def Obligations.NoticeRead : Prop :=
  ∀ (s : State) (r : Request), Offered s .noticeRead r → r.payload = [] →
    ∃ code, Answers .noticeRead s r .ok (code :: (le 2 s.pendingNotices.toNat ++ le 2 s.slc.enables.toNat)) s.quiet
      ∧ (s.pendingNotices &&& s.slc.enables = 0#11 → code = 0#8)
      ∧ ∀ k < 11, (s.pendingNotices &&& s.slc.enables).getLsbD k = true →
          (∀ j < k, (s.pendingNotices &&& s.slc.enables).getLsbD j = false) →
          code = [0x11#8, 0x12#8, 0x13#8, 0x14#8, 0x21#8, 0x22#8, 0x23#8, 0x24#8, 0x25#8, 0x31#8, 0x32#8].getD k 0#8

/-- Table 1.7, R16: the pending set: latched flags and, for the five level notices, their conditions.
R19: NOTICE_CLEAR clears the latched notices named, NOTICE_MASK replaces the enables; both answer with the sets after
the change, and neither changes anything else. -/
def Obligations.NoticesPendingClearedAndMasked : Prop :=
  (∀ s : State,
    (∀ k ∈ [0, 4, 6, 7, 8, 9], s.pendingNotices.getLsbD k = s.slc.latched.getLsbD k)
      ∧ (s.pendingNotices.getLsbD 1 = true ↔ s.slc.latched.getLsbD 1 = true ∨ s.rtu.walk = .paused)
      ∧ (s.pendingNotices.getLsbD 2 = true ↔ s.slc.latched.getLsbD 2 = true ∨ s.rtu.release ≠ [])
      ∧ (s.pendingNotices.getLsbD 3 = true ↔ s.slc.latched.getLsbD 3 = true ∨ ∃ i < 8, (s.stream i).state = .halted)
      ∧ (s.pendingNotices.getLsbD 5 = true ↔ s.slc.latched.getLsbD 5 = true ∨ ∃ c < 16, s.bxp.due.getLsbD c = true)
      ∧ (s.pendingNotices.getLsbD 10 = true ↔ s.slc.latched.getLsbD 10 = true ∨ s.bck.clockSet = false))
  ∧ ∀ (s : State) (r : Request), r.payload.length = 2 →
    (Offered s .noticeClear r →
        let t := { s.quiet with slc.latched := s.slc.latched &&& ~~~(noticeSet r.payload) }
        Answers .noticeClear s r .ok (le 2 t.pendingNotices.toNat ++ le 2 s.slc.enables.toNat) t)
      ∧ (Offered s .noticeMask r →
        let t := { s.quiet with slc.enables := noticeSet r.payload }
        Answers .noticeMask s r .ok (le 2 s.pendingNotices.toNat ++ le 2 (noticeSet r.payload).toNat) t)

/-- R20, R21, Table 1.8: SETTINGS_READ gives the record; SETTINGS_WRITE merges by presence bits, clamps, replaces the
record, and on a changed budget examines the spin-up queue (R160).
That bits 8 to 15 of the presence set may hold anything is the model's choice (assumption 24). -/
def Obligations.SettingsReadAndWrite : Prop :=
  ∀ (s : State) (r : Request),
    let bytes (x : Settings) : List Byte :=
      le 2 (BitVec.ofInt 16 x.zone).toNat ++ le 4 x.lmin ++ le 4 x.ltgt ++ le 4 x.lmax ++ le 1 x.budget ++ le 1 x.spinUp
        ++ le 2 x.idle ++ le 1 x.spinDown
    (Offered s .settingsRead r → r.payload = [] → Answers .settingsRead s r .ok (bytes s.slc.settings) s.quiet)
      ∧ (Offered s .settingsWrite r → r.payload.length = 21 →
        let p := r.payload.drop 2
        let old := s.slc.settings
        let named (k : Nat) := (field r.payload 0 2).testBit k
        let lmin0 := if named 1 then field p 2 4 else old.lmin
        let ltgt0 := if named 2 then field p 6 4 else old.ltgt
        let lmax0 := if named 3 then field p 10 4 else old.lmax
        let ltgt := max 4096 (min 32768 (if ltgt0 = 0 then 0 else 2 ^ Nat.log2 ltgt0))
        let lmin1 := max 2048 (min 16384 lmin0) / 1024 * 1024
        let new : Settings :=
          { zone := max (-720) (min 840 (if named 0 then signedField p 0 else old.zone))
            lmin := if ltgt < 2 * lmin1 then ltgt / 2 else lmin1
            ltgt := ltgt
            lmax := max (4 * ltgt) (min 131072 lmax0) / 4096 * 4096
            budget := max (max 7 (min 30 (if named 4 then field p 14 1 else old.budget))) s.bpc.totalDraw
            spinUp := max 4 (min 30 (if named 5 then field p 15 1 else old.spinUp))
            idle :=
              let n := if named 6 then field p 16 2 else old.idle
              if n = 0 then 0 else max 60 (min 7200 n)
            spinDown := max 1 (min 10 (if named 7 then field p 18 1 else old.spinDown)) }
        Answers .settingsWrite s r .ok (bytes new)
          { s.quiet with
            slc.settings := new
            bpc := if new.budget = old.budget then s.bpc else s.bpc.examine new })

/-- R57: whatever is asked for, the chunk parameters taken satisfy 2,048 ≤ Lmin ≤ Ltgt / 2 and 4 × Ltgt ≤ Lmax ≤ 131,072,
with Ltgt a power of two and the steps' multiples; clamping again changes nothing. -/
def Obligations.ChunkParametersTakenAreConsistent : Prop :=
  ∀ (draw : Nat) (x : Settings), let y := x.clamped draw
    2048 ≤ y.lmin ∧ 2 * y.lmin ≤ y.ltgt ∧ y.lmin % 1024 = 0
      ∧ (∃ g, 12 ≤ g ∧ g ≤ 15 ∧ y.ltgt = 2 ^ g) ∧ 4 * y.ltgt ≤ y.lmax ∧ y.lmax ≤ 131072 ∧ y.lmax % 4096 = 0
      ∧ y.clamped draw = y

/-- R26, R27: CLOCK_READ gives box time, the clock-set flag, the zone offset and the local minute, and changes nothing. -/
def Obligations.ClockRead : Prop :=
  ∀ (s : State) (r : Request), Offered s .clockRead r → r.payload = [] →
    let m : Int := (((s.bck.boxTime / 60 : Nat) : Int) + s.slc.settings.zone) % 1440
    Answers .clockRead s r .ok
        (le 4 s.bck.boxTime ++ [(if s.bck.clockSet then 1#8 else 0#8)] ++ le 2 (BitVec.ofInt 16 s.slc.settings.zone).toNat
          ++ le 2 m.toNat) s.quiet
      ∧ 0 ≤ m ∧ m < 1440

/-- R24, R25, R135, R176: CLOCK_SET writes box time and the flag, sweeps the grants expired at the new time, and
evaluates every client; the record answered is the clock's after it.
R22, R23, R24, R155, R176: a second event: box time, saturating; the sweep at a multiple of 60; every timer counts
down by one; each sense line is compared; the ACTIVE clients with a schedule are evaluated.
The order of the blocks within a second is the model's (assumption 8), and so is the order of the clients at a CLOCK_SET
(assumption 28). -/
def Obligations.ClockSetAndSecondEvents : Prop :=
  (∀ (s : State) (r : Request), Offered s .clockSet r → RefusedFirst .clockSet s r [(r.payload.length ≠ 4, .badField)])
  ∧ (∀ (s : State) (r : Request), Offered s .clockSet r → r.payload.length = 4 →
    let t := field r.payload 0 4
    let swept := if s.tiu.load = .loaded ∧ s.tiu.exporting = false then
        s.grants.filter fun g => !(g.2.live && g.2.expiry.any fun e => decide (e ≤ t))
      else s.grants
    let moved := { s.quiet with bck := { boxTime := t, clockSet := true }, grants := swept }
    Answers .clockSet s r .ok (evaluateDue (List.range 16) moved).clockRecord (evaluateDue (List.range 16) moved))
  ∧ ∀ (s : State) (sense : Vector Bool 4),
    let t := if s.bck.boxTime < 4294967295 then s.bck.boxTime + 1 else 4294967295
    let swept := if t % 60 = 0 ∧ s.tiu.load = .loaded ∧ s.tiu.exporting = false then
        s.grants.filter fun g => !(g.2.live && g.2.expiry.any fun e => decide (e ≤ t))
      else s.grants
    ∃ bays : Vector Bay 4,
      (∀ i < 4, slot (Bay.atReset false) bays i =
          { s.bay i with
            timer := (s.bay i).timer.map fun x => (x.1, x.2 - 1)
            differ := if (s.bay i).differ = 2 then 2
              else if slot false sense i = (s.bay i).present then 0 else (s.bay i).differ + 1 })
        ∧ Ends (.secondEvent sense) s
            (evaluateDue ((List.range 16).filter fun c => (s.client c).active && (s.client c).schedule.isSome)
              { s.quiet with
                bck.boxTime := t
                grants := swept
                bpc.bays := bays
                bxp.timer := s.bxp.timer.map fun x => (x.1, x.2 - 1) })

/-- R176, R172, R173: the due evaluation of a list of clients: in LOADED each flag takes whether t + lead is not less than
next_due; the first that rises wakes the box from STANDBY, or abandons standby entry; outside LOADED nothing changes.
That the first of several names the client of the last standby failure is the model's choice (assumption 28). -/
def Obligations.DueEvaluation : Prop :=
  ∀ (s : State) (cs : List Nat), (∀ c ∈ cs, c < 16) →
    let due (c : Nat) : Bool := match (s.client c).schedule with
      | none => false
      | some x => decide (x.nextDue ≤ s.bck.boxTime + x.lead)
    (s.tiu.load ≠ .loaded → evaluateDue cs s = s)
      ∧ (s.tiu.load = .loaded → ∃ flags : BitVec 16,
          (∀ c < 16, flags.getLsbD c = if c ∈ cs then due c else s.bxp.due.getLsbD c)
            ∧ ((∀ c ∈ cs, due c = true → s.bxp.due.getLsbD c = true) →
                evaluateDue cs s = { s with bxp.due := flags })
            ∧ ∀ before c after, cs = before ++ c :: after → due c = true → s.bxp.due.getLsbD c = false →
                (∀ k ∈ before, due k = true → s.bxp.due.getLsbD k = true) →
                (s.bxp.power = .standby → evaluateDue cs s =
                    { s with bxp := { s.bxp with
                        due := flags, power := .waking, phase := .powered, timer := some (.wake, 30), failures := 0
                        cause := .schedule c, returnStandby := true } })
                  ∧ (s.bxp.power = .standbyEntry → evaluateDue cs s = abandonStandby (.due c) { s with bxp.due := flags })
                  ∧ (s.bxp.power ≠ .standby → s.bxp.power ≠ .standbyEntry →
                      evaluateDue cs s = { s with bxp.due := flags }))

/-! ### Clients -/

/-- R28, R30, R31, R32, R33: CLIENT_SET creates the record named or the lowest FREE one with the next generation, or
modifies an ACTIVE one; a quota below the charge is raised to the charge; a change to VIEWER clears schedule and due.
R30, R31, R32, R33: the refusals after the gate: BAD_FIELD, FULL, ADDRESS_TAKEN, OWNS_RECORDS. -/
def Obligations.ClientSet : Prop :=
  (∀ (s : State) (r : Request), Offered s .clientSet r → Changeable s →
    let p := r.payload
    let address := slice p 2 6
    let bad : Prop := p.length ≠ 28 ∨ 15 < byteAt p 0 ∧ byteAt p 0 ≠ 255 ∨ byteAt p 1 < 1 ∨ 3 < byteAt p 1
      ∨ (∀ b ∈ address, b = 0#8) ∨ (address.getD 0 0#8).getLsbD 0 = true ∨ 16777215 < field p 24 4
    RefusedFirst .clientSet s r
        [(bad, .badField), (byteAt p 0 = 255 ∧ ∀ k < 16, (s.client k).active = true, .full)]
      ∧ ∀ c < 16,
        (byteAt p 0 = c ∨ byteAt p 0 = 255 ∧ (s.client c).active = false ∧ ∀ k < c, (s.client k).active = true) →
        let x := s.client c
        let owns : Prop := (∃ l ∈ s.oct.colls, l.2.state ≠ .free ∧ l.2.owner = (c, x.generation))
          ∨ ∃ i < 8, (s.stream i).state ≠ .closed ∧ (s.stream i).client = c
        RefusedFirst .clientSet s r
          [(bad, .badField),
           (∃ k < 16, k ≠ c ∧ (s.client k).active = true ∧ (s.client k).address = address, .addressTaken),
           (x.active = true ∧ (x.role = .source ∨ x.role = .family) ∧ byteAt p 1 = 2 ∧ owns, .ownsRecords)])
  ∧ ∀ (s : State) (r : Request) (c : Nat) (role : Role),
    let p := r.payload
    let x := s.client c
    let q := field p 24 4
    Offered s .clientSet r → Changeable s → p.length = 28 →
    (byteAt p 0 = c ∧ c < 16 ∨ byteAt p 0 = 255 ∧ c < 16 ∧ x.active = false ∧ ∀ k < c, (s.client k).active = true) →
    ((byteAt p 1 = 1 ∧ role = .source) ∨ (byteAt p 1 = 2 ∧ role = .viewer) ∨ (byteAt p 1 = 3 ∧ role = .family)) →
    (∃ b ∈ slice p 2 6, b ≠ 0#8) → ((slice p 2 6).getD 0 0#8).getLsbD 0 = false → q ≤ 16777215 →
    (∀ k < 16, k ≠ c → (s.client k).active = true → (s.client k).address ≠ slice p 2 6) →
    (x.active = true → x.role = .source ∨ x.role = .family → role = .viewer →
        s.collectionsOwned c x.generation = 0 ∧ s.streamsOpenOf c = 0) →
    let quota (charged : Nat) : Option Nat :=
      if q = 0 then none else if charged ≤ q * 1048576 then some q else some ((charged + 1048575) / 1048576)
    let created : Client :=
      { active := true, generation := (x.generation + 1) % 256, role := role, address := slice p 2 6,
        label := slice p 8 16, quota := quota 0, charged := 0, schedule := none, missed := 0, filters := [],
        holdStatus := .empty, held := [] }
    let modified : Client :=
      { x with role := role, address := slice p 2 6, label := slice p 8 16, quota := quota x.charged }
    (x.active = false →
        let t := s.quiet.setClient c created
        Answers .clientSet s r .ok (t.clientRecord c) t)
      ∧ (x.active = true → (role ≠ .viewer ∨ x.role = .viewer) →
        let t := s.quiet.setClient c modified
        Answers .clientSet s r .ok (t.clientRecord c) t)
      ∧ (x.active = true → role = .viewer → x.role ≠ .viewer →
        let u := s.quiet.setClient c { modified with schedule := none, missed := 0 }
        let t := { u with bxp.due := s.bxp.due &&& ~~~(1#16 <<< c) }
        Answers .clientSet s r .ok (t.clientRecord c) t)

/-- R39, R136: CLIENT_RETIRE of a client that owns nothing: its grants go, the record becomes FREE with its generation
kept, its due flag falls. R36: SCHEDULE_SET writes or clears the schedule, sets missed to 0 and evaluates the client.
The refusals of each after the gate: BAD_FIELD, NO_SUCH, OWNS_RECORDS; BAD_FIELD, NO_SUCH, STATE. -/
def Obligations.ClientRetireAndScheduleSet : Prop :=
  (∀ (s : State) (r : Request), Changeable s →
    let p := r.payload
    let c := byteAt p 0
    let x := s.client c
    let owns : Prop := (∃ l ∈ s.oct.colls, l.2.state ≠ .free ∧ l.2.owner = (c, x.generation))
      ∨ (∃ i < 8, (s.stream i).state ≠ .closed ∧ (s.stream i).client = c)
      ∨ (∃ k < 16, (s.plan k).state ≠ .free ∧ (s.plan k).client = c) ∨ x.holdStatus ≠ .empty
    (Offered s .clientRetire r → RefusedFirst .clientRetire s r
        [(p.length ≠ 1 ∨ 15 < c, .badField), (x.active = false, .noSuch), (owns, .ownsRecords)])
      ∧ (Offered s .scheduleSet r → RefusedFirst .scheduleSet s r
        [(p.length ≠ 10 ∨ 15 < c ∨ 1 < byteAt p 1
            ∨ byteAt p 1 = 1 ∧ (field p 2 2 < 1 ∨ 40320 < field p 2 2 ∨ 3600 < field p 8 2), .badField),
         (x.active = false, .noSuch), (byteAt p 1 = 1 ∧ x.role = .viewer, .state)]))
  ∧ ∀ (s : State) (r : Request) (c : Nat), Changeable s → byteAt r.payload 0 = c → c < 16 → (s.client c).active = true →
    (Offered s .clientRetire r → r.payload.length = 1 → s.collectionsOwned c (s.client c).generation = 0 →
        s.streamsOpenOf c = 0 → s.plansOpenOf c = 0 → (s.client c).holdStatus = .empty →
        let u := s.quiet.setClient c (Client.free (s.client c).generation)
        let t := { u with
          grants := s.grants.filter fun g =>
            !(g.2.live && (decide (g.2.grantee = .client c) || decide (g.2.target = .allOf c)))
          bxp.due := s.bxp.due &&& ~~~(1#16 <<< c) }
        Answers .clientRetire s r .ok (t.clientRecord c) t)
      ∧ (Offered s .scheduleSet r → r.payload.length = 10 →
        let p := r.payload
        let written (x : Option Schedule) :=
          evaluateDue [c] (s.quiet.setClient c { s.client c with schedule := x, missed := 0 })
        (byteAt p 1 = 0 → Answers .scheduleSet s r .ok ((written none).clientRecord c) (written none))
          ∧ (byteAt p 1 = 1 → 1 ≤ field p 2 2 → field p 2 2 ≤ 40320 → field p 8 2 ≤ 3600 →
              ((s.client c).role ≠ .viewer →
                  let x := some { period := field p 2 2, nextDue := field p 4 4, lead := field p 8 2 }
                  Answers .scheduleSet s r .ok ((written x).clientRecord c) (written x))
                ∧ ((s.client c).role = .viewer → Refused .scheduleSet s r .state)))

/-! ### Requests that only read -/

/-- R38, R66, R108, R109, R110, R120, R138, R166, R185, R186: reads answer the record as it stands and change nothing but
the answer; the refusals of each after the gate.
That the length of a payload is checked after the gate where a chapter does not say so is read from R11 (assumption 9). -/
def Obligations.ReadsAnswerTheRecordAndChangeNothing : Prop :=
  (∀ (s : State) (r : Request),
    let p := r.payload
    let client := s.client (byteAt p 0)
    (Offered s .clientRead r → Readable s →
        RefusedFirst .clientRead s r [(p.length ≠ 1 ∨ 15 < byteAt p 0, .badField)])
      ∧ (Offered s .streamRead r → Readable s →
        RefusedFirst .streamRead s r [(7 < r.aux.toNat ∨ p ≠ [], .badField)])
      ∧ (Offered s .collectionRead r → Readable s →
        RefusedFirst .collectionRead s r [(p.length ≠ 2 ∨ 1023 < field p 0 2, .badField)])
      ∧ (Offered s .membersFetch r → Readable s →
        RefusedFirst .membersFetch s r
          [(p.length ≠ 6 ∨ 1023 < field p 0 2 ∨ 1048575 < field p 2 4, .badField),
           ((s.coll (field p 0 2)).state = .free, .noSuch)])
      ∧ (Offered s .objectRead r → Readable s →
        RefusedFirst .objectRead s r [(p.length ≠ 10 ∨ 1048575 < field p 0 4 ∨ 256 < field p 8 2, .badField)])
      ∧ (Offered s .releaseTake r → Changeable s → r.aux = 1#16 →
        RefusedFirst .releaseTakeLastBatch s r [(p.length ≠ 2 ∨ field p 0 2 = 0 ∨ 512 < field p 0 2, .badField)])
      ∧ (Offered s .bayStatus r → RefusedFirst .bayStatus s r [(p ≠ [], .badField)])
      ∧ (Offered s .filterSet r → Readable s → r.aux = 1#16 →
        RefusedFirst .filterRead s r
          [(p.length ≠ 1 ∨ 15 < byteAt p 0, .badField), (client.active = false, .noSuch)])
      ∧ (Offered s .templateSet r → r.aux = 1#16 →
        RefusedFirst .templateRead s r [(p.length ≠ 1 ∨ 3 < byteAt p 0, .badField)]))
  ∧ ∀ (s : State) (r : Request),
    let p := r.payload
    (Offered s .clientRead r → Readable s → p.length = 1 → byteAt p 0 < 16 →
        Answers .clientRead s r .ok (s.clientRecord (byteAt p 0)) s.quiet)
      ∧ (Offered s .streamRead r → Readable s → p = [] → r.aux.toNat < 8 →
        Answers .streamRead s r .ok (s.stream r.aux.toNat).record s.quiet)
      ∧ (Offered s .collectionRead r → Readable s → p.length = 2 → field p 0 2 < 1024 →
        Answers .collectionRead s r .ok (s.collRecord (field p 0 2)) s.quiet)
      ∧ (Offered s .membersFetch r → Readable s → p.length = 6 → field p 0 2 < 1024 → field p 2 4 < 1048576 →
        (s.coll (field p 0 2)).state ≠ .free →
        let from_ := (s.coll (field p 0 2)).members.filter fun m => decide (field p 2 4 ≤ m)
        Answers .membersFetch s r .ok
          (le 2 (from_.take 1024).length ++ [(if 1024 < from_.length then 1#8 else 0#8)] ++ (from_.take 1024).flatMap (le 4))
          s.quiet)
      ∧ (Offered s .objectRead r → Readable s → p.length = 10 → field p 0 4 < 1048576 → field p 8 2 ≤ 256 →
        Answers .objectRead s r .ok ((s.object (field p 0 4)).record (field p 0 4) (field p 4 4) (field p 8 2)) s.quiet)
      ∧ (Offered s .releaseTake r → Changeable s → r.aux = 1#16 → p.length = 2 → 1 ≤ field p 0 2 → field p 0 2 ≤ 512 →
        Answers .releaseTakeLastBatch s r .ok
          (le 2 s.rtu.lastBatch.length ++ le 2 s.rtu.release.length ++ s.rtu.lastBatch.flatMap Extent.bytes) s.quiet)
      ∧ (Offered s .bayStatus r → p = [] →
        Answers .bayStatus s r .ok s.bayStatusRecord s.quiet)
      ∧ (Offered s .filterSet r → Readable s → r.aux = 1#16 → p.length = 1 → byteAt p 0 < 16 →
        (s.client (byteAt p 0)).active = true →
        let fs := (s.client (byteAt p 0)).filters
        Answers .filterRead s r .ok
          (le 1 (byteAt p 0) ++ le 1 fs.length
            ++ fs.flatMap fun f => le 2 f.offset ++ le 1 f.pattern.length ++ f.pattern ++ f.mask) s.quiet)
      ∧ (Offered s .templateSet r → r.aux = 1#16 → p.length = 1 → byteAt p 0 < 4 →
        (s.template (byteAt p 0) = none → Answers .templateRead s r .ok (le 1 (byteAt p 0) ++ [0#8]) s.quiet)
          ∧ ∀ x, s.template (byteAt p 0) = some x →
            Answers .templateRead s r .ok
              (le 1 (byteAt p 0) ++ [1#8] ++ le 2 x.offset ++ le 1 x.pattern.length ++ le 1 x.reply.length ++ x.pattern
                ++ x.mask ++ x.reply) s.quiet)

/-- R90, R126, R178, Table 6.3: the reads whose record holds bytes of no stated content: everything else of the record is as it
stands, whatever those bytes are, and only the counter of free bytes moves. The refusals of each (the place of the length check of
WALK_STATUS is assumption 9, the empty result of a refused POWER_STATUS assumption 10).
That these bytes are free, and how many a request spends, is the model's choice (assumption 3). -/
def Obligations.ReadsWithUnstatedBytes : Prop :=
  (∀ (s : State) (r : Request),
    let p := r.payload
    (Offered s .chunkRead r → Readable s →
        RefusedFirst .chunkRead s r
          [(p.length ≠ 33 ∨ 1 < byteAt p 0 ∨ byteAt p 0 = 0 ∧ 33554431 < field p 1 4, .badField)])
      ∧ (Offered s .walkStatus r → Readable s → RefusedFirst .walkStatus s r [(p ≠ [], .badField)])
      ∧ (Offered s .powerStatus r → RefusedFirst .powerStatus s r [(p ≠ [], .badField)]))
  ∧ ∀ (s : State) (r : Request),
    let p := r.payload
    let spent (n : Nat) : State := { s.quiet with free := s.free + n }
    (Offered s .chunkRead r → Readable s → p.length = 33 →
        (∀ h, byteAt p 0 = 0 → field p 1 4 = h → h < 33554432 →
            ∃ open_ : List Byte, open_.length = 2 ∧ Answers .chunkRead s r .ok ((s.chunk h).record h open_) (spent 2))
          ∧ (∀ h, byteAt p 0 = 1 → s.findDigest (digestOf (slice p 1 32)) = some h →
            ∃ open_ : List Byte, open_.length = 2 ∧ Answers .chunkRead s r .ok ((s.chunk h).record h open_) (spent 2))
          ∧ (byteAt p 0 = 1 → s.findDigest (digestOf (slice p 1 32)) = none → Refused .chunkRead s r .noSuch))
      ∧ (Offered s .walkStatus r → Readable s → p = [] →
        ∃ open1 open2 : List Byte, open1.length = 4 ∧ open2.length = 4
          ∧ Answers .walkStatus s r .ok
            ([match s.rtu.walk with | .idle => 0#8 | .walking => 1#8 | .paused => 2#8 | .frozen => 3#8]
              ++ (match s.rtu.current with
                | none => 0#8 :: open1 | some (.coll n) => 1#8 :: le 4 n | some (.object n) => 2#8 :: le 4 n)
              ++ (match s.rtu.nested with | none => 0#8 :: open2 | some n => 1#8 :: le 4 n)
              ++ le 4 s.rtu.orders.length ++ le 4 (s.rtu.orders.filter s.walkable).length ++ le 2 s.rtu.release.length
              ++ le 2 s.rtu.deferred.length ++ le 2 s.rtu.reserved ++ le 2 s.rtu.lastBatch.length
              ++ le 4 ((s.rtu.deferred.head?.map fun d => d.tag.toNat).getD 0) ++ [0#8]) (spent 8))
      ∧ (Offered s .powerStatus r → p = [] →
        ∃ open_ : Byte,
          Answers .powerStatus s r .ok
            ([s.bxp.power.code, flagByte s.bxp.returnStandby] ++ s.bxp.cause.bytes ++ le 1 s.bxp.failures
              ++ s.bxp.lastFailure.bytes [open_] ++ le 2 s.bxp.due.toNat
              ++ setBytes (fun c => decide ((s.client c).holdStatus ≠ .empty)) ++ le 1 s.streamCount ++ le 1 s.planCount
              ++ le 1 s.bpc.manualSet ++ [flagByte s.buttonLatched, flagByte s.bxp.sleepAcked, s.entryStatus.code]
              ++ le 2 ((s.bxp.timer.map (·.2)).getD 0)) (spent 1))

/-- Tables 2.2, 2.7, 5.7, 9.4 and 10.4, and R66, Table 5.8, Table 4.4, Table 7.6, Table 3.6: the records have their stated
lengths, and every field stands at its stated offset, low byte first.
That a number too wide for its field is cut to the field's width is the model's choice (assumption 23); so are the bytes
of no stated content, byte 7 of the power record among them (assumption 3). -/
def Obligations.RecordLayouts : Prop :=
  (∀ s : State,
    (∀ c < 16, (s.client c).address.length = 6 → (s.client c).label.length = 16 →
        let x := s.client c
        let rec_ := s.clientRecord c
        rec_.length = 56 ∧ byteAt rec_ 0 = c ∧ byteAt rec_ 1 = (if x.active = true then 1 else 0)
          ∧ byteAt rec_ 2 = x.generation % 256
          ∧ byteAt rec_ 3 = (match x.role with | .unset => 0 | .source => 1 | .viewer => 2 | .family => 3)
          ∧ slice rec_ 4 6 = x.address ∧ slice rec_ 10 16 = x.label
          ∧ field rec_ 26 4 = x.quota.getD 0 % 4294967296 ∧ field rec_ 30 6 = x.charged % 281474976710656
          ∧ (x.schedule = none → slice rec_ 36 9 = List.replicate 9 0#8)
          ∧ (∀ y, x.schedule = some y →
              byteAt rec_ 36 = 1 ∧ field rec_ 37 2 = y.period % 65536 ∧ field rec_ 39 4 = y.nextDue % 4294967296
                ∧ field rec_ 43 2 = y.lead % 65536)
          ∧ byteAt rec_ 45 = x.missed % 256
          ∧ byteAt rec_ 46 = (if s.bxp.due.getLsbD c then 1 else 0)
          ∧ byteAt rec_ 47 = x.filters.length % 256
          ∧ byteAt rec_ 48 = (match x.holdStatus with | .empty => 0 | .one => 1 | .two => 2 | .lost => 3)
          ∧ byteAt rec_ 49 = x.held.length % 256
          ∧ field rec_ 50 2 = (s.oct.colls.filter fun q =>
              decide (q.2.state ≠ .free ∧ q.2.owner = (c, x.generation))).length % 65536
          ∧ byteAt rec_ 52 = ((List.range 8).filter fun i =>
              decide ((s.stream i).state ≠ .closed ∧ (s.stream i).client = c)).length
          ∧ byteAt rec_ 53 = ((List.range 16).filter fun i =>
              decide ((s.plan i).state ≠ .free ∧ (s.plan i).client = c)).length
          ∧ slice rec_ 54 2 = [0#8, 0#8])
      ∧ (∀ n,
        let x := s.coll n
        let rec_ := s.collRecord n
        rec_.length = 32 ∧ field rec_ 0 2 = n % 65536
          ∧ byteAt rec_ 2 = (match x.state with | .free => 0 | .open => 1 | .closed => 2 | .retiring => 3)
          ∧ byteAt rec_ 3 = (match x.kind with | .snapshot => 1 | .album => 2)
          ∧ byteAt rec_ 4 = x.owner.1 % 256 ∧ byteAt rec_ 5 = x.owner.2 % 256 ∧ field rec_ 6 4 = x.created % 4294967296
          ∧ (x.closed = none → byteAt rec_ 10 = 0 ∧ field rec_ 11 4 = 0)
          ∧ (∀ at_, x.closed = some at_ → byteAt rec_ 10 = 1 ∧ field rec_ 11 4 = at_ % 4294967296)
          ∧ field rec_ 15 3 = x.members.length % 16777216 ∧ byteAt rec_ 18 = x.reserved % 256
          ∧ field rec_ 19 4 = (x.members.length + x.reserved + 63) / 64 % 4294967296
          ∧ field rec_ 23 4 = s.oct.freePages % 4294967296 ∧ slice rec_ 27 5 = List.replicate 5 0#8)
      ∧ (∀ i < 4,
        let x := s.bay i
        let rec_ := s.bpc.bayRecord i
        rec_.length = 12
          ∧ byteAt rec_ 0 = (match x.state with
              | .empty => 0 | .off => 1 | .queued => 2 | .spinningUp => 3 | .ready => 4 | .spinningDown => 5)
          ∧ byteAt rec_ 1 = x.streamHolds % 256 ∧ byteAt rec_ 2 = x.planHolds % 256
          ∧ byteAt rec_ 3 = (if x.manual = true then 1 else 0) ∧ byteAt rec_ 4 = (if x.respin = true then 1 else 0)
          ∧ (i ∉ s.bpc.queue → byteAt rec_ 5 = 0)
          ∧ (∀ before after, s.bpc.queue = before ++ i :: after → i ∉ before →
              byteAt rec_ 5 = (before.length + 1) % 256)
          ∧ (x.timer = none → byteAt rec_ 6 = 0 ∧ field rec_ 7 2 = 0)
          ∧ (∀ k n, x.timer = some (k, n) →
              byteAt rec_ 6 = (match k with | .spinUp => 1 | .idle => 2 | .spinDown => 3) ∧ field rec_ 7 2 = n % 65536)
          ∧ byteAt rec_ 9 = (match x.state with
              | .empty => 0 | .off => 0 | .queued => 0 | .spinningUp => 5 | .ready => 2 | .spinningDown => 2)
          ∧ byteAt rec_ 10 = (if x.present = true then 1 else 0) ∧ byteAt rec_ 11 = 0)
      ∧ (s.bpc.queue.length ≤ 4 →
        let rec_ := s.bayStatusRecord
        rec_.length = 56 ∧ byteAt rec_ 0 = ((List.range 4).map fun i => byteAt (s.bpc.bayRecord i) 9).sum
          ∧ byteAt rec_ 1 = s.slc.settings.budget % 256 ∧ byteAt rec_ 2 = (if s.bpc.force = true then 1 else 0)
          ∧ byteAt rec_ 3 = s.bpc.queue.length
          ∧ (∀ k < 4, byteAt rec_ (4 + k) = (match s.bpc.queue[k]? with | some i => i % 256 | none => 255))
          ∧ ∀ i < 4, slice rec_ (8 + 12 * i) 12 = s.bpc.bayRecord i)
      ∧ (let rec_ := s.powerRecord
        rec_.length = 20
          ∧ byteAt rec_ 0 = (match s.bxp.power with
              | .run => 0 | .standbyEntry => 1 | .standby => 2 | .waking => 3 | .halted => 4)
          ∧ byteAt rec_ 1 = (if s.bxp.returnStandby = true then 1 else 0)
          ∧ byteAt rec_ 2 = (match s.bxp.cause with | .powerOn => 0 | .button => 1 | .network _ => 2 | .schedule _ => 3)
          ∧ byteAt rec_ 3 = (match s.bxp.cause with
              | .powerOn => 0 | .button => 0 | .network c => c % 256 | .schedule c => c % 256)
          ∧ byteAt rec_ 4 = s.bxp.failures % 256
          ∧ byteAt rec_ 5 = (match s.bxp.lastFailure with
              | .none => 0 | .handshakeTimeout => 1 | .due _ => 2 | .network _ => 2 | .button => 2 | .linkReset => 3)
          ∧ byteAt rec_ 6 = (match s.bxp.lastFailure with
              | .none => 0 | .handshakeTimeout => 0 | .due _ => 1 | .network _ => 2 | .button => 3 | .linkReset => 0)
          ∧ (∀ c, s.bxp.lastFailure = .due c ∨ s.bxp.lastFailure = .network c → byteAt rec_ 7 = c % 256)
          ∧ field rec_ 8 2 = s.bxp.due.toNat
          ∧ (∀ c < 16, (field rec_ 10 2).testBit c = decide ((s.client c).holdStatus ≠ .empty))
          ∧ byteAt rec_ 12 = ((List.range 8).filter fun i => decide ((s.stream i).state ≠ .closed)).length
          ∧ byteAt rec_ 13 = ((List.range 16).filter fun i => decide ((s.plan i).state ≠ .free)).length
          ∧ byteAt rec_ 14 < 16 ∧ (∀ i < 4, (byteAt rec_ 14).testBit i = (s.bay i).manual)
          ∧ byteAt rec_ 15 = (if s.slc.latched.getLsbD 6 = true then 1 else 0)
          ∧ byteAt rec_ 16 = (if s.bxp.sleepAcked = true then 1 else 0)
          ∧ byteAt rec_ 17 =
              (if s.tiu.load = .loading ∨ s.tiu.exporting = true then 0x07
              else if ∃ i ∈ List.range 8, (s.stream i).state ≠ .closed then 0x12
              else if ∃ i ∈ List.range 16, (s.plan i).state ≠ .free then 0x13
              else if ∃ i ∈ List.range 4, (s.bay i).manual = true then 0x14
              else if s.bxp.due ≠ 0#16 ∨ (∃ c ∈ List.range 16, (s.client c).holdStatus ≠ .empty)
                ∨ s.slc.latched.getLsbD 6 = true
              then 0x15 else 0)
          ∧ (s.bxp.timer = none → field rec_ 18 2 = 0)
          ∧ ∀ k n, s.bxp.timer = some (k, n) → field rec_ 18 2 = n % 65536)
      ∧ (let rec_ := s.clockRecord
        rec_.length = 9 ∧ field rec_ 0 4 = s.bck.boxTime % 4294967296
          ∧ byteAt rec_ 4 = (if s.bck.clockSet = true then 1 else 0)
          ∧ (field rec_ 5 2 : Int) = s.slc.settings.zone % 65536 ∧ field rec_ 7 2 = s.minute % 65536))
  ∧ (∀ x : Stream, x.window.length = 48 →
    let rec_ := x.record
    let handle (k : Byte) (ordinal h : Nat) : List Byte := k :: (le 4 ordinal ++ le 4 h ++ List.replicate 35 0#8)
    rec_.length = 85 + 44 * x.outstanding.length
      ∧ byteAt rec_ 0 = (match x.state with | .closed => 0 | .open => 1 | .ended => 2 | .finishing => 3 | .halted => 4)
      ∧ byteAt rec_ 1 = x.client % 256 ∧ byteAt rec_ 2 = x.generation % 256 ∧ field rec_ 3 3 = x.object % 16777216
      ∧ field rec_ 6 2 = x.collection % 65536 ∧ byteAt rec_ 8 = x.bay % 256
      ∧ byteAt rec_ 9 = (if x.bayHeld = true then 1 else 0)
      ∧ field rec_ 10 4 = x.lmin % 4294967296 ∧ field rec_ 14 4 = x.ltgt % 4294967296
      ∧ field rec_ 18 4 = x.lmax % 4294967296 ∧ field rec_ 22 6 = x.position % 281474976710656
      ∧ field rec_ 28 3 = x.chunkLength % 16777216 ∧ field rec_ 31 4 = x.ordinal % 4294967296
      ∧ byteAt rec_ 35 = (match x.haltReason with
          | none => 0 | some .quota => 0x0D | some .poolFull => 0x0B | some .writeFailed => 0x18
          | some .bayLost => 0x19 | some .tooLong => 0x1A)
      ∧ slice rec_ 36 48 = x.window ∧ byteAt rec_ 84 = x.outstanding.length % 256
      ∧ ∀ k it, x.outstanding[k]? = some it →
          slice rec_ (85 + 44 * k) 44 = (match it.kind with
            | .owedNew h => handle 1#8 it.ordinal h
            | .owedPrivate d n => 2#8 :: (le 4 it.ordinal ++ List.replicate 4 0xFF#8 ++ le 3 n ++ digestBytes d)
            | .owedRewrite h => handle 3#8 it.ordinal h
            | .pending h => handle 4#8 it.ordinal h))
  ∧ (∀ (o : Obj) (n first count : Nat),
    let rec_ := o.record n first count
    let run := (o.recipe.drop first).take count
    let slots := (o.recipe.map fun ref => match ref with | .indexed _ => 1 | .priv _ _ _ _ => 6).sum
    rec_.length = 30 + 50 * run.length ∧ field rec_ 0 4 = n % 4294967296
      ∧ byteAt rec_ 4 = (match o.state with | .free => 0 | .building => 1 | .complete => 2 | .retiring => 3)
      ∧ byteAt rec_ 5 = o.owner.1 % 256 ∧ byteAt rec_ 6 = o.owner.2 % 256 ∧ field rec_ 7 6 = o.length % 281474976710656
      ∧ field rec_ 13 2 = o.holders % 65536 ∧ byteAt rec_ 15 = o.planHolds % 256
      ∧ field rec_ 16 4 = o.recipe.length % 4294967296 ∧ field rec_ 20 4 = slots % 4294967296
      ∧ field rec_ 24 4 = (slots + 63) / 64 % 4294967296 ∧ field rec_ 28 2 = run.length % 65536
      ∧ ∀ k ref, run[k]? = some ref →
          slice rec_ (30 + 50 * k) 50 = (match ref with
            | .indexed h => [1#8, 0#8, 0xFF#8] ++ le 4 h ++ List.replicate 43 0#8
            | .priv l m d damaged =>
              [2#8, if damaged = true then 1#8 else 0#8] ++ le 1 (l.elim 255 Loc.bay) ++ List.replicate 4 0xFF#8
                ++ le 6 (l.elim 0 Loc.block) ++ le 3 m ++ digestBytes d ++ [0#8, 0#8]))
  ∧ (∀ (e : Chunk) (h : Nat) (open_ : List Byte), open_.length = 2 →
    let rec_ := e.record h open_
    rec_.length = 56 ∧ field rec_ 0 4 = h % 4294967296
      ∧ byteAt rec_ 4 = (match e.state with
          | .empty => 0 | .reserved => 1 | .present => 2 | .needsWriter => 3 | .damaged => 4 | .rewriting => 5)
      ∧ field rec_ 5 3 = e.refcount % 16777216 ∧ field rec_ 8 3 = e.length % 16777216
      ∧ byteAt rec_ 11 = e.loc.elim 255 Loc.bay % 256 ∧ field rec_ 12 8 = e.loc.elim 0 Loc.block % 18446744073709551616
      ∧ (e.payer = none → byteAt rec_ 20 = 0 ∧ slice rec_ 21 2 = open_)
      ∧ (∀ c g, e.payer = some (c, g) →
          byteAt rec_ 20 = 1 ∧ byteAt rec_ 21 = c % 256 ∧ byteAt rec_ 22 = g % 256)
      ∧ byteAt rec_ 23 = e.writer.getD 255 % 256 ∧ slice rec_ 24 32 = digestBytes e.digest)
  ∧ (∀ (s : State) (n : Nat),
    let rec_ := s.grantRecord n
    let g := s.grant n
    rec_.length = 18 ∧ byteAt rec_ 0 = n % 256 ∧ byteAt rec_ 1 = (if g.live = true then 1 else 0)
      ∧ byteAt rec_ 2 = (match g.grantee with | .client c => c % 256 | .anyViewer => 255)
      ∧ byteAt rec_ 3 = (match g.target with | .album _ => 1 | .allOf _ => 2)
      ∧ field rec_ 4 2 = (match g.target with | .album a => a % 65536 | .allOf c => c % 65536)
      ∧ byteAt rec_ 6 = (match g.mode with | .deny => 0 | .inWindow => 1 | .outOfWindow => 2 | .allow => 3)
      ∧ field rec_ 7 2 = g.windowStart % 65536 ∧ field rec_ 9 2 = g.windowEnd % 65536
      ∧ (g.expiry = none → byteAt rec_ 11 = 0 ∧ field rec_ 12 4 = 0 ∧ byteAt rec_ 16 = 0)
      ∧ (∀ e, g.expiry = some e → byteAt rec_ 11 = 1 ∧ field rec_ 12 4 = e % 4294967296
          ∧ byteAt rec_ 16 = (if g.live = true ∧ e ≤ s.bck.boxTime then 1 else 0))
      ∧ byteAt rec_ 17 = 0)
  ∧ ∀ x : VerdictRecord,
    x.bytes.length = 18 ∧ field x.bytes 0 4 = x.ordinal % 4294967296 ∧ field x.bytes 4 6 = x.offset % 281474976710656
      ∧ field x.bytes 10 3 = x.length % 16777216
      ∧ byteAt x.bytes 13 = (match x.verdict with
          | .fresh _ => 1 | .takeover _ => 1 | .newPrivate => 2 | .duplicate _ => 3 | .duplicatePending _ => 4
          | .rewrite _ => 5)
      ∧ field x.bytes 14 4 = (match x.verdict with
          | .newPrivate => 4294967295
          | .fresh h => h % 4294967296 | .takeover h => h % 4294967296 | .duplicate h => h % 4294967296
          | .duplicatePending h => h % 4294967296 | .rewrite h => h % 4294967296)

/-! ### Streams -/

/-- R45, R46, R91, R93, R99, R156: STREAM_OPEN past its checks: the lowest CLOSED context and the lowest FREE object, a
reserved slot with its page, the bay's hold, the settings' parameters. The lowest unused number of a record array is the
least that the array does not list, and there is none when it lists them all.
R45: the refusals of steps 2 to 8, in order. -/
def Obligations.StreamOpen : Prop :=
  (∀ (t : Table Obj) (bound k : Nat), Table.sorted t = true →
    (Table.lowestFree bound t = some k ↔ k < bound ∧ (∀ p ∈ t, p.1 ≠ k) ∧ ∀ j < k, ∃ p ∈ t, p.1 = j)
      ∧ (Table.lowestFree bound t = none ↔ ∀ j < bound, ∃ p ∈ t, p.1 = j))
  ∧ (∀ (s : State) (r : Request), Offered s .streamOpen r → Changeable s →
    let c := byteAt r.payload 0
    let k := field r.payload 1 2
    let b := byteAt r.payload 3
    let x := s.client c
    let l := s.coll k
    let pages (slots : Nat) := (slots + 63) / 64
    let used := l.members.length + l.reserved
    RefusedFirst .streamOpen s r
      [(r.payload.length ≠ 4 ∨ 15 < c ∨ 1023 < k ∨ 3 < b, .badField),
       (s.bxp.power ≠ .run, .state),
       (∀ i < 8, (s.stream i).state ≠ .closed, .full),
       (x.active = false, .noSuch),
       (x.role = .viewer, .state),
       (l.state = .free, .noSuch),
       (l.state ≠ .open ∨ l.owner ≠ (c, x.generation), .state),
       ((s.bay b).state = .empty, .bayLost),
       (Table.lowestFree 1048576 s.oct.objects = none, .full),
       (262144 ≤ used, .full),
       (pages used + s.oct.freePages < pages (used + 1), .poolFull)])
  ∧ ∀ (s : State) (r : Request) (i n : Nat),
    let c := byteAt r.payload 0
    let k := field r.payload 1 2
    let b := byteAt r.payload 3
    let x := s.client c
    let l := s.coll k
    let pages (slots : Nat) := (slots + 63) / 64
    let used := l.members.length + l.reserved
    let cfg := s.slc.settings
    Offered s .streamOpen r → Changeable s → s.bxp.power = .run → r.payload.length = 4 → c < 16 → k < 1024 → b < 4 →
    i < 8 → (s.stream i).state = .closed → (∀ j < i, (s.stream j).state ≠ .closed) →
    x.active = true → x.role ≠ .viewer → l.state = .open → l.owner = (c, x.generation) → (s.bay b).state ≠ .empty →
    Table.lowestFree 1048576 s.oct.objects = some n → used < 262144 →
    pages (used + 1) ≤ pages used + s.oct.freePages →
    Answers .streamOpen s r .ok (le 1 i ++ le 3 n ++ le 4 cfg.lmin ++ le 4 cfg.ltgt ++ le 4 cfg.lmax)
      { s.quiet with
        oct :=
          { objects := Table.write Obj.free s.oct.objects n
              { state := .building, owner := (c, x.generation), length := 0, holders := 0, planHolds := 0, recipe := [] }
            colls := Table.write Coll.free s.oct.colls k { l with reserved := l.reserved + 1 }
            freePages := s.oct.freePages + pages used - pages (used + 1) }
        bpc := s.bpc.hold cfg .stream b
        streams := put s.streams i
          { state := .open, client := c, generation := x.generation, object := n, collection := k, bay := b, bayHeld := true,
            lmin := cfg.lmin, ltgt := cfg.ltgt, lmax := cfg.lmax, position := 0, chunkLength := 0,
            window := List.replicate 48 0, ordinal := 0, haltReason := none, outstanding := [],
            running := Running.start } }

/-- R47, R48, R53: an admitted packet is taken whole and answered with the stream as it then stands and its verdict
records; one that is not admitted is answered BACKLOG and changes nothing.
R43, R47: before it BAD_FIELD of the stream number, the flags or an empty packet without END, then STATE of a stream that is
not OPEN.
That no request of another block comes between two verdicts of a packet is the model's choice (assumption 26). -/
def Obligations.StreamDataAdmission : Prop :=
  (∀ (s : State) (r : Request), Offered s .streamData r → Changeable s →
    let i := r.aux.toNat % 256
    let flags := r.aux.toNat / 256
    RefusedFirst .streamData s r
      [(7 < i, .badField), (1 < flags ∨ r.payload = [] ∧ flags = 0, .badField), ((s.stream i).state ≠ .open, .state)])
  ∧ ∀ (s : State) (r : Request) (i : Nat) (last : Bool),
    Offered s .streamData r → Changeable s → r.aux.toNat = i + (if last then 256 else 0) → i < 8 →
    (r.payload ≠ [] ∨ last = true) → (s.stream i).state = .open →
    let x := s.stream i
    let need := x.outstanding.length + (r.payload.length + (x.lmin - 1)) / x.lmin + (if last then 1 else 0)
    let rec_ (y : Stream) (records : List VerdictRecord) : List Byte :=
      [y.state.code, (y.haltReason.map fun why => why.status.code).getD 0#8] ++ le 6 y.position ++ le 1 records.length
        ++ le 1 y.outstanding.length ++ records.flatMap VerdictRecord.bytes
    (64 < need → Answers .streamData s r .backlog (rec_ x []) s.quiet)
      ∧ (need ≤ 64 →
          let t := takePacket i r.payload last s.quiet
          Answers .streamData s r (((t.2.stream i).haltReason.map HaltReason.status).getD .ok) (rec_ (t.2.stream i) t.1) t.2)

/-- R54, R55: the window values of the 48 bytes w1 to w48 and the boundary test made with the stream's own parameters. -/
def Obligations.WindowValuesAndBoundaryTest : Prop :=
  (∀ (w : List Byte) (p : List Byte), w.length = 48 → 48 ≤ p.length →
      p.foldl slideWindow w = p.drop (p.length - 48))
  ∧ ∀ w : List Byte, w.length = 48 →
    let v (k : Nat) := (w.getD (k - 1) 0#8).toNat
    let ks := List.range' 1 48
    (windowA w = (ks.map v).sum + 31 ∧ 31 ≤ windowA w ∧ windowA w ≤ 12271)
      ∧ windowB w = (ks.map fun k => k * v k).sum % 65536
      ∧ windowT w = (windowB w + 40503 * windowA w) % 65536
      ∧ (windowT w % 2 = 0 ↔ (1 + ((ks.filter fun k => decide (k % 2 = 0)).map v).sum) % 2 = 0)
      ∧ ((∀ k ∈ ks, v k = v 1) → windowT w % 2 = 1)
      ∧ ∀ (x : Stream) (g : Nat), x.window = w → x.ltgt = 2 ^ g → 1 ≤ g → x.lmin < x.ltgt → x.ltgt < x.lmax →
          (x.chunkLength < x.lmin → x.atBoundary = false)
            ∧ (x.lmin ≤ x.chunkLength → x.chunkLength < x.ltgt →
                (x.atBoundary = true ↔ windowT w % 2 ^ (g + 1) = 0))
            ∧ (x.ltgt ≤ x.chunkLength → x.chunkLength < x.lmax →
                (x.atBoundary = true ↔ windowT w % 2 ^ (g - 1) = 0))
            ∧ (x.chunkLength = x.lmax → x.atBoundary = true)
            ∧ (2 ≤ g → x.chunkLength < x.lmax → ((ks.filter fun k => decide (k % 2 = 0)).map v).sum % 2 = 0 →
                x.atBoundary = false)
            ∧ ∀ b, x.chunkLength < x.lmax →
                (x.takeByte b).lmax = x.lmax ∧ (x.takeByte b).chunkLength ≤ x.lmax
                  ∧ ((x.takeByte b).atBoundary = false → (x.takeByte b).chunkLength < x.lmax)

/-- R49, R50, R51, R53: what one byte does, what END does, and that the division of an object's bytes into packets does
not matter: the bytes of two packets taken one after the other come to the same as those of one.
That a stream halted in a packet keeps its window with the bytes taken, those of the dropped chunk included, is the model's
choice (assumption 21). -/
def Obligations.BytesOfAStream : Prop :=
  ∀ (s : State) (i : Nat), i < 8 → (s.stream i).state = .open →
    let x := s.stream i
    let halted (u : State) (why : HaltReason) : State :=
      let y := u.stream i
      u.setStream i { y with
        position := y.position - y.chunkLength, chunkLength := 0, running := Running.start, state := .halted
        haltReason := some why }
    let cut (u : State) (state : StreamState) : List VerdictRecord × State :=
      let y := u.stream i
      let d := y.running.finish
      match present i d y.chunkLength u with
      | (.halt why, u') => ([], halted u' why)
      | (.recorded v, u') =>
        ([{ ordinal := y.ordinal, offset := y.position - y.chunkLength, length := y.chunkLength, verdict := v }],
         u'.setStream i { y with
          state := state
          outstanding := y.outstanding ++ ((v.item d y.chunkLength).map fun k => Item.mk y.ordinal k).toList
          ordinal := y.ordinal + 1, chunkLength := 0, running := Running.start })
    (∀ b, x.position = 68719476735 → takeBytes i [b] [] s = ([], halted s .tooLong))
      ∧ (∀ b, x.position ≠ 68719476735 →
          let y := { x with
            window := x.window.drop 1 ++ [b], position := x.position + 1, chunkLength := x.chunkLength + 1
            running := x.running.push b }
          takeBytes i [b] [] s =
            if boundary x.lmin x.ltgt x.lmax (x.chunkLength + 1) y.window = true then cut (s.setStream i y) .open
            else ([], s.setStream i y))
      ∧ (x.chunkLength = 0 → takePacket i [] true s = ([], s.setStream i { x with state := .ended }))
      ∧ (x.chunkLength ≠ 0 → takePacket i [] true s = cut s .ended)
      ∧ ∀ (a b : List Byte) (last : Bool),
          let t := takeBytes i a [] s
          takePacket i (a ++ b) last s =
            if (t.2.stream i).state = .open then
              (t.1 ++ (takePacket i b last t.2).1, (takePacket i b last t.2).2)
            else t

/-- R56, R67: the bucket of a digest is its first 21 bits; the search finds a way of that bucket that is not EMPTY and
holds the digest, if there is one, and a new entry takes the lowest EMPTY way.
R70 to R78: the verdict by the entry found, the charge, the reference placed with its pages, and the entry after it;
QUOTA and POOL_FULL halt, record nothing and leave charged as it was; where POOL_FULL follows a charge, the requests that
the Client Table takes before the refund see it.
How many requests stand there is free, and that they are CLIENT_READ and CLIENT_SET alone is the model's choice
(assumption 26); so is it that a charge to a pair that names no ACTIVE record does not end the verdict (assumption 21). -/
def Obligations.BucketSearchAndVerdicts : Prop :=
  (∀ (s : State) (d : Digest),
    let b := digestBytes d
    let bucket := byteAt b 0 * 8192 + byteAt b 1 * 32 + byteAt b 2 / 8
    let holds (h : Nat) : Prop := (s.chunk h).state ≠ .empty ∧ (s.chunk h).digest = d
    bucket < 2097152 ∧ digestOf b = d
      ∧ (∀ h, s.findDigest d = some h → bucket * 16 ≤ h ∧ h < bucket * 16 + 16 ∧ holds h)
      ∧ (s.findDigest d = none → ∀ h, bucket * 16 ≤ h → h < bucket * 16 + 16 → ¬ holds h)
      ∧ (∀ h, s.emptyWay d = some h ↔
          bucket * 16 ≤ h ∧ h < bucket * 16 + 16 ∧ (s.chunk h).state = .empty
            ∧ ∀ k, bucket * 16 ≤ k → k < h → (s.chunk k).state ≠ .empty)
      ∧ (s.emptyWay d = none ↔ ∀ h, bucket * 16 ≤ h → h < bucket * 16 + 16 → (s.chunk h).state ≠ .empty))
  ∧ ∀ (s : State) (i : Nat) (d : Digest) (length : Nat),
    let x := s.stream i
    let o := s.object x.object
    let used := recipeSlots o.recipe
    let pages (slots : Nat) := (slots + 63) / 64
    let raised (n : Nat) := if 16777215 ≤ n then n else n + 1
    let outcome (v : Verdict) (amount : Option Nat) (ref : Ref) (slots : Nat) (change : State → State) : Prop :=
      (∀ n, amount = some n → s.chargeAnswer x.client x.generation n = .quota →
          present i d length s = (.halt .quota, s))
        ∧ ((∀ n, amount = some n → s.chargeAnswer x.client x.generation n ≠ .quota) →
            (pages used + s.oct.freePages < pages (used + slots) →
                (amount = none → present i d length s = (.halt .poolFull, s))
                  ∧ ∀ n, amount = some n →
                      let paid := charge x.client x.generation n s
                      present i d length s =
                        (.halt .poolFull, refund x.client x.generation n
                          (takenBetween (Config.requestsBetween s.free) { paid with free := s.free + 1 })))
              ∧ (pages (used + slots) ≤ pages used + s.oct.freePages →
                  let paid := (amount.elim s fun n => charge x.client x.generation n s)
                  present i d length s =
                    (.recorded v, change
                      { paid with oct :=
                        { s.oct with
                          objects := Table.write Obj.free s.oct.objects x.object
                            { o with recipe := o.recipe ++ [ref], length := o.length + length }
                          freePages := s.oct.freePages + pages used - pages (used + slots) } })))
    (∀ h, s.findDigest d = some h →
        let e := s.chunk h
        let room := s.rtu.deferred.length + s.rtu.reserved < 256
        (e.state = .present ∨ e.state = .damaged ∧ ¬ room →
            outcome (.duplicate h) none (.indexed h) 1 fun u => u.setChunk h { e with refcount := raised e.refcount })
          ∧ (e.state = .reserved ∨ e.state = .rewriting →
            outcome (.duplicatePending h) none (.indexed h) 1 fun u =>
              u.setChunk h { e with refcount := raised e.refcount })
          ∧ (e.state = .needsWriter →
            outcome (.takeover h) (some e.length) (.indexed h) 1 fun u =>
              u.setChunk h { e with
                state := .reserved, refcount := raised e.refcount, payer := some (x.client, x.generation), writer := some i })
          ∧ (e.state = .damaged → room →
            outcome (.rewrite h) none (.indexed h) 1 fun u =>
              { u.setChunk h { e with state := .rewriting, refcount := raised e.refcount, writer := some i } with
                rtu := { s.rtu with reserved := s.rtu.reserved + 1 } }))
      ∧ (s.findDigest d = none →
          (∀ h, s.emptyWay d = some h →
              outcome (.fresh h) (some length) (.indexed h) 1 fun u =>
                u.setChunk h { state := .reserved, digest := d, length := length, loc := none, refcount := 1,
                               payer := some (x.client, x.generation), writer := some i })
            ∧ (s.emptyWay d = none →
              outcome .newPrivate (some length) (.priv none length d false) 6 fun u => u))
      ∧ (x.client < 16 → (s.client x.client).active = true →
          (∀ why, (present i d length s).1 = .halt why →
            ((present i d length s).2.client x.client).charged = (s.client x.client).charged
              ∧ (present i d length s).2.chunks = s.chunks ∧ (present i d length s).2.oct = s.oct))
  ∧ ∀ s : State,
    let reads (r : Request) : Prop := s.slc.offered .clt = some r ∧ r.kind = .clientRead
    let sets (r : Request) : Prop := s.slc.offered .clt = some r ∧ r.kind = .clientSet
    takenBetween 0 s = s
      ∧ (∀ r, reads r → Ends .clientRead s (clientReadRequest r s.quiet)
          ∧ ∀ n, takenBetween (n + 1) s = takenBetween n (clientReadRequest r s))
      ∧ (∀ r, sets r → Ends .clientSet s (clientSetRequest r s.quiet)
          ∧ ∀ n, takenBetween (n + 1) s = takenBetween n (clientSetRequest r s))
      ∧ ((∀ r, ¬ reads r ∧ ¬ sets r) → ∀ n, takenBetween n s = s)
      ∧ (∀ r, reads r → Readable s → r.payload.length = 1 → byteAt r.payload 0 < 16 →
          clientReadRequest r s = answer r .ok (s.clientRecord (byteAt r.payload 0)) s)
      ∧ ∀ c g n, s.chargeAnswer c g n = .ok → refund c g n (charge c g n s) = s

/-- R52, R62: a halt by the state of the stream, the first reason staying; a settled handle leaves every list of a context
that is not CLOSED, and each FINISHING stream whose list is then empty completes, in ascending number. -/
def Obligations.HaltsAndSettlement : Prop :=
  ∀ (s : State) (i h : Nat) (why : HaltReason), i < 8 →
    let x := s.stream i
    let halted := s.setStream i { x with state := .halted, haltReason := some why }
    (x.state = .closed ∨ x.state = .halted → haltStream i why s = s)
      ∧ (x.state = .open ∨ x.state = .ended → haltStream i why s = halted)
      ∧ (x.state = .finishing → slot none s.slc.deferred i = none → haltStream i why s = halted)
      ∧ (∀ tag aux, x.state = .finishing → slot none s.slc.deferred i = some (tag, aux) →
          haltStream i why s =
            { halted with slc := { s.slc with
              deferred := put s.slc.deferred i none
              outgoing := s.slc.outgoing ++ [.response none tag aux [0x1D#8, 0x23#8]] } })
      ∧ ∃ u : State, (∀ k < 8, u.stream k =
            if (s.stream k).state = .closed then s.stream k
            else { s.stream k with
              outstanding := (s.stream k).outstanding.filter fun it => decide (it.kind ≠ .pending h) })
          ∧ u = { s with streams := u.streams }
          ∧ settleHandle h s = (List.range 8).foldl (fun v k =>
              if (v.stream k).state = .finishing ∧ (v.stream k).outstanding = [] then completeStream k v else v) u

/-- R58, R59, R79, R81, R82, R83, R121: STREAM_COMMIT takes its entries in order, each whole before the next; an entry
that passes removes its OWED item, and the item's kind and result decide the rest. A stream that an earlier entry closed
answers STATE. R79: two extents overlap when their blocks on one bay meet; a listed extent that overlaps is a conflict.
The fields of an entry stand where Table 3.7 has them. R43, R58: the whole batch is BAD_FIELD for a stream number above 7,
then STATE for a CLOSED stream.
That the response of a finish which the commit completes stands before the commit's own answer is the model's choice
(assumption 20). -/
def Obligations.StreamCommit : Prop :=
  (∀ (s : State) (r : Request), Offered s .streamCommit r → Changeable s →
    RefusedFirst .streamCommit s r
      [(7 < r.aux.toNat, .badField), ((s.stream r.aux.toNat).state = .closed, .state)])
  ∧ (∀ (s : State) (r : Request) (i : Nat), Offered s .streamCommit r → Changeable s → r.aux.toNat = i → i < 8 →
    (s.stream i).state ≠ .closed →
    let t := commitEntries i r.entries [] s.quiet
    Answers .streamCommit s r (if r.whole then .ok else .broken) (le 2 t.1.length ++ t.1.map Status.code) t.2)
  ∧ (∀ (s : State) (i : Nat) (e : List Byte) (es : List (List Byte)) (sts : List Status),
    commitEntries i [] sts s = (sts, s)
      ∧ commitEntries i (e :: es) sts s =
          commitEntries i es (sts ++ [(commitEntry i (CommitEntry.ofBytes e) s).1]) (commitEntry i (CommitEntry.ofBytes e) s).2)
  ∧ (∀ (ordinal result bay block : Nat) (check : List Byte),
    ordinal < 4294967296 → result < 256 → bay < 256 → block < 18446744073709551616 →
    CommitEntry.ofBytes (le 4 ordinal ++ le 1 result ++ le 1 bay ++ le 8 block ++ check)
      = { ordinal := ordinal, result := result, bay := bay, block := block })
  ∧ (∀ (l : Loc) (length h : Nat) (old : Option Loc) (d : Digest) (mark : Bool),
    l.extent length = { bay := l.bay, block := l.block, length := length }
      ∧ locateRef l (.priv old length d mark) = .priv (some l) length d mark ∧ locateRef l (.indexed h) = .indexed h)
  ∧ (∀ (a b : Extent), 1 ≤ a.length → 1 ≤ b.length →
    (a.overlaps b = true ↔ a.bay = b.bay ∧ ∃ n, a.block ≤ n ∧ n < a.block + (a.length + 4095) / 4096
      ∧ b.block ≤ n ∧ n < b.block + (b.length + 4095) / 4096))
  ∧ (∀ (rtu : Rtu) (a : Extent),
    rtu.conflicts a = true ↔ ∃ x ∈ rtu.release ++ rtu.deferred.map Deferred.extent, x.overlaps a = true)
  ∧ ∀ (s : State) (i : Nat) (e : CommitEntry) (it : Item), i < 8 →
    let x := s.stream i
    let owed (j : Item) : Bool := match j.kind with | .pending _ => false | _ => true
    let l : Loc := { bay := e.bay, block := e.block }
    let u := s.setStream i { x with outstanding := x.outstanding.filter fun j => !(owed j && decide (j.ordinal = e.ordinal)) }
    (x.state = .closed → commitEntry i e s = (.state, s))
      ∧ (x.state ≠ .closed → (∀ j ∈ x.outstanding, owed j = true → j.ordinal ≠ e.ordinal) →
          commitEntry i e s = (.badField, s))
      ∧ (x.state ≠ .closed → x.outstanding.find? (fun j => owed j && decide (j.ordinal = e.ordinal)) = some it →
          (1 < e.result → commitEntry i e s = (.badField, s))
            ∧ (e.result = 0 → (e.bay ≠ x.bay ∨ 17179869184 ≤ e.block) → commitEntry i e s = (.badField, s))
            ∧ (e.result = 1 ∨ e.result = 0 ∧ e.bay = x.bay ∧ e.block < 17179869184 →
                let fit (length : Nat) : Prop := e.result = 0 ∧ s.rtu.conflicts (l.extent length) = false
                let done (t : State) : Prop :=
                  commitEntry i e s = (.ok, (List.range 8).foldl (fun v k =>
                    if (v.stream k).state = .finishing ∧ (v.stream k).outstanding = [] then completeStream k v else v) t)
                (∀ h, it.kind = .owedNew h →
                    let c := s.chunk h
                    (fit c.length →
                        done (settleHandle h (u.setChunk h { c with state := .present, loc := some l, writer := none })))
                      ∧ (¬ fit c.length →
                        done (haltStream i .writeFailed (refundPayer c.payer c.length
                          (u.setChunk h { c with state := .needsWriter, writer := none, payer := none })))))
                  ∧ (∀ d length, it.kind = .owedPrivate d length →
                    let o := s.object x.object
                    (fit length →
                        done (u.setObject x.object { o with recipe := o.recipe.modify it.ordinal (locateRef l) }))
                      ∧ (¬ fit length → done (haltStream i .writeFailed u)))
                  ∧ ∀ h old, it.kind = .owedRewrite h → (s.chunk h).loc = some old →
                    let c := s.chunk h
                    let fits : Prop := fit c.length ∧ (l.extent c.length).overlaps (old.extent c.length) = false
                    let back := { s.rtu with reserved := s.rtu.reserved - 1 }
                    (fits →
                        let v := { u.setChunk h { c with state := .present, loc := some l, writer := none } with
                          rtu := { back with
                            deferred := s.rtu.deferred ++ [{ extent := old.extent c.length, tag := s.rpb.epoch }] } }
                        done (settleHandle h (makeDeferredCheck v)))
                      ∧ (¬ fits →
                        done (settleHandle h
                          { u.setChunk h { c with state := .damaged, writer := none } with rtu := back }))))

/-- R13, R44, R60, R61, R91, R100: STREAM_FINISH keeps the response and frees the place; with nothing outstanding the
stream completes: the object COMPLETE and a member in the reserved slot, the hold released, the context CLOSED, the
deferred OK sent. R43: a stream number above 7 or a payload is BAD_FIELD, before the stream's state is looked at.
The empty result of STREAM_FINISH (assumption 10) and a STREAM_COMPLETION with nothing to complete (assumption 1) are
the model's choice. -/
def Obligations.StreamFinishAndCompletion : Prop :=
  (∀ (s : State) (r : Request), Offered s .streamFinish r → Changeable s →
    RefusedFirst .streamFinish s r
      [(7 < r.aux.toNat ∨ r.payload ≠ [], .badField), ((s.stream r.aux.toNat).state ≠ .ended, .state)])
  ∧ (∀ (s : State) (r : Request) (i : Nat), Offered s .streamFinish r → Changeable s → r.aux.toNat = i → i < 8 →
    r.payload = [] →
    ((s.stream i).state ≠ .ended → Refused .streamFinish s r .state)
      ∧ ((s.stream i).state = .ended →
          let u := { s.quiet.setStream i { s.stream i with state := .finishing } with
            slc := { s.quiet.slc with
              places := s.slc.places.filter fun p => decide (p.slot ≠ r.slot)
              deferred := put s.slc.deferred i (some (r.tag, r.aux)) } }
          Ends .streamFinish s (if (s.stream i).outstanding = [] then completeStream i u else u)))
  ∧ (∀ (s : State) (i : Fin 8),
      ((s.stream i).state = .finishing → (s.stream i).outstanding = [] →
          Ends (.streamCompletion i) s (completeStream i s.quiet))
        ∧ ((s.stream i).state ≠ .finishing ∨ (s.stream i).outstanding ≠ [] →
          Ends (.streamCompletion i) s s.quiet))
  ∧ (∀ (n : Nat) (l : List Nat), l.Pairwise (· < ·) →
      (insertMember n l).Pairwise (· < ·) ∧ ∀ m, m ∈ insertMember n l ↔ m = n ∨ m ∈ l)
  ∧ ∀ (s : State) (i : Nat), i < 8 →
    let x := s.stream i
    let o := s.object x.object
    let c := s.coll x.collection
    let members := insertMember x.object c.members
    let pages (slots : Nat) := (slots + 63) / 64
    let free := s.oct.freePages + pages (c.members.length + c.reserved) - pages (members.length + (c.reserved - 1))
    let done : State :=
      { s with
        oct :=
          { objects := Table.write Obj.free s.oct.objects x.object { o with state := .complete, length := x.position, holders := 1 }
            colls := Table.write Coll.free s.oct.colls x.collection { c with members := members, reserved := c.reserved - 1 }
            freePages := free }
        bpc := if x.bayHeld = true then s.bpc.release s.slc.settings .stream x.bay else s.bpc
        streams := put s.streams i Stream.closed }
    (slot none s.slc.deferred i = none → completeStream i s = done)
      ∧ ∀ tag aux, slot none s.slc.deferred i = some (tag, aux) →
          completeStream i s =
            { done with slc := { s.slc with
              deferred := put s.slc.deferred i none
              outgoing := s.slc.outgoing ++ [.response none tag aux [0x00#8, 0x23#8]] } }

/-- R64, R84, R92, R97, R111: STREAM_ABORT: the answer from the context before it, the response of a deferred finish, then what each
outstanding item releases, in list order, and the rest of the abort with the list emptied.
An object with no recorded chunk is freed at once; any other is handed on with an order, one whose recipe the dropped
references leave empty too: so the model reads R84's last sentence with R64 step 4 (assumption 25).
R43: a stream number above 7 or a payload is BAD_FIELD, before the stream's state is looked at. R111, R112: what the
appended order does at the walk.
The order of the two responses (assumption 20) and the length an aborted object keeps (assumption 21) are the model's
choice. -/
def Obligations.StreamAbort : Prop :=
  (∀ (s : State) (r : Request), Offered s .streamAbort r → Changeable s →
    RefusedFirst .streamAbort s r
      [(7 < r.aux.toNat ∨ r.payload ≠ [], .badField), ((s.stream r.aux.toNat).state = .closed, .state)])
  ∧ (∀ (s : State) (n : Nat), ObjectOrderJoins s n (appendOrder (.object n) s))
  ∧ (∀ (s : State) (r : Request) (i : Nat), Offered s .streamAbort r → Changeable s → r.aux.toNat = i → i < 8 →
    r.payload = [] →
    let x := s.stream i
    let owed := (x.outstanding.filter fun j => match j.kind with | .pending _ => false | _ => true).length
    (x.state = .closed → Refused .streamAbort s r .state)
      ∧ (x.state ≠ .closed →
          Answers .streamAbort s r .ok
            (le 1 i ++ le 3 x.object ++ [(if x.ordinal ≠ 0 then 1#8 else 0#8)] ++ le 1 owed) (abortStream i s.quiet)))
  ∧ (∀ (s : State) (i ordinal dropped : Nat),
    let x := s.stream i
    let o := s.object x.object
    let pages (slots : Nat) := (slots + 63) / 64
    let item (k : ItemKind) : Item := { ordinal := ordinal, kind := k }
    (∀ h, abortItem i (dropped, s) (item (.pending h)) = (dropped, s))
      ∧ (∀ h, let c := s.chunk h
          abortItem i (dropped, s) (item (.owedNew h)) =
            (dropped, refundPayer c.payer c.length
              (s.setChunk h { c with state := .needsWriter, writer := none, payer := none })))
      ∧ (∀ h, abortItem i (dropped, s) (item (.owedRewrite h)) =
            (dropped, settleHandle h
              { s.setChunk h { s.chunk h with state := .damaged, writer := none } with
                rtu := { s.rtu with reserved := s.rtu.reserved - 1 } }))
      ∧ ∀ d length, let rest := o.recipe.eraseIdx (ordinal - dropped)
          abortItem i (dropped, s) (item (.owedPrivate d length)) =
            (dropped + 1, refund x.client x.generation length
              { s with oct := { s.oct with
                objects := Table.write Obj.free s.oct.objects x.object { o with recipe := rest }
                freePages := s.oct.freePages + pages (recipeSlots o.recipe) - pages (recipeSlots rest) } }))
  ∧ (∀ (s : State) (i : Nat) (tag : Byte) (aux : Half), i < 8 → slot none s.slc.deferred i = some (tag, aux) →
    abortStream i s = abortStream i
      { s with slc := { s.slc with
        deferred := put s.slc.deferred i none
        outgoing := s.slc.outgoing ++ [.response none tag aux [0x17#8, 0x23#8]] } })
  ∧ (∀ (s : State) (i : Nat), i < 8 → slot none s.slc.deferred i = none →
    let released := ((s.stream i).outstanding.foldl (abortItem i) (0, s)).2
    let emptied := released.setStream i { released.stream i with outstanding := [] }
    abortStream i s = abortStream i emptied ∧ emptied.stream i = { s.stream i with outstanding := [] }
      ∧ slot none emptied.slc.deferred i = none ∧ (s.TablesSound → emptied.TablesSound))
  ∧ ∀ (s : State) (i : Nat), i < 8 → s.TablesSound → (s.stream i).outstanding = [] →
    slot none s.slc.deferred i = none →
    let x := s.stream i
    let o := s.object x.object
    let c := s.coll x.collection
    let pages (slots : Nat) := (slots + 63) / 64
    let free := s.oct.freePages + pages (c.members.length + c.reserved) - pages (c.members.length + (c.reserved - 1))
    let colls := Table.write Coll.free s.oct.colls x.collection { c with reserved := c.reserved - 1 }
    let bpc := if x.bayHeld = true then s.bpc.release s.slc.settings .stream x.bay else s.bpc
    (x.ordinal = 0 → o.recipe = [] →
        abortStream i s =
          { s with
            oct := { objects := Table.write Obj.free s.oct.objects x.object Obj.free, colls := colls, freePages := free }
            bpc := bpc, streams := put s.streams i Stream.closed })
      ∧ (x.ordinal ≠ 0 →
        let handed := appendOrder (.object x.object)
          { s with oct :=
            { objects := Table.write Obj.free s.oct.objects x.object { o with state := .retiring, holders := 0 }
              colls := colls, freePages := free } }
        abortStream i s = { handed with bpc := bpc, streams := put s.streams i Stream.closed })

/-! ### Collections and members -/

/-- R101, R102, R103, R111, R112, R136, R177: opening, closing and retiring a collection, each answered with its record
after it. A closed snapshot advances the schedule of the owner it names by the least k of periods that passes S.
The refusals of each after the gate, in order. R111, R112, R116: an IDLE walk takes the order of a retired collection at
once. -/
def Obligations.CollectionRequests : Prop :=
  (∀ (s : State) (r : Request), Changeable s →
    let p := r.payload
    let c := byteAt p 0
    let l := s.coll (field p 0 2)
    (Offered s .collectionOpen r → RefusedFirst .collectionOpen s r
        [(p.length ≠ 2 ∨ 15 < c ∨ byteAt p 1 < 1 ∨ 2 < byteAt p 1, .badField), ((s.client c).active = false, .noSuch),
         ((s.client c).role = .viewer, .state), (Table.lowestFree 1024 s.oct.colls = none, .full)])
      ∧ (Offered s .collectionClose r → RefusedFirst .collectionClose s r
        [(p.length ≠ 2 ∨ 1023 < field p 0 2, .badField), (l.state = .free, .noSuch), (l.state = .retiring, .retiring),
         (l.kind = .album ∨ l.state = .closed, .state), (0 < l.reserved, .streamsOpen)])
      ∧ (Offered s .retireCollection r → RefusedFirst .retireCollection s r
        [(p.length ≠ 2 ∨ 1023 < field p 0 2, .badField), (l.state = .free, .noSuch), (l.state = .retiring, .retiring),
         (0 < l.reserved, .streamsOpen)]))
  ∧ (∀ (s : State) (r : Request) (c n : Nat) (kind : CollKind), Offered s .collectionOpen r → Changeable s →
    r.payload.length = 2 → byteAt r.payload 0 = c → c < 16 →
    (byteAt r.payload 1 = 1 ∧ kind = .snapshot ∨ byteAt r.payload 1 = 2 ∧ kind = .album) →
    (s.client c).active = true →
    ((s.client c).role = .viewer → Refused .collectionOpen s r .state)
      ∧ ((s.client c).role ≠ .viewer → Table.lowestFree 1024 s.oct.colls = none → Refused .collectionOpen s r .full)
      ∧ ((s.client c).role ≠ .viewer → Table.lowestFree 1024 s.oct.colls = some n →
          let t := s.quiet.setColl n
            { state := .open, kind := kind, owner := (c, (s.client c).generation), created := s.bck.boxTime, closed := none,
              members := [], reserved := 0 }
          Answers .collectionOpen s r .ok (t.collRecord n) t))
  ∧ (∀ (s : State) (r : Request) (n : Nat), Changeable s → r.payload.length = 2 → field r.payload 0 2 = n → n < 1024 →
    let l := s.coll n
    (Offered s .collectionClose r →
        (l.state = .free → Refused .collectionClose s r .noSuch)
          ∧ (l.state = .retiring → Refused .collectionClose s r .retiring)
          ∧ (l.state = .open → l.kind = .album → Refused .collectionClose s r .state)
          ∧ (l.state = .closed → Refused .collectionClose s r .state)
          ∧ (l.state = .open → l.kind = .snapshot → 0 < l.reserved → Refused .collectionClose s r .streamsOpen)
          ∧ (l.state = .open → l.kind = .snapshot → l.reserved = 0 →
            let u := s.quiet.setColl n { l with state := .closed, closed := some s.bck.boxTime }
            let t := advanceSchedule l.owner.1 l.owner.2 u
            Answers .collectionClose s r .ok (t.collRecord n) t))
      ∧ (Offered s .retireCollection r →
        (l.state = .free → Refused .retireCollection s r .noSuch)
          ∧ (l.state = .retiring → Refused .retireCollection s r .retiring)
          ∧ (l.state = .open ∨ l.state = .closed → 0 < l.reserved → Refused .retireCollection s r .streamsOpen)
          ∧ (l.state = .open ∨ l.state = .closed → l.reserved = 0 →
            let orders := s.rtu.orders ++ [.coll n]
            let u := { s.quiet.setColl n { l with state := .retiring } with
              grants := s.grants.filter fun g => !(g.2.live && decide (g.2.target = Target.album n)) }
            (s.rtu.walk ≠ .idle →
                let t := { u with rtu := { s.rtu with orders := orders } }
                Answers .retireCollection s r .ok (t.collRecord n) t)
              ∧ ∀ o, s.rtu.walk = .idle → orders.find? u.walkable = some o →
                let t := { u with
                  rtu := { s.rtu with orders := orders, current := some o, nested := none, walk := .walking } }
                Answers .retireCollection s r .ok (t.collRecord n) t)))
  ∧ ∀ (s : State) (c g : Nat), c < 16 →
    let x := s.client c
    (x.active = false ∨ x.generation ≠ g ∨ x.schedule = none → advanceSchedule c g s = s)
      ∧ ∀ (sch : Schedule) (k : Nat), x.active = true → x.generation = g → x.schedule = some sch → 1 ≤ k → 1 ≤ sch.period →
          let bar := s.bck.boxTime + sch.lead
          bar < sch.nextDue + k * (sch.period * 60) →
          (∀ j, 1 ≤ j → j < k → sch.nextDue + j * (sch.period * 60) ≤ bar) →
          let next := sch.nextDue + k * (sch.period * 60)
          let y := if 4294967295 < next then { x with schedule := none }
            else { x with schedule := some { sch with nextDue := next }, missed := min 255 (x.missed + (k - 1)) }
          advanceSchedule c g s = evaluateDue [c] (s.setClient c y)

/-- R91, R100, R104, R105, R106, R111: MEMBER_ADD and MEMBER_REMOVE take their entries in order, each whole before the
next, and what one entry does to the list, its pages, the holder count and, at the last holder, the retire orders.
The refusals of a whole batch: NO_SUCH, RETIRING, STATE; R111, R112: what the appended order does at the walk.
That an aux above 1,023 is BAD_FIELD, before these, is read from R11 and R12 (assumption 9). -/
def Obligations.MemberBatches : Prop :=
  (∀ (s : State) (r : Request), Changeable s →
    let c := r.aux.toNat
    let l := s.coll c
    (Offered s .memberAdd r → RefusedFirst .memberAdd s r
        [(1023 < c, .badField), (l.state = .free, .noSuch), (l.state = .retiring, .retiring),
         (l.kind = .snapshot, .state)])
      ∧ (Offered s .memberRemove r → RefusedFirst .memberRemove s r
        [(1023 < c, .badField), (l.state = .free, .noSuch), (l.state = .retiring, .retiring),
         (l.state = .closed, .state)]))
  ∧ (∀ (s : State) (n : Nat), ObjectOrderJoins s n (appendOrder (.object n) s))
  ∧ (∀ (s : State) (r : Request) (c : Nat), Changeable s → r.aux.toNat = c → c < 1024 →
    let l := s.coll c
    let done (i : Instr) (t : List Status × State) : Prop :=
      Answers i s r (if r.whole then .ok else .broken) (le 2 t.1.length ++ t.1.map Status.code) t.2
    (Offered s .memberAdd r → l.state = .open → l.kind = .album →
        done .memberAdd (memberEntries (memberAddEntry c) r.entries [] s.quiet))
      ∧ (Offered s .memberAdd r → l.state = .open → l.kind = .snapshot → Refused .memberAdd s r .state)
      ∧ (Offered s .memberRemove r → l.state = .open →
        done .memberRemove (memberEntries (memberRemoveEntry c) r.entries [] s.quiet))
      ∧ (Offered s .memberRemove r → l.state = .closed → Refused .memberRemove s r .state))
  ∧ (∀ (one : Nat → State → Status × State) (s : State) (e : List Byte) (es : List (List Byte)) (sts : List Status),
    memberEntries one [] sts s = (sts, s)
      ∧ memberEntries one (e :: es) sts s =
          memberEntries one es (sts ++ [(one (field e 0 4) s).1]) (one (field e 0 4) s).2)
  ∧ ∀ (s : State) (c n : Nat),
    let l := s.coll c
    let o := s.object n
    let pages (slots : Nat) := (slots + 63) / 64
    let used := l.members.length + l.reserved
    let changed (members : List Nat) (x : Obj) : State :=
      { s with oct :=
        { objects := Table.write Obj.free s.oct.objects n x
          colls := Table.write Coll.free s.oct.colls c { l with members := members }
          freePages := s.oct.freePages + pages used - pages (members.length + l.reserved) } }
    (1048576 ≤ n → memberAddEntry c n s = (.badField, s) ∧ memberRemoveEntry c n s = (.badField, s))
      ∧ (n < 1048576 →
        (o.state = .free → memberAddEntry c n s = (.noSuch, s))
          ∧ (o.state = .building → memberAddEntry c n s = (.state, s))
          ∧ (o.state = .retiring → memberAddEntry c n s = (.retiring, s))
          ∧ (o.state = .complete → n ∈ l.members → memberAddEntry c n s = (.already, s))
          ∧ (o.state = .complete → n ∉ l.members → 262144 ≤ used → memberAddEntry c n s = (.full, s))
          ∧ (o.state = .complete → n ∉ l.members → used < 262144 → pages used + s.oct.freePages < pages (used + 1) →
              memberAddEntry c n s = (.poolFull, s))
          ∧ (o.state = .complete → n ∉ l.members → used < 262144 → pages (used + 1) ≤ pages used + s.oct.freePages →
              memberAddEntry c n s = (.ok, changed (insertMember n l.members) { o with holders := o.holders + 1 }))
          ∧ (n ∉ l.members → memberRemoveEntry c n s = (.noSuch, s))
          ∧ (n ∈ l.members →
              let members := l.members.filter fun m => decide (m ≠ n)
              (1 < o.holders →
                  memberRemoveEntry c n s = (.ok, changed members { o with holders := o.holders - 1 }))
                ∧ (o.holders = 1 → o.state = .complete →
                  memberRemoveEntry c n s =
                    (.ok, appendOrder (.object n) (changed members { o with holders := 0, state := .retiring })))))

/-! ### The Retirement Unit -/

/-- R106, R111 to R115, R118: the steps of the walk. A step is taken in WALKING alone; each has its effect exactly where
the walk stands at it. First, which order is walkable and what taking the oldest such order does (R111, R112), and how a
recipe is replaced with its pages (R91).
A step at which the walk does not stand leaves the state as it is (assumption 1). -/
def Obligations.WalkSteps : Prop :=
  (∀ u : State,
    (∀ o, u.rtu.orders.find? u.walkable = some o →
        takeOldest u = { u with rtu := { u.rtu with current := some o, nested := none, walk := .walking } })
      ∧ (u.rtu.orders.find? u.walkable = none →
        takeOldest u = { u with rtu := { u.rtu with current := none, nested := none, walk := .idle } })
      ∧ (∀ c, u.walkable (.coll c) = true) ∧ (∀ n, u.walkable (.object n) = true ↔ (u.object n).planHolds = 0)
      ∧ ∀ n recipe,
        let o := u.object n
        let pages (l : List Ref) := (recipeSlots l + 63) / 64
        setRecipe n recipe u =
          { u with oct := { u.oct with
            objects := Table.write Obj.free u.oct.objects n { o with recipe := recipe }
            freePages := u.oct.freePages + pages o.recipe - pages recipe } })
  ∧ ∀ s : State, s.tiu.load = .loaded → s.tiu.exporting = false → s.TablesSound →
    let walk := s.rtu
    let inColl (c : Nat) : Prop := walk.current = some (.coll c) ∧ walk.nested = none
    let inObject (n : Nat) : Prop := walk.nested = some n ∨ walk.nested = none ∧ walk.current = some (.object n)
    (∀ o, walk.walk = .idle → walk.orders.find? s.walkable = some o →
        Ends .walkOrderTake s
          { s.quiet with rtu := { walk with current := some o, nested := none, walk := .walking } })
      ∧ (walk.walk ≠ .idle ∨ walk.orders.find? s.walkable = none → Ends .walkOrderTake s s.quiet)
      ∧ (walk.walk ≠ .walking →
          ∀ i ∈ [Instr.memberRemoval, .referenceRemoval, .objectFree, .collectionFree], Ends i s s.quiet)
      ∧ ((∀ c, inColl c → (s.coll c).members = []) → Ends .memberRemoval s s.quiet)
      ∧ ((∀ n, inObject n → (s.object n).recipe = []) → Ends .referenceRemoval s s.quiet)
      ∧ ((∀ n, inObject n → (s.object n).recipe ≠ []) → Ends .objectFree s s.quiet)
      ∧ ((∀ c, inColl c → (s.coll c).members ≠ []) → Ends .collectionFree s s.quiet)
      ∧ (∀ c n rest, walk.walk = .walking → inColl c → (s.coll c).members = n :: rest → n ∉ rest →
          let l := s.coll c
          let o := s.object n
          let pages (slots : Nat) := (slots + 63) / 64
          let out (x : Obj) (rtu : Rtu) : State :=
            { s.quiet with
              oct :=
                { objects := Table.write Obj.free s.oct.objects n x
                  colls := Table.write Coll.free s.oct.colls c { l with members := rest }
                  freePages :=
                    s.oct.freePages + pages (rest.length + 1 + l.reserved) - pages (rest.length + l.reserved) }
              rtu := rtu }
          (1 < o.holders → Ends .memberRemoval s (out { o with holders := o.holders - 1 } walk))
            ∧ (o.holders = 1 → o.planHolds = 0 →
                Ends .memberRemoval s (out { o with holders := 0, state := .retiring } { walk with nested := some n }))
            ∧ (o.holders = 1 → 0 < o.planHolds →
                Ends .memberRemoval s
                  (out { o with holders := 0, state := .retiring } { walk with orders := walk.orders ++ [.object n] })))
      ∧ (∀ n ref rest, walk.walk = .walking → inObject n → (s.object n).recipe = ref :: rest →
          let adds := match ref with | .indexed _ => true | .priv l _ _ _ => l.isSome
          (adds = true → 4096 ≤ walk.release.length →
              Ends .referenceRemoval s { s.quiet with rtu := { walk with walk := .paused } })
            ∧ (adds = false ∨ walk.release.length < 4096 →
              let u := setRecipe n rest s.quiet
              match ref with
              | .indexed h => Ends .referenceRemoval s (decrement h u)
              | .priv l length _ _ =>
                Ends .referenceRemoval s
                  (refund (s.object n).owner.1 (s.object n).owner.2 length
                    { u with rtu := { walk with release := walk.release ++ (l.map fun x => x.extent length).toList } })))
      ∧ (∀ n, walk.walk = .walking → (s.object n).recipe = [] →
          let u := s.quiet.setObject n Obj.free
          (walk.nested = some n → Ends .objectFree s { u with rtu := { walk with nested := none } })
            ∧ (walk.nested = none → walk.current = some (.object n) →
              Ends .objectFree s
                (takeOldest { u with rtu := { walk with orders := walk.orders.filter fun p => decide (p ≠ .object n) } })))
      ∧ (∀ c, walk.walk = .walking → inColl c → (s.coll c).members = [] →
          Ends .collectionFree s
            (takeOldest
              { s.quiet with
                oct :=
                  { s.oct with
                    colls := Table.write Coll.free s.oct.colls c Coll.free
                    freePages := s.oct.freePages + ((s.coll c).reserved + 63) / 64 }
                rtu := { walk with orders := walk.orders.filter fun p => decide (p ≠ .coll c) } }))

/-- R34, R35: a charge to a pair that names no ACTIVE record of that generation, or that would pass the quota, changes
nothing; another adds its length. A refund to such a pair is dropped; another takes its length off, down to 0.
R34, R35, R85: a decrement of an entry: pinned, above one, or the last, at which the entry is EMPTY, its location
joins the release list and its payer is refunded.
A charge to a pair that names no record is assumption 21. -/
def Obligations.ChargesRefundsAndDecrements : Prop :=
  (∀ (s : State) (c g n : Nat), c < 16 →
    let x := s.client c
    (¬ (x.active = true ∧ x.generation = g) →
        s.chargeAnswer c g n = .noSuch ∧ charge c g n s = s ∧ refund c g n s = s)
      ∧ (x.active = true → x.generation = g →
          (∀ q, x.quota = some q → q * 1048576 < x.charged + n →
              s.chargeAnswer c g n = .quota ∧ charge c g n s = s)
            ∧ (∀ q, x.quota = none ∨ x.quota = some q ∧ x.charged + n ≤ q * 1048576 →
              s.chargeAnswer c g n = .ok ∧ charge c g n s = s.setClient c { x with charged := x.charged + n })
            ∧ refund c g n s = s.setClient c { x with charged := if x.charged < n then 0 else x.charged - n }
            ∧ ∀ k < 16, k ≠ c → (charge c g n s).client k = s.client k ∧ (refund c g n s).client k = s.client k))
  ∧ ∀ (s : State) (h : Nat),
    let e := s.chunk h
    (e.refcount = 16777215 → decrement h s = s)
      ∧ (1 < e.refcount → e.refcount ≠ 16777215 →
          decrement h s = s.setChunk h { e with refcount := e.refcount - 1 })
      ∧ (e.refcount = 1 →
          let u := { s with
            chunks := Table.erase s.chunks h
            rtu := { s.rtu with release := s.rtu.release ++ (e.loc.map fun l => l.extent e.length).toList } }
          (e.payer = none → decrement h s = u)
            ∧ ∀ c g, e.payer = some (c, g) → decrement h s = refund c g e.length u)

/-- R119, R122: RELEASE_TAKE hands over the head of the release list, makes the deferred check and lets a paused walk go
on; the deferred check moves extents from the oldest while no open plan's epoch is at or before the tag and the release
list has room. R119: another aux than 0 and 1, a payload of another length than 2 and a count outside 1 to 512 are BAD_FIELD
(that this row takes the values of aux above 1 is assumption 7).
That the paused step is taken in the same event is read from R119 (assumption 6). -/
def Obligations.ReleaseTakeAndDeferredCheck : Prop :=
  (∀ (s : State) (r : Request), Offered s .releaseTake r → Changeable s → r.aux ≠ 1#16 →
    RefusedFirst .releaseTake s r
      [(1 < r.aux.toNat ∨ r.payload.length ≠ 2 ∨ field r.payload 0 2 = 0 ∨ 512 < field r.payload 0 2, .badField)])
  ∧ (∀ (s : State) (r : Request) (n : Nat), Offered s .releaseTake r → Changeable s → r.aux = 0#16 →
    r.payload.length = 2 → field r.payload 0 2 = n → 1 ≤ n → n ≤ 512 →
    let taken := { s.quiet with rtu := { s.rtu with lastBatch := s.rtu.release.take n, release := s.rtu.release.drop n } }
    let checked := makeDeferredCheck taken
    let t := if s.rtu.walk = .paused ∧ checked.rtu.release.length < 4096 then
        referenceRemoval { checked with rtu := { checked.rtu with walk := .walking } }
      else checked
    Answers .releaseTake s r .ok
      (le 2 t.rtu.lastBatch.length ++ le 2 t.rtu.release.length ++ t.rtu.lastBatch.flatMap Extent.bytes) t)
  ∧ (∀ s : State, Ends .deferredCheck s (makeDeferredCheck s.quiet))
  ∧ (∀ s : State, s.tiu.load ≠ .loaded ∨ s.tiu.exporting = true → makeDeferredCheck s = s)
  ∧ ∀ s : State, s.tiu.load = .loaded → s.tiu.exporting = false →
    let held (tag : Epoch) : Prop := ∃ p < 16, (s.plan p).state ≠ .free ∧ (tag - (s.plan p).epoch).toNat < 2147483648
    ∃ k ≤ s.rtu.deferred.length,
      makeDeferredCheck s =
          { s with rtu := { s.rtu with
            deferred := s.rtu.deferred.drop k
            release := s.rtu.release ++ (s.rtu.deferred.take k).map Deferred.extent } }
        ∧ (∀ d ∈ s.rtu.deferred.take k, ¬ held d.tag)
        ∧ (0 < k → s.rtu.release.length + k ≤ 4096)
        ∧ ∀ d, s.rtu.deferred[k]? = some d → held d.tag ∨ 4096 ≤ s.rtu.release.length + k

/-! ### Grants -/

/-- R128, R129, R130, R137, R138: GRANT_SET takes its entries in order, each whole before the next, and places an entry
that passes in its scope's record or the lowest FREE one; an entry that fails a check is answered with that check's status
and leaves the records as they are. GRANT_CLEAR and GRANT_READ by number and by scope.
That the row GRANT_READ answers BAD_FIELD for a selector above 2, a form no row is for, is the model's choice
(assumption 7). -/
def Obligations.GrantRequests : Prop :=
  (∀ (s : State) (r : Request), Offered s .grantSet r → Changeable s → r.aux = 0#16 →
    let t := grantEntries r.entries [] s.quiet
    Answers .grantSet s r (if r.whole then .ok else .broken) (le 2 t.1.length ++ t.1.map Status.code) t.2)
  ∧ (∀ (s : State) (e : List Byte) (es : List (List Byte)) (sts : List Status),
    grantEntries [] sts s = (sts, s)
      ∧ grantEntries (e :: es) sts s = grantEntries es (sts ++ [(grantEntry e s).1]) (grantEntry e s).2)
  ∧ (∀ (s : State) (who : Grantee) (on : Target) (n : Nat),
    let scope (p : Nat × Grant) : Prop := p.2.live = true ∧ p.2.grantee = who ∧ p.2.target = on
    (s.grantOf who on = none ↔ ∀ p ∈ s.grants, ¬ scope p)
      ∧ (s.grantOf who on = some n → ∃ g, (n, g) ∈ s.grants ∧ scope (n, g)))
  ∧ (∀ (s : State) (e : List Byte),
    ¬ (byteAt e 0 < 16 ∨ byteAt e 0 = 255)
      ∨ ¬ (byteAt e 1 = 1 ∧ field e 2 2 < 1024 ∨ byteAt e 1 = 2 ∧ field e 2 2 < 16) ∨ 3 < byteAt e 4 ∨ 1 < byteAt e 9 →
    grantEntry e s = (.badField, s))
  ∧ (∀ (s : State) (e : List Byte) (who : Grantee) (on : Target) (mode : Mode),
    (byteAt e 0 = 255 ∧ who = .anyViewer ∨ byteAt e 0 < 16 ∧ who = .client (byteAt e 0)) →
    (byteAt e 1 = 1 ∧ field e 2 2 < 1024 ∧ on = .album (field e 2 2)
      ∨ byteAt e 1 = 2 ∧ field e 2 2 < 16 ∧ on = .allOf (field e 2 2)) →
    (byteAt e 4 = 0 ∧ mode = .deny ∨ byteAt e 4 = 1 ∧ mode = .inWindow ∨ byteAt e 4 = 2 ∧ mode = .outOfWindow
      ∨ byteAt e 4 = 3 ∧ mode = .allow) →
    byteAt e 9 ≤ 1 →
    let g : Grant :=
      { live := true, grantee := who, target := on, mode := mode, windowStart := min (field e 5 2) 1439,
        windowEnd := min (field e 7 2) 1439, expiry := if byteAt e 9 = 1 then some (field e 10 4) else none }
    ((∃ c, who = .client c ∧ (s.client c).active = false) → grantEntry e s = (.noSuch, s))
      ∧ ((∀ c, who = .client c → (s.client c).active = true) →
          (∀ c, on = .allOf c → (s.client c).active = false → grantEntry e s = (.noSuch, s))
            ∧ ∀ a, on = .album a →
              ((s.coll a).state = .free → grantEntry e s = (.noSuch, s))
                ∧ ((s.coll a).state ≠ .free → (s.coll a).kind = .snapshot → grantEntry e s = (.state, s))
                ∧ ((s.coll a).state = .retiring → (s.coll a).kind = .album → grantEntry e s = (.retiring, s)))
      ∧ ((∀ c, who = .client c → (s.client c).active = true) →
          (∀ c, on = .allOf c → (s.client c).active = true) →
          (∀ a, on = .album a → (s.coll a).state ≠ .free ∧ (s.coll a).state ≠ .retiring ∧ (s.coll a).kind = .album) →
          (∀ n, s.grantOf who on = some n → grantEntry e s = (.ok, s.setGrant n g))
            ∧ (∀ n, s.grantOf who on = none → Table.lowestFree 256 s.grants = some n →
                grantEntry e s = (.ok, s.setGrant n g))
            ∧ (s.grantOf who on = none → Table.lowestFree 256 s.grants = none → grantEntry e s = (.full, s))))
  ∧ (∀ (s : State) (r : Request),
    let p := r.payload
    let noScope : Prop := byteAt p 0 = 1 ∧
      ¬ ((byteAt p 1 < 16 ∨ byteAt p 1 = 255) ∧ (byteAt p 2 = 1 ∧ field p 3 2 < 1024 ∨ byteAt p 2 = 2 ∧ field p 3 2 < 16))
    (Offered s .grantClear r → Changeable s → p.length ≠ 5 ∨ 1 < byteAt p 0 ∨ noScope →
        Refused .grantClear s r .badField)
      ∧ (Offered s .grantRead r → Readable s → byteAt p 0 ≠ 2 →
        p.length ≠ 5 ∨ 1 < byteAt p 0 ∨ byteAt p 0 = 0 ∧ (field p 2 2 = 0 ∨ 256 < field p 2 2) ∨ noScope →
        Refused .grantRead s r .badField))
  ∧ ∀ (s : State) (r : Request) (n : Nat) (who : Grantee) (on : Target), r.payload.length = 5 →
    let p := r.payload
    let byScope : Prop :=
      (byteAt p 1 = 255 ∧ who = .anyViewer ∨ byteAt p 1 < 16 ∧ who = .client (byteAt p 1))
        ∧ (byteAt p 2 = 1 ∧ field p 3 2 < 1024 ∧ on = .album (field p 3 2)
          ∨ byteAt p 2 = 2 ∧ field p 3 2 < 16 ∧ on = .allOf (field p 3 2))
    (Offered s .grantClear r → Changeable s →
        (byteAt p 0 = 0 → byteAt p 1 = n → (s.grant n).live = true →
            Answers .grantClear s r .ok (s.grantRecord n) (s.quiet.setGrant n Grant.free))
          ∧ (byteAt p 0 = 0 → byteAt p 1 = n → (s.grant n).live = false → Refused .grantClear s r .noSuch)
          ∧ (byteAt p 0 = 1 → byScope → s.grantOf who on = some n →
            Answers .grantClear s r .ok (s.grantRecord n) (s.quiet.setGrant n Grant.free))
          ∧ (byteAt p 0 = 1 → byScope → s.grantOf who on = none → Refused .grantClear s r .noSuch))
      ∧ (Offered s .grantRead r → Readable s →
        (byteAt p 0 = 0 → 1 ≤ field p 2 2 → field p 2 2 ≤ 256 →
            let ns := List.range' (byteAt p 1) (min (field p 2 2) (256 - byteAt p 1))
            Answers .grantRead s r .ok (le 2 ns.length ++ ns.flatMap s.grantRecord) s.quiet)
          ∧ (byteAt p 0 = 1 → byScope → s.grantOf who on = some n →
            Answers .grantRead s r .ok (le 2 1 ++ s.grantRecord n) s.quiet)
          ∧ (byteAt p 0 = 1 → byScope → s.grantOf who on = none → Refused .grantRead s r .noSuch))

/-- R131, R132, R133, R134: a local minute inside a window, and the access decision: the owner, else the first of the four
scopes with a grant in force, by its mode.
R139: GRANT_READ with selector 2 answers the decision for a reader and an album and applies it to nothing. -/
def Obligations.AccessDecisionAndItsReading : Prop :=
  ((∀ start stop : Nat, start < 1440 → stop < 1440 →
    let size := ((List.range 1440).filter fun m => insideWindow start stop m).length
    (start < stop → (∀ m < 1440, insideWindow start stop m = true ↔ start ≤ m ∧ m < stop) ∧ size = stop - start)
      ∧ (stop < start →
          (∀ m < 1440, insideWindow start stop m = true ↔ start ≤ m ∨ m < stop) ∧ size = 1440 - start + stop)
      ∧ (start = stop → ∀ m < 1440, insideWindow start stop m = false))
  ∧ ∀ (s : State) (c a o : Nat), s.TablesSound → s.GrantsSound →
    let inForce (k n : Nat) (g : Grant) : Prop :=
      (n, g) ∈ s.grants ∧ g.live = true ∧ (∀ e, g.expiry = some e → s.bck.boxTime < e)
        ∧ g.grantee = (if k = 1 ∨ k = 2 then .client c else .anyViewer)
        ∧ g.target = (if k = 1 ∨ k = 3 then .album a else .allOf o)
    (c = o → s.decision c a o = { allowed := true, basis := .owner })
      ∧ (c ≠ o → (∀ k ∈ [1, 2, 3, 4], ∀ n g, ¬ inForce k n g) →
          s.decision c a o = { allowed := false, basis := .noGrant })
      ∧ ∀ k n g, c ≠ o → k ∈ [1, 2, 3, 4] → inForce k n g → (∀ j, 1 ≤ j → j < k → ∀ m x, ¬ inForce j m x) →
          (g.mode = .deny → s.decision c a o = { allowed := false, basis := .grant n k })
            ∧ (g.mode = .allow → s.decision c a o = { allowed := true, basis := .grant n k })
            ∧ (g.mode = .inWindow →
                s.decision c a o =
                  { allowed := insideWindow g.windowStart g.windowEnd s.minute, basis := .grant n k })
            ∧ (g.mode = .outOfWindow →
                s.decision c a o =
                  { allowed := !insideWindow g.windowStart g.windowEnd s.minute, basis := .grant n k }))
  ∧ ∀ (s : State) (r : Request) (c a : Nat), Offered s .grantRead r → Readable s → r.payload.length = 5 →
    byteAt r.payload 0 = 2 → byteAt r.payload 1 = c → c < 16 → field r.payload 2 2 = a → a < 1024 →
    let l := s.coll a
    let d := s.decision c a l.owner.1
    let tail := le 4 s.bck.boxTime ++ le 2 s.minute
    let yes := if d.allowed then 1#8 else 0#8
    ((s.client c).active = false → Refused .grantReadDecision s r .noSuch)
      ∧ ((s.client c).active = true →
          (l.state = .free → Refused .grantReadDecision s r .noSuch)
            ∧ (l.state ≠ .free → l.kind = .snapshot → Refused .grantReadDecision s r .state)
            ∧ (l.state = .retiring → l.kind = .album → Refused .grantReadDecision s r .retiring)
            ∧ (l.state = .open ∨ l.state = .closed → l.kind = .album →
                (d.basis = .owner →
                    Answers .grantReadDecision s r .ok ([yes, 0#8, 0xFF#8, 0#8] ++ tail ++ [0#8]) s.quiet)
                  ∧ (d.basis = .noGrant →
                    Answers .grantReadDecision s r .ok ([yes, 2#8, 0xFF#8, 0#8] ++ tail ++ [0#8]) s.quiet)
                  ∧ ∀ n k, d.basis = .grant n k →
                    let inside := insideWindow (s.grant n).windowStart (s.grant n).windowEnd s.minute
                    Answers .grantReadDecision s r .ok
                      ([yes, 1#8, BitVec.ofNat 8 n, BitVec.ofNat 8 k] ++ tail ++ [(if inside then 1#8 else 0#8)]) s.quiet))

/-! ### Read plans -/

/-- R107, R142 to R146, R88: PLAN_OPEN past its checks takes the lowest FREE slot, the next epoch and a hold on the object,
or is DENIED; a scan step reads one reference, and the last ends the scan with the holds in ascending bay number.
R143: the refusals of steps 2 to 6, in order.
R146, R149, R156: the end of a scan, in whatever state the plan is and whatever bays a fetch gave it: one hold on each
scanned bay that the plan does not hold and that is not EMPTY, in ascending number; BAY_LOST if one was EMPTY or the plan
was in BAY_LOST, READY if every held bay is READY, else WAITING; PLAN_READY is not latched.
The state byte of PLAN_OPEN and the record of a DENIED for a snapshot are the model's reading (assumption 17); a scan
step with no scan is assumption 1. -/
def Obligations.PlanOpenAndScanToItsEnd : Prop :=
  (∀ (s : State) (r : Request), Offered s .planOpen r → Readable s →
    let c := byteAt r.payload 0
    let k := field r.payload 1 2
    let n := field r.payload 3 4
    let l := s.coll k
    RefusedFirst .planOpen s r
      [(r.payload.length ≠ 7 ∨ 15 < c ∨ 1023 < k ∨ 1048575 < n, .badField),
       (s.bxp.power ≠ .run, .state),
       (∀ p < 16, (s.plan p).state ≠ .free, .full),
       ((s.client c).active = false, .noSuch),
       (¬ ((l.state = .open ∨ l.state = .closed) ∧ (s.object n).state = .complete ∧ n ∈ l.members), .noSuch)])
  ∧ ((∀ (s : State) (r : Request) (p : Nat),
    let c := byteAt r.payload 0
    let k := field r.payload 1 2
    let n := field r.payload 3 4
    let l := s.coll k
    let o := s.object n
    Offered s .planOpen r → Readable s → s.bxp.power = .run → r.payload.length = 7 → c < 16 → k < 1024 → n < 1048576 →
    p < 16 → (s.plan p).state = .free → (∀ j < p, (s.plan j).state ≠ .free) → (s.client c).active = true →
    (l.state = .open ∨ l.state = .closed) → o.state = .complete → n ∈ l.members →
    let d := s.decision c k l.owner.1
    let refusal : Decision := { allowed := false, basis := .noGrant }
    let slot_ (state : PlanState) (pos : Option Nat) (bays : Option (BitVec 4)) : Plan :=
      { state := state, client := c, object := n, epoch := s.rpb.epoch + 1, heldBays := 0, scanPos := pos, scanBays := bays,
        check := none }
    let t : State :=
      { s.quiet.setObject n { o with planHolds := o.planHolds + 1 } with
        rpb :=
          { plans := put s.rpb.plans p (if o.recipe = [] then slot_ .ready none none else slot_ .scanning (some 0) (some 0))
            epoch := s.rpb.epoch + 1 } }
    let result := le 1 p ++ [1#8] ++ le 4 (s.rpb.epoch + 1).toNat ++ le 6 o.length ++ le 4 o.recipe.length
    (l.kind = .snapshot → c = l.owner.1 → Answers .planOpen s r .ok result t)
      ∧ (l.kind = .snapshot → c ≠ l.owner.1 → Answers .planOpen s r .denied (s.decisionRecord refusal) s.quiet)
      ∧ (l.kind = .album → d.allowed = true → Answers .planOpen s r .ok result t)
      ∧ (l.kind = .album → d.allowed = false → Answers .planOpen s r .denied (s.decisionRecord d) s.quiet))
  ∧ (∀ (s : State) (p : Fin 16), (s.plan p).scanPos = none → Ends (.scanStep p) s s.quiet)
  ∧ ∀ (s : State) (p : Fin 16) (pos : Nat) (bays : BitVec 4) (ref : Ref), (s.plan p).scanPos = some pos →
    (s.plan p).scanBays = some bays → (s.object (s.plan p).object).recipe[pos]? = some ref →
    let x := s.plan p
    let loc := match ref with | .indexed h => (s.chunk h).loc | .priv l _ _ _ => l
    let read := match loc with | some l => bays ||| (1#4 <<< l.bay) | none => bays
    let u := s.quiet.setPlan p { x with scanPos := some (pos + 1), scanBays := some read }
    (pos + 1 < (s.object x.object).recipe.length → Ends (.scanStep p) s u)
      ∧ (pos + 1 = (s.object x.object).recipe.length → Ends (.scanStep p) s (scanEnd p u)))
  ∧ ∀ (s : State) (p : Nat) (bays : BitVec 4), p < 16 → (s.plan p).scanBays = some bays →
    let x := s.plan p
    let fresh (i : Nat) : Bool := bays.getLsbD i && !x.heldBays.getLsbD i
    let placed := (List.range 4).filter fun i => fresh i && decide ((s.bay i).state ≠ .empty)
    let lost : Prop := x.state = .bayLost ∨ ∃ i < 4, fresh i = true ∧ (s.bay i).state = .empty
    ∃ (set : BitVec 4) (state : PlanState),
      (∀ i < 4, set.getLsbD i = (x.heldBays.getLsbD i || decide (i ∈ placed)))
        ∧ scanEnd p s =
          { s with
            bpc := placed.foldl (fun b i => b.hold s.slc.settings .plan i) s.bpc
            rpb.plans := put s.rpb.plans p { x with state := state, heldBays := set, scanPos := none, scanBays := none } }
        ∧ (lost → state = .bayLost)
        ∧ (¬ lost → (∀ i < 4, set.getLsbD i = true → ((scanEnd p s).bay i).state = .ready) → state = .ready)
        ∧ (¬ lost → (∃ i < 4, set.getLsbD i = true ∧ ((scanEnd p s).bay i).state ≠ .ready) → state = .waiting)

/-- R88, R107, R116, R122, R148, R149, R153, R157: PLAN_FETCH reads a run of the recipe and holds each new bay before the
next reference is read. A chunk's location and length are the entry's, its damaged flag is set in DAMAGED and REWRITING, and
an entry that becomes REWRITING still gives its old copy; a PRIVATE reference gives its own. PLAN_DONE releases the plan's
bays in ascending number, lowers plan_holds, frees the slot and makes the deferred check.
R141, R148: the refusals of both, in order; that the payload of a PLAN_DONE is checked before the slot is assumption 9.
That the high byte of aux may hold anything is the model's choice (assumption 24); a reference without a location and the
codes of the plan states but SCANNING are assumption 17. -/
def Obligations.PlanFetchAndDone : Prop :=
  (∀ (s : State) (r : Request), Readable s →
    let p := r.aux.toNat % 256
    let count := field r.payload 4 2
    (Offered s .planFetch r → RefusedFirst .planFetch s r
        [(15 < p ∨ r.payload.length ≠ 6 ∨ count = 0 ∨ 512 < count, .badField), ((s.plan p).state = .free, .state)])
      ∧ (Offered s .planDone r → RefusedFirst .planDone s r
        [(15 < p ∨ r.payload ≠ [], .badField), ((s.plan p).state = .free, .state)]))
  ∧ (∀ (s : State) (r : Request) (p : Nat), Readable s → r.aux.toNat % 256 = p → p < 16 →
    let x := s.plan p
    let code (state : PlanState) : Byte :=
      match state with | .free => 0 | .scanning => 1 | .waiting => 2 | .ready => 3 | .bayLost => 4
    let recipe := (s.object x.object).recipe
    (x.state = .free → r.payload = [] → Offered s .planDone r → Refused .planDone s r .state)
      ∧ (x.state = .free → r.payload.length = 6 → 1 ≤ field r.payload 4 2 → field r.payload 4 2 ≤ 512 →
          Offered s .planFetch r → Refused .planFetch s r .state)
      ∧ (x.state ≠ .free → r.payload.length = 6 → 1 ≤ field r.payload 4 2 → field r.payload 4 2 ≤ 512 →
          Offered s .planFetch r →
          let start := field r.payload 0 4
          let run := (recipe.drop start).take (field r.payload 4 2)
          let t := fetchRefs p start run [] s.quiet
          let y := t.2.plan p
          Answers .planFetch s r .ok
            ([code y.state] ++ le 1 y.heldBays.toNat ++ le 4 recipe.length ++ le 2 run.length
              ++ [(if start + run.length < recipe.length then 1#8 else 0#8)] ++ t.1) t.2)
      ∧ (x.state ≠ .free → r.payload = [] → Offered s .planDone r →
          Answers .planDone s r .ok (le 1 p ++ [code x.state]) (closePlan p s.quiet)))
  ∧ (∀ (s : State) (p k : Nat) (ref : Ref) (rest : List Ref) (out : List Byte),
    let loc := match ref with | .indexed h => (s.chunk h).loc | .priv l _ _ _ => l
    let length := match ref with | .indexed h => (s.chunk h).length | .priv _ n _ _ => n
    let damaged := match ref with
      | .indexed h => decide ((s.chunk h).state = .damaged ∨ (s.chunk h).state = .rewriting)
      | .priv _ _ _ mark => mark
    let kind : Byte := match ref with | .indexed _ => 1 | .priv _ _ _ _ => 2
    let place : List Byte := match loc with | some l => le 1 l.bay ++ le 6 l.block | none => 0xFF#8 :: le 6 0
    fetchRefs p k [] out s = (out, s)
      ∧ fetchRefs p k (ref :: rest) out s =
          fetchRefs p (k + 1) rest
            (out ++ (le 4 k ++ [kind] ++ place ++ le 3 length ++ [(if damaged then 1#8 else 0#8)]))
            (fetchHold p loc s)
      ∧ s.locate ref = { loc := loc, length := length, damaged := damaged })
  ∧ (∀ (s : State) (h i c g n : Nat) (d : Digest), (s.chunk h).state = .damaged →
    (applyVerdict (.rewrite h) i c g d n s).locate (.indexed h)
      = { loc := (s.chunk h).loc, length := (s.chunk h).length, damaged := true })
  ∧ (∀ (s : State) (p : Nat) (l : Loc), p < 16 → l.bay < 4 →
    let x := s.plan p
    let held := s.bpc.hold s.slc.settings .plan l.bay
    let state := if x.state = .ready ∧ (held.bay l.bay).state ≠ .ready then .waiting else x.state
    fetchHold p none s = s
      ∧ (x.heldBays.getLsbD l.bay = true → fetchHold p (some l) s = s)
      ∧ (x.heldBays.getLsbD l.bay = false → (s.bay l.bay).state = .empty →
          fetchHold p (some l) s = s.setPlan p { x with state := .bayLost })
      ∧ (x.heldBays.getLsbD l.bay = false → (s.bay l.bay).state ≠ .empty →
          fetchHold p (some l) s =
            { s.setPlan p { x with state := state, heldBays := x.heldBays ||| (1#4 <<< l.bay) } with bpc := held }))
  ∧ ∀ (s : State) (p : Nat), p < 16 →
    let x := s.plan p
    let o := s.object x.object
    let lowered : State :=
      { s.setObject x.object { o with planHolds := o.planHolds - 1 } with
        bpc := ((List.range 4).filter fun i => x.heldBays.getLsbD i).foldl (fun b i => b.release s.slc.settings .plan i) s.bpc }
    let freed (u : State) : State := { u with rpb := { s.rpb with plans := put s.rpb.plans p Plan.free } }
    (s.rtu.walk ≠ .idle ∨ s.tiu.load ≠ .loaded ∨ s.tiu.exporting = true ∨ s.rtu.orders.find? lowered.walkable = none →
        closePlan p s = makeDeferredCheck (freed lowered))
      ∧ (s.rtu.walk = .idle → s.tiu.load = .loaded → s.tiu.exporting = false →
          ∀ order, s.rtu.orders.find? lowered.walkable = some order →
            closePlan p s = makeDeferredCheck (freed
              { lowered with rtu := { s.rtu with current := some order, nested := none, walk := .walking } }))

/-- R89, R96, R151, R152: a checked read: the packets of a check join its context, and the packet with LAST that completes
the length decides the copy as the record then stands; during an export nothing is applied.
R141, R151: the refusals before it, in order; a packet without FIRST that does not continue the plan's context, in ordinal
and location, is BAD_FIELD and leaves the context.
That byte 11 of the header may hold anything is the model's choice (assumption 24). -/
def Obligations.PlanCheck : Prop :=
  (∀ (s : State) (r : Request), Offered s .planCheck r → Readable s →
    let x := s.plan (r.aux.toNat % 256)
    let flags := r.aux.toNat / 256
    let k := field r.payload 0 4
    let l : Loc := { bay := byteAt r.payload 4, block := field r.payload 5 6 }
    RefusedFirst .planCheck s r
      [(15 < r.aux.toNat % 256, .badField),
       (3 < flags ∨ r.payload.length < 12 ∨ 3 < l.bay, .badField),
       (x.state = .free, .state),
       ((s.object x.object).recipe.length ≤ k, .badField),
       (flags < 2 ∧ ∀ c, x.check = some c → c.ordinal ≠ k ∨ c.loc ≠ l, .badField)])
  ∧ (∀ (s : State) (r : Request) (p : Nat) (first last : Bool) (ref : Ref) (c : CheckContext),
    let x := s.plan p
    let k := field r.payload 0 4
    let l : Loc := { bay := byteAt r.payload 4, block := field r.payload 5 6 }
    let bytes := r.payload.drop 12
    let size := c.received + bytes.length
    let joined : CheckContext := { c with received := size, running := bytes.foldl Running.push c.running }
    let without := s.quiet.setPlan p { x with check := none }
    let expected := match ref with | .indexed h => (s.chunk h).length | .priv _ n _ _ => n
    let code (outcome : CheckOutcome) : Byte :=
      match outcome with | .isMatch => 1 | .cleared => 2 | .damaged => 3 | .stale => 4
    Offered s .planCheck r → Readable s → p < 16 →
    r.aux.toNat = p + 256 * ((if first then 2 else 0) + (if last then 1 else 0)) → 12 ≤ r.payload.length → l.bay < 4 →
    x.state ≠ .free → (s.object x.object).recipe[k]? = some ref →
    (first = true ∧ c = { ordinal := k, loc := l, expected := expected, received := 0, running := Running.start }
      ∨ first = false ∧ x.check = some c ∧ c.ordinal = k ∧ c.loc = l) →
    (c.expected < size → Ends .planCheck s (refuse r .badField without))
      ∧ (last = false → size ≤ c.expected →
          Answers .planCheck s r .ok (le 4 size) (s.quiet.setPlan p { x with check := some joined }))
      ∧ (last = true → size < c.expected → Ends .planCheck s (refuse r .badField without))
      ∧ (last = true → size = c.expected →
          let wanted := match ref with | .indexed h => (s.chunk h).digest | .priv _ _ d _ => d
          let t := applyCheck x.object k ref l (decide (joined.running.finish = wanted)) without
          let status := if t.1 = .stale then Status.stale else .ok
          Answers .planCheck s r status
            ([code t.1, (if s.tiu.exporting then 0#8 else 1#8), t.2.1] ++ le 4 size
              ++ [(match ref with | .indexed _ => 1#8 | .priv _ _ _ _ => 2#8), 0#8, 0#8]) t.2.2))
  ∧ (∀ (s : State) (n k h : Nat) (l : Loc) (same : Bool),
    let e := s.chunk h
    let code (state : ChunkState) : Byte := match state with
      | .empty => 0 | .reserved => 1 | .present => 2 | .needsWriter => 3 | .damaged => 4 | .rewriting => 5
    let answer_ (outcome : CheckOutcome) (state : ChunkState) (latched : BitVec 11) : Prop :=
      (s.tiu.exporting = false →
          applyCheck n k (.indexed h) l same s =
            (outcome, code state,
              { s.setChunk h { e with state := state } with slc.latched := s.slc.latched ||| latched }))
        ∧ (s.tiu.exporting = true → applyCheck n k (.indexed h) l same s = (outcome, code e.state, s))
    (e.loc ≠ some l → answer_ .stale e.state 0)
      ∧ (e.loc = some l →
          (e.state = .present → same = true → answer_ .isMatch .present 0)
            ∧ (e.state = .present → same = false → answer_ .damaged .damaged 1)
            ∧ (e.state = .damaged → same = true → answer_ .cleared .present 0)
            ∧ (e.state = .damaged → same = false → answer_ .damaged .damaged 0)
            ∧ (e.state = .rewriting → same = true → answer_ .isMatch .rewriting 0)
            ∧ (e.state = .rewriting → same = false → answer_ .damaged .rewriting 0)))
  ∧ ∀ (s : State) (n k length : Nat) (loc : Option Loc) (d : Digest) (mark : Bool) (l : Loc) (same : Bool),
    let o := s.object n
    let ref (m : Bool) : Ref := .priv loc length d m
    let marked (m : Bool) (latched : BitVec 11) : State :=
      { s.setObject n { o with recipe := o.recipe.set k (ref m) } with slc.latched := s.slc.latched ||| latched }
    let answer_ (outcome : CheckOutcome) (after : Bool) (latched : BitVec 11) : Prop :=
      (s.tiu.exporting = false →
          applyCheck n k (ref mark) l same s = (outcome, (if after then 1#8 else 0#8), marked after latched))
        ∧ (s.tiu.exporting = true → applyCheck n k (ref mark) l same s = (outcome, (if mark then 1#8 else 0#8), s))
    (loc ≠ some l → answer_ .stale mark 0)
      ∧ (loc = some l → same = true → answer_ (if mark then .cleared else .isMatch) false 0)
      ∧ (loc = some l → same = false → answer_ .damaged true (if mark then 0 else 1))

/-! ### Bays -/

/-- R156 to R160, R165: BAY_HOLD and BAY_RELEASE, what a hold and a release do by the bay's state, and the examination of
the spin-up queue: heads start while five units fit the budget, and the first that does not fit ends it.
R158: a payload of another length than 1 or a bay above 3 is BAD_FIELD. The bay record in the other refusals, and none in
this one, is assumption 10. -/
def Obligations.BayRequestsHoldsAndQueue : Prop :=
  (∀ (s : State) (r : Request),
    let bad : Prop := r.payload.length ≠ 1 ∨ 3 < byteAt r.payload 0
    (Offered s .bayHold r → RefusedFirst .bayHold s r [(bad, .badField)])
      ∧ (Offered s .bayRelease r → RefusedFirst .bayRelease s r [(bad, .badField)]))
  ∧ (∀ (s : State) (r : Request) (i : Nat), r.payload.length = 1 → byteAt r.payload 0 = i → i < 4 →
    let x := s.bay i
    (Offered s .bayHold r →
        (s.bxp.power ≠ .run → Answers .bayHold s r .state (s.bpc.bayRecord i) s.quiet)
          ∧ (s.bxp.power = .run → x.manual = true → Answers .bayHold s r .ok (s.bpc.bayRecord i) s.quiet)
          ∧ (s.bxp.power = .run → x.manual = false → x.state = .empty →
            Answers .bayHold s r .bayLost (s.bpc.bayRecord i) s.quiet)
          ∧ (s.bxp.power = .run → x.manual = false → x.state ≠ .empty →
            let b := s.bpc.hold s.slc.settings .manual i
            Answers .bayHold s r .ok (b.bayRecord i) { s.quiet with bpc := b }))
      ∧ (Offered s .bayRelease r →
        let b := s.bpc.release s.slc.settings .manual i
        Answers .bayRelease s r .ok (b.bayRecord i) { s.quiet with bpc := b }))
  ∧ (∀ s : State, Ends .spinUpStart s { s.quiet with bpc := s.bpc.examine s.slc.settings })
  ∧ (∀ (cfg : Settings) (b : Bpc) (i : Nat) (rest : List Nat), b.queue = i :: rest →
    let spun := b.setBay i { b.bay i with state := .spinningUp, timer := some (.spinUp, cfg.spinUp) }
    (cfg.budget < b.totalDraw + 5 → b.examine cfg = b)
      ∧ (b.totalDraw + 5 ≤ cfg.budget → b.examine cfg = ({ spun with queue := rest } : Bpc).examine cfg))
  ∧ ∀ (cfg : Settings) (k : HoldKind) (i : Nat) (b : Bpc), i < 4 →
    let x := b.bay i
    let up : Bay := match k with
      | .stream => { x with streamHolds := x.streamHolds + 1 }
      | .plan => { x with planHolds := x.planHolds + 1 }
      | .manual => { x with manual := true }
    let down : Bay := match k with
      | .stream => { x with streamHolds := x.streamHolds - 1 }
      | .plan => { x with planHolds := x.planHolds - 1 }
      | .manual => { x with manual := false }
    let has : Prop := match k with | .stream => 0 < x.streamHolds | .plan => 0 < x.planHolds | .manual => x.manual = true
    let last : Prop := down.streamHolds = 0 ∧ down.planHolds = 0 ∧ down.manual = false
    (x.state = .off → b.hold cfg k i =
        ({ b.setBay i { up with state := .queued } with queue := b.queue ++ [i] } : Bpc).examine cfg)
      ∧ (x.state = .ready → b.hold cfg k i = b.setBay i { up with timer := none })
      ∧ (x.state = .spinningDown → b.hold cfg k i = b.setBay i { up with respin := true })
      ∧ (x.state = .queued ∨ x.state = .spinningUp → b.hold cfg k i = b.setBay i up)
      ∧ (¬ has → b.release cfg k i = b)
      ∧ (has → ¬ last → b.release cfg k i = b.setBay i down)
      ∧ (has → last →
          (x.state = .queued → b.release cfg k i =
              ({ b.setBay i { down with state := .off } with queue := b.queue.filter fun j => decide (j ≠ i) } : Bpc).examine cfg)
            ∧ (x.state = .ready → b.force = true → b.release cfg k i =
                b.setBay i { down with state := .spinningDown, timer := some (.spinDown, cfg.spinDown) })
            ∧ (x.state = .ready → b.force = false → cfg.idle ≠ 0 →
                b.release cfg k i = b.setBay i { down with timer := some (.idle, cfg.idle) })
            ∧ (x.state = .ready → b.force = false → cfg.idle = 0 →
                b.release cfg k i = b.setBay i { down with timer := none })
            ∧ (x.state = .spinningDown → b.release cfg k i = b.setBay i { down with respin := false })
            ∧ (x.state = .spinningUp → b.release cfg k i = b.setBay i down))

/-- R147: a bay that became READY takes each WAITING plan that holds it, and whose held bays are now all READY, to READY;
PLAN_READY is latched when one does.
R63, R147, R150, R155, R161 to R164, R171: the expiries of the bay timers and the two presence events, each acting
exactly when its timer has run out or its line has shown the other level at two second events.
Table 0.1, Table 9.2, R163, R164: the power switch of a bay is on exactly in SPINNING_UP, READY and SPINNING_DOWN, so it goes
off with the entries to OFF, QUEUED and EMPTY given here.
That an expiry or a presence change is taken by its own command after the second, and is otherwise without effect, is
the model's choice (assumptions 1 and 8); so is it that at a loss of presence the streams halt, and their HALTED responses
are placed, in ascending number (assumption 20). -/
def Obligations.BayTimersPresenceAndReports : Prop :=
  (∀ (b : Bpc) (i : Nat), b.switchOn i = true ↔
    (b.bay i).state = .spinningUp ∨ (b.bay i).state = .ready ∨ (b.bay i).state = .spinningDown)
  ∧ (∀ (s : State) (i : Nat), i < 4 →
    let moves (p : Nat) : Prop := (s.plan p).state = .waiting ∧ (s.plan p).heldBays.getLsbD i = true
      ∧ ∀ k < 4, (s.plan p).heldBays.getLsbD k = true → (s.bay k).state = .ready
    ((∀ p < 16, ¬ moves p) → reportBayReady i s = s)
      ∧ ((∃ p < 16, moves p) →
          reportBayReady i s =
              { s with slc.latched := s.slc.latched ||| 256#11, rpb.plans := (reportBayReady i s).rpb.plans }
            ∧ ∀ p < 16, (moves p → (reportBayReady i s).plan p = { s.plan p with state := .ready })
                ∧ (¬ moves p → (reportBayReady i s).plan p = s.plan p)))
  ∧ ∀ (s : State) (i : Fin 4),
    let x := s.bay i
    let b := s.bpc
    let cfg := s.slc.settings
    let changed (u : State) : State := { u with slc.latched := u.slc.latched ||| 128#11 }
    let free : Prop := x.streamHolds = 0 ∧ x.planHolds = 0 ∧ x.manual = false
    (x.timer ≠ some (.spinUp, 0) → Ends (.spinUpExpiry i) s s.quiet)
      ∧ (x.timer ≠ some (.idle, 0) → Ends (.idleTimerExpiry i) s s.quiet)
      ∧ (x.timer ≠ some (.spinDown, 0) → Ends (.spinDownExpiry i) s s.quiet)
      ∧ (x.differ ≠ 2 ∨ x.present = false → Ends (.presenceLoss i) s s.quiet)
      ∧ (x.differ ≠ 2 ∨ x.present = true → Ends (.presenceArrival i) s s.quiet)
      ∧ (x.timer = some (.spinUp, 0) →
          let ready (y : Bay) : State :=
            let u := reportBayReady i (changed { s.quiet with bpc := b.setBay i y })
            { u with bpc := u.bpc.examine cfg }
          (¬ free → Ends (.spinUpExpiry i) s (ready { x with state := .ready, timer := none }))
            ∧ (free → b.force = true →
                Ends (.spinUpExpiry i) s
                  (ready { x with state := .spinningDown, timer := some (.spinDown, cfg.spinDown) }))
            ∧ (free → b.force = false →
                Ends (.spinUpExpiry i) s
                  (ready { x with state := .ready, timer := if cfg.idle = 0 then none else some (.idle, cfg.idle) })))
      ∧ (x.timer = some (.idle, 0) →
          Ends (.idleTimerExpiry i) s { s.quiet with
            bpc :=
            b.setBay i { x with state := .spinningDown, timer := some (.spinDown, cfg.spinDown) } })
      ∧ (x.timer = some (.spinDown, 0) → x.respin = true →
          Ends (.spinDownExpiry i) s (completeStandby { s.quiet with
            bpc :=
            ({ b.setBay i { x with state := .queued, respin := false, timer := none } with
              queue := b.queue ++ [i.val] } : Bpc).examine cfg }))
      ∧ (x.timer = some (.spinDown, 0) → x.respin = false →
          Ends (.spinDownExpiry i) s (completeStandby { s.quiet with
            bpc :=
            (b.setBay i { x with state := .off, timer := none }).examine cfg }))
      ∧ (x.differ = 2 → x.present = true →
          let gone : Bay := { state := .empty, streamHolds := 0, planHolds := 0, manual := false, timer := none,
                              respin := false, present := false, differ := 0 }
          let lost := changed { s.quiet with
            bpc :=
            ({ b.setBay i gone with queue := b.queue.filter fun j => decide (j ≠ i.val) } : Bpc).examine cfg }
          let streams := (List.range 8).foldl (fun u k =>
            if (u.stream k).state ≠ .closed ∧ (u.stream k).bay = i.val then
              haltStream k .bayLost (u.setStream k { u.stream k with bayHeld := false })
            else u) lost
          ∃ t, (∀ p < 16, t.plan p =
                if (s.plan p).state ≠ .free ∧ (s.plan p).heldBays.getLsbD i = true then
                  { s.plan p with heldBays := (s.plan p).heldBays &&& ~~~(1#4 <<< i.val), state := .bayLost }
                else s.plan p)
            ∧ t = { streams with rpb.plans := t.rpb.plans } ∧ Ends (.presenceLoss i) s (completeStandby t))
      ∧ (x.differ = 2 → x.present = false →
          let arrived : Bay := { state := .off, streamHolds := 0, planHolds := 0, manual := false, timer := none,
                                 respin := false, present := true, differ := 0 }
          Ends (.presenceArrival i) s (completeStandby (changed { s.quiet with bpc := b.setBay i arrived })))

/-! ### Box power -/

/-- R8, R162, R165, R168, R172, R184: what the abandonment of a standby entry does: the failure, RUN with the held frames
forwarded, the force withdrawn, SLEEP_REQ withdrawn, STANDBY_FAILED, and WAKE to a link that slept, which enters ACTIVE with
the ATTENTION that is owed (R17).
R5, R6, R171, R179: what the removal of host power does to the link (that a partly sent ATTENTION becomes owed is the
model's choice, assumption 11), and `completeStandby`, by which the box enters STANDBY at the first event at which it may.
R165, R170, R171, R172, R175: STANDBY_ENTER and RETURN_PRIOR, accepted or refused by the first failing check; the
entry to STANDBY; the handshake timer. Section 10.3: every answer carries the power record, whose one unstated byte is left
open (assumption 3). Rows without effect are assumption 1; the expiry after the second is assumption 8; that the
acknowledged flag keeps its value outside STANDBY_ENTRY is assumption 21. -/
def Obligations.StandbyEntryAndAbandonment : Prop :=
  (∀ (s : State) (why : StandbyFailure),
    let run := enterRun s
    let t := abandonStandby why s
    let slc := { s.slc with sleepReq := false, latched := s.slc.latched ||| 16#11 }
    t.bxp = { s.bxp with power := .run, timer := none, lastFailure := why }
      ∧ t.nwu = run.nwu ∧ t.clients = run.clients
      ∧ t.bpc.force = false ∧ t.bpc.queue = s.bpc.queue
      ∧ (∀ i < 4, let x := s.bay i
          (x.state = .ready ∧ x.streamHolds = 0 ∧ x.planHolds = 0 ∧ x.manual = false →
              t.bay i = { x with timer := if s.slc.settings.idle = 0 then none else some (.idle, s.slc.settings.idle) })
            ∧ (¬ (x.state = .ready ∧ x.streamHolds = 0 ∧ x.planHolds = 0 ∧ x.manual = false) → t.bay i = x))
      ∧ (s.slc.link ≠ .sleep → t.slc = slc)
      ∧ (s.slc.link = .sleep →
          let sends : Prop := (s.pendingNotices ||| 16#11) &&& slc.enables ≠ 0#11 ∧ slc.owed = true ∧ .attention ∉ slc.outgoing
          t.slc = { slc with
            link := .active, wakeOut := true, owed := false
            outgoing := if sends then slc.outgoing ++ [.attention] else slc.outgoing })
      ∧ t.bck = s.bck ∧ t.streams = s.streams ∧ t.chunks = s.chunks ∧ t.oct = s.oct ∧ t.rtu = s.rtu
      ∧ t.grants = s.grants ∧ t.rpb = s.rpb ∧ t.tiu = s.tiu ∧ t.pending = s.pending ∧ t.free = s.free)
  ∧ (∀ (s : State) (r : Request), r.payload = [] → s.bxp.power = .run →
    let manual := ∃ i < 4, (s.bay i).manual = true
    let waits := s.bxp.due ≠ 0 ∨ (∃ c < 16, (s.client c).holdStatus ≠ .empty) ∨ s.slc.latched.getLsbD 6 = true
    let streams := ∃ i < 8, (s.stream i).state ≠ .closed
    let plans := ∃ p < 16, (s.plan p).state ≠ .free
    let busy := s.tiu.load = .loading ∨ s.tiu.exporting = true
    let entry (back : Bool) : State :=
      { s.quiet with
        slc.sleepReq := true
        bxp := { s.bxp with
          power := .standbyEntry, sleepAcked := false, timer := some (.handshake, 10), returnStandby := back }
        bpc := s.bpc.setForce s.slc.settings
        nwu.mode := .watch
        nwu.receive := [] }
    let answered (i : Instr) (st : Status) (t : State) : Prop := Ends i s (answer r st t.powerRecord (t.spend 1))
    let checked (i : Instr) (t : State) : Prop :=
      (busy → answered i .imageBusy s.quiet)
        ∧ (¬ busy → streams → answered i .streamsOpen s.quiet)
        ∧ (¬ busy → ¬ streams → plans → answered i .plansOpen s.quiet)
        ∧ (¬ busy → ¬ streams → ¬ plans → manual → answered i .baysHeld s.quiet)
        ∧ (¬ busy → ¬ streams → ¬ plans → ¬ manual → waits → answered i .wakePending s.quiet)
        ∧ (¬ busy → ¬ streams → ¬ plans → ¬ manual → ¬ waits → answered i .ok t)
    (Offered s .standbyEnter r → checked .standbyEnter (entry s.bxp.returnStandby))
      ∧ (Offered s .returnPrior r → s.bxp.returnStandby = false → answered .returnPrior .staysRun s.quiet)
      ∧ (Offered s .returnPrior r → s.bxp.returnStandby = true → checked .returnPrior (entry false)))
  ∧ (∀ (s : State) (r : Request), r.payload ≠ [] →
    (Offered s .standbyEnter r → Ends .standbyEnter s (answer r .badField s.powerRecord (s.quiet.spend 1)))
      ∧ (Offered s .returnPrior r → Ends .returnPrior s (answer r .badField s.powerRecord (s.quiet.spend 1))))
  ∧ (∀ (s : State) (r : Request), r.payload = [] → s.bxp.power ≠ .run →
    (Offered s .standbyEnter r → Ends .standbyEnter s (answer r .state s.powerRecord (s.quiet.spend 1)))
      ∧ (Offered s .returnPrior r → Ends .returnPrior s (answer r .state s.powerRecord (s.quiet.spend 1))))
  ∧ (∀ (cfg : Settings) (b : Bpc) (i : Nat), i < 4 →
    let x := b.bay i
    let free : Prop := x.state = .ready ∧ x.streamHolds = 0 ∧ x.planHolds = 0 ∧ x.manual = false
    (b.setForce cfg).force = true ∧ (b.setForce cfg).queue = b.queue
      ∧ (free → (b.setForce cfg).bay i = { x with state := .spinningDown, timer := some (.spinDown, cfg.spinDown) })
      ∧ (¬ free → (b.setForce cfg).bay i = x))
  ∧ (∀ s : State,
    linkDown s = { s with
      slc := { s.slc with
        link := .down, receiver := .quiet, places := [], outgoing := [], sending := none
        deferred := Vector.replicate 8 none, sleepReq := false
        owed := s.slc.owed || decide (.attention ∈ s.slc.outgoing ∨ s.slc.sending = some .attention) }
      nwu.receive := [] })
  ∧ (∀ s : State,
    let stopped := ∀ i < 4, (s.bay i).state = .off ∨ (s.bay i).state = .empty
    let standby (u : State) : State := linkDown { u with
      bxp := { u.bxp with power := .standby, timer := none, returnStandby := false }, bpc.force := false }
    (s.bxp.power = .standbyEntry → s.bxp.sleepAcked = true → stopped →
        completeStandby s = standby s ∧ Ends .standbyEntryComplete s (standby s.quiet))
      ∧ (s.bxp.power ≠ .standbyEntry ∨ s.bxp.sleepAcked = false ∨ ¬ stopped →
        completeStandby s = s ∧ Ends .standbyEntryComplete s s.quiet))
  ∧ ∀ s : State,
    (s.bxp.power = .standbyEntry → s.bxp.sleepAcked = false → s.bxp.timer = some (.handshake, 0) →
        Ends .handshakeTimerExpiry s (abandonStandby .handshakeTimeout s.quiet))
      ∧ (s.bxp.timer ≠ some (.handshake, 0) → Ends .handshakeTimerExpiry s s.quiet)

/-- R168, R169, R173, R174: the wake timer, the retry pause, HALTED at the third failure, and the button by the power
state.
Rows without effect are assumption 1; the expiry after the second is assumption 8. -/
def Obligations.WakeTimersAndButton : Prop :=
  ∀ s : State,
    (s.bxp.timer ≠ some (.wake, 0) → Ends .wakeTimerExpiry s s.quiet)
      ∧ (s.bxp.timer ≠ some (.pause, 0) → Ends .pauseTimerExpiry s s.quiet)
      ∧ (s.bxp.power = .waking → s.bxp.timer = some (.wake, 0) → s.bxp.failures < 2 →
          Ends .wakeTimerExpiry s
            (linkDown { s.quiet with bxp := { s.bxp with
              failures := s.bxp.failures + 1, phase := .pause, timer := some (.pause, 5) } }))
      ∧ (s.bxp.power = .waking → s.bxp.timer = some (.wake, 0) → s.bxp.failures = 2 →
          Ends .wakeTimerExpiry s
            (linkDown { s.quiet with bxp := { s.bxp with
              failures := 3, power := .halted, timer := none, returnStandby := false } }))
      ∧ (s.bxp.power = .waking → s.bxp.timer = some (.pause, 0) →
          Ends .pauseTimerExpiry s
            { s.quiet with bxp := { s.bxp with phase := .powered, timer := some (.wake, 30) } })
      ∧ (s.bxp.power = .run →
          Ends .buttonPress s
            { s.quiet with slc.latched := s.slc.latched ||| 64#11, bxp.returnStandby := false })
      ∧ (s.bxp.power = .standbyEntry →
          Ends .buttonPress s (abandonStandby .button { s.quiet with bxp.returnStandby := false }))
      ∧ (s.bxp.power = .standby ∨ s.bxp.power = .halted →
          Ends .buttonPress s
            { s.quiet with bxp := { s.bxp with
              power := .waking, phase := .powered, timer := some (.wake, 30), failures := 0, cause := .button
              returnStandby := false } })
      ∧ (s.bxp.power = .waking →
          Ends .buttonPress s { s.quiet with bxp := { s.bxp with returnStandby := false, cause := .button } })

/-! ### The network watch -/

/-- R172, R173, R179 to R183: a frame at the port by mode, length and check; the first template that matches answers and
keeps it from the filters; the first client that matches holds it, which wakes the box or abandons standby entry; FRAME_OUT
and the two ends of a transmission. A template or a filter matches by its own offset, pattern and mask.
A transmission puts the frame on the wire padded with zeros to 60 bytes and followed by its frame check sequence.
That the sequence is the CRC-32 of Ethernet is presumed, and what is kept of a frame is the model's (assumption 22); the
empty result of FRAME_OUT is assumption 10, its BAD_FIELD for another aux and the order of its checks assumption 9, rows
without effect assumption 1. -/
def Obligations.FramesInAndOut : Prop :=
  (∀ (f : List Byte) (offset : Nat) (pattern mask : List Byte),
    (matchesBytes f offset pattern mask = true ↔
      offset + pattern.length ≤ f.length
        ∧ ∀ k < pattern.length,
            f.getD (offset + k) 0#8 &&& mask.getD k 0#8 = pattern.getD k 0#8 &&& mask.getD k 0#8))
  ∧ (∀ (s : State) (f : List Byte) (good : Bool),
    let meets (offset : Nat) (pattern mask : List Byte) : Prop :=
      offset + pattern.length ≤ f.length
        ∧ ∀ k < pattern.length,
            f.getD (offset + k) 0#8 &&& mask.getD k 0#8 = pattern.getD k 0#8 &&& mask.getD k 0#8
    let matching (k : Nat) : Prop := ∃ t, s.template k = some t ∧ meets t.offset t.pattern t.mask
    let client (c : Nat) : Prop := (s.client c).active = true ∧ slice f 6 6 = (s.client c).address
      ∧ ∃ x ∈ (s.client c).filters, meets x.offset x.pattern x.mask
    (good = false ∨ f.length < 60 ∨ 1518 < f.length → Ends (.frameReceived f good) s s.quiet)
      ∧ (good = true → 60 ≤ f.length → f.length ≤ 1518 →
          (s.nwu.mode = .pass →
              (s.nwu.receive.length < 64 →
                  Ends (.frameReceived f good) s
                    { s.quiet with nwu.receive := s.nwu.receive ++ [{ lost := false, bytes := f }] })
                ∧ (64 ≤ s.nwu.receive.length → Ends (.frameReceived f good) s s.quiet))
            ∧ (s.nwu.mode = .watch →
              (∀ k t, k < 4 → s.template k = some t → meets t.offset t.pattern t.mask → (∀ j < k, ¬ matching j) →
                  (s.nwu.transmit.length < 4 →
                      Ends (.frameReceived f good) s { s.quiet with nwu.transmit := s.nwu.transmit ++ [t.reply] })
                    ∧ (4 ≤ s.nwu.transmit.length → Ends (.frameReceived f good) s s.quiet))
                ∧ ((∀ k < 4, ¬ matching k) → s.tiu.load ≠ .loaded → Ends (.frameReceived f good) s s.quiet)
                ∧ ((∀ k < 4, ¬ matching k) → (∀ c < 16, ¬ client c) → Ends (.frameReceived f good) s s.quiet)
                ∧ ∀ c, (∀ k < 4, ¬ matching k) → s.tiu.load = .loaded → c < 16 → client c →
                    (∀ j < c, ¬ client j) →
                    let x := s.client c
                    let held := s.quiet.setClient c (match x.holdStatus with
                      | .empty => { x with holdStatus := .one, held := [f] }
                      | .one => { x with holdStatus := .two, held := x.held ++ [f] }
                      | .two => { x with holdStatus := .lost, held := x.held.drop 1 ++ [f] }
                      | .lost => { x with holdStatus := .lost, held := x.held.drop 1 ++ [f] })
                    (s.bxp.power = .standby →
                        Ends (.frameReceived f good) s
                          { held with bxp := { s.bxp with
                            power := .waking, phase := .powered, timer := some (.wake, 30), failures := 0
                            cause := .network c, returnStandby := true } })
                      ∧ (s.bxp.power = .standbyEntry →
                          Ends (.frameReceived f good) s (abandonStandby (.network c) held))
                      ∧ (s.bxp.power ≠ .standby → s.bxp.power ≠ .standbyEntry →
                          Ends (.frameReceived f good) s held))))
  ∧ (∀ (s : State) (r : Request), Offered s .frameOut r →
    r.aux ≠ 0#16 ∨ r.payload.length < 14 ∨ 1518 < r.payload.length → Refused .frameOut s r .badField)
  ∧ (∀ (s : State) (r : Request), Offered s .frameOut r → r.aux = 0#16 → 14 ≤ r.payload.length →
    r.payload.length ≤ 1518 →
    (s.nwu.mode = .watch → Refused .frameOut s r .state)
      ∧ (s.nwu.mode = .pass → 4 ≤ s.nwu.transmit.length → Refused .frameOut s r .full)
      ∧ (s.nwu.mode = .pass → s.nwu.transmit.length < 4 →
          Answers .frameOut s r .ok [] { s.quiet with nwu.transmit := s.nwu.transmit ++ [r.payload] }))
  ∧ (∀ frame : List Byte,
    let bit (r : BitVec 32) : BitVec 32 := if r.getLsbD 0 = true then (r >>> 1) ^^^ 0xEDB88320#32 else r >>> 1
    let byte (r : BitVec 32) (b : Byte) : BitVec 32 :=
      bit (bit (bit (bit (bit (bit (bit (bit (r ^^^ b.setWidth 32))))))))
    frameCheck frame = le 4 (0xFFFFFFFF - (frame.foldl byte 0xFFFFFFFF#32).toNat))
  ∧ ∀ s : State,
    (∀ f rest, s.nwu.onWire = none → s.nwu.transmit = f :: rest →
        Ends .frameTransmitStart s
          (let padded := f ++ List.replicate (60 - f.length) 0#8
           { s.quiet with nwu.onWire := some (padded ++ frameCheck padded) }))
      ∧ (s.nwu.onWire ≠ none ∨ s.nwu.transmit = [] → Ends .frameTransmitStart s s.quiet)
      ∧ (s.nwu.onWire ≠ none →
          Ends .frameTransmitEnd s { s.quiet with nwu.onWire := none, nwu.transmit := s.nwu.transmit.drop 1 })
      ∧ (s.nwu.onWire = none → Ends .frameTransmitEnd s s.quiet)

/-- R185, R186: FILTER_SET and TEMPLATE_SET with aux 0: what is in range is taken and reads back; what is not is
BAD_FIELD, as is any aux but 0 and 1 (which row takes it is assumption 7); FILTER_SET for a FREE client is NO_SUCH. -/
def Obligations.FiltersAndTemplates : Prop :=
  (∀ (s : State) (r : Request), Offered s .filterSet r → Changeable s → r.aux ≠ 1#16 →
    let p := r.payload
    let spelled : Prop := ∃ fs : List Filter, fs.length ≤ 2
      ∧ (∀ f ∈ fs, f.offset ≤ 1499 ∧ 1 ≤ f.pattern.length ∧ f.pattern.length ≤ 32 ∧ f.mask.length = f.pattern.length)
      ∧ p = le 1 (byteAt p 0) ++ le 1 fs.length
          ++ fs.flatMap fun f => le 2 f.offset ++ le 1 f.pattern.length ++ f.pattern ++ f.mask
    RefusedFirst .filterSet s r
      [(r.aux ≠ 0#16 ∨ 15 < byteAt p 0 ∨ ¬ spelled, .badField), ((s.client (byteAt p 0)).active = false, .noSuch)])
  ∧ (∀ (s : State) (r : Request), Offered s .templateSet r → r.aux ≠ 1#16 →
    let p := r.payload
    let len := byteAt p 4
    let reply := byteAt p 5
    RefusedFirst .templateSet s r
      [(r.aux ≠ 0#16 ∨ 3 < byteAt p 0 ∨ 1 < byteAt p 1 ∨ byteAt p 1 = 0 ∧ p.length ≠ 2
          ∨ byteAt p 1 = 1 ∧ (1499 < field p 2 2 ∨ len < 1 ∨ 64 < len ∨ reply < 60 ∨ 128 < reply
            ∨ p.length ≠ 6 + 2 * len + reply), .badField)])
  ∧ (∀ (s : State) (r : Request) (c : Nat) (fs : List Filter), Offered s .filterSet r → Changeable s → r.aux = 0#16 →
    c < 16 → (s.client c).active = true → fs.length ≤ 2 →
    (∀ f ∈ fs, f.offset ≤ 1499 ∧ 1 ≤ f.pattern.length ∧ f.pattern.length ≤ 32 ∧ f.mask.length = f.pattern.length) →
    let bytes := le 1 c ++ le 1 fs.length
      ++ fs.flatMap fun f => le 2 f.offset ++ le 1 f.pattern.length ++ f.pattern ++ f.mask
    (r.payload = bytes →
        Answers .filterSet s r .ok bytes (s.quiet.setClient c { s.client c with filters := fs }))
      ∧ ∀ extra, extra ≠ [] → r.payload = bytes ++ extra → Refused .filterSet s r .badField)
  ∧ ∀ (s : State) (r : Request) (k : Nat) (x : Template), Offered s .templateSet r → r.aux = 0#16 → k < 4 →
    (r.payload = le 1 k ++ [0#8] →
        Answers .templateSet s r .ok (le 1 k ++ [0#8]) { s.quiet with nwu.templates := put s.nwu.templates k none })
      ∧ (x.offset ≤ 1499 → 1 ≤ x.pattern.length → x.pattern.length ≤ 64 → x.mask.length = x.pattern.length →
          60 ≤ x.reply.length → x.reply.length ≤ 128 →
          let bytes := le 1 k ++ [1#8] ++ le 2 x.offset ++ le 1 x.pattern.length ++ le 1 x.reply.length ++ x.pattern
            ++ x.mask ++ x.reply
          (r.payload = bytes →
              Answers .templateSet s r .ok bytes { s.quiet with nwu.templates := put s.nwu.templates k (some x) })
            ∧ ∀ extra, extra ≠ [] → r.payload = bytes ++ extra → Refused .templateSet s r .badField)

/-! ### Table images -/

/-- R123: the end of a freeze: the deferred check, then the current walk goes on, or pauses where its next step may add an
extent and the list is full; with no current walk the oldest walkable order is taken.
R123, R125, R188 to R191: the requests that empty the tables, begin and end an export, hand out its batches, and begin
or give up an import, each with the status record of Table 12.4; where that table states no content for bytes 11 to 14
they are left open. Each request is refused by the first of its checks that fails, in the order of its rule; that
BAD_FIELD follows the load state and the power state, and that an aux of IMAGE_NEXT above 1 is BAD_FIELD, is assumption 9.
The empty results are assumption 10, the grouping of records and the values of Table 12.4 after a transfer assumption
13, the open bytes assumption 3. -/
def Obligations.ImageTransfersAndFreeze : Prop :=
  (∀ s : State, s.tiu.load = .loaded → s.tiu.exporting = false →
    let t := makeDeferredCheck s
    let next (ref : Ref) : Prop := ∃ n, (s.rtu.nested = some n ∨ s.rtu.nested = none ∧ s.rtu.current = some (.object n))
      ∧ (s.object n).recipe.head? = some ref
    let adds := ∃ ref, next ref ∧ ((∃ h, ref = .indexed h) ∨ ∃ l n d m, ref = .priv (some l) n d m)
    (∀ o, s.rtu.current = some o → adds → 4096 ≤ t.rtu.release.length →
        unfreezeWalk s = { t with rtu := { t.rtu with walk := .paused } })
      ∧ (∀ o, s.rtu.current = some o → ¬ adds ∨ t.rtu.release.length < 4096 →
        unfreezeWalk s = { t with rtu := { t.rtu with walk := .walking } })
      ∧ (∀ o, s.rtu.current = none → s.rtu.orders.find? s.walkable = some o →
        unfreezeWalk s = { t with rtu := { t.rtu with current := some o, nested := none, walk := .walking } })
      ∧ (s.rtu.current = none → s.rtu.orders.find? s.walkable = none →
        unfreezeWalk s = { t with rtu := { t.rtu with current := none, nested := none, walk := .idle } }))
  ∧ ∀ (s : State) (r : Request),
    let tiu := s.tiu
    let emptied (load : LoadState) : State :=
      { s.quiet with
        clients := Vector.replicate 16 (Client.free 0), chunks := []
        oct := { objects := [], colls := [], freePages := 4194304 }
        rtu := { orders := [], current := none, nested := none, walk := .idle, release := [], deferred := [], reserved := 0,
                 lastBatch := [] }
        grants := [], bxp.due := 0
        tiu := { tiu with load := load, exporting := false, section_ := 0, moved := 0, total := none, lastBatch := [],
                          cursor := ImportCursor.start } }
    let answered (i : Instr) (t : State) (records : List Byte) : Prop :=
      ∃ open_ : List Byte, open_.length = 4 ∧
        Answers i s r .ok
          ([t.tiu.load.code, (if t.tiu.exporting then 1#8 else 0#8)] ++ le 1 t.tiu.section_ ++ le 8 t.tiu.moved
            ++ ((t.tiu.total.map (le 4)).getD open_) ++ [0#8] ++ records) { t with free := t.free + 4 }
    let streams := ∃ i < 8, (s.stream i).state ≠ .closed
    let plans := ∃ p < 16, (s.plan p).state ≠ .free
    let ended : State := unfreezeWalk { s.quiet with tiu.exporting := false }
    (Offered s .tablesInit r → s.bxp.power ≠ .run → Refused .tablesInit s r .state)
      ∧ (Offered s .tablesInit r → s.bxp.power = .run →
          (tiu.exporting = true → Refused .tablesInit s r .imageBusy)
            ∧ (tiu.exporting = false → r.payload ≠ [] → Refused .tablesInit s r .badField))
      ∧ (Offered s .tablesInit r → r.payload = [] → s.bxp.power = .run → tiu.exporting = false →
        (streams → Refused .tablesInit s r .streamsOpen)
          ∧ (¬ streams → plans → Refused .tablesInit s r .plansOpen)
          ∧ (¬ streams → ¬ plans → answered .tablesInit (emptied .loaded) []))
      ∧ (Offered s .imageExport r → s.bxp.power ≠ .run → Refused .imageExport s r .state)
      ∧ (Offered s .imageExport r → s.bxp.power = .run →
          (tiu.load ≠ .loaded → Refused .imageExport s r .notLoaded)
            ∧ (tiu.load = .loaded → tiu.exporting = true → Refused .imageExport s r .imageBusy)
            ∧ (tiu.load = .loaded → tiu.exporting = false → r.payload ≠ [] → Refused .imageExport s r .badField))
      ∧ (Offered s .imageExport r → r.payload = [] → s.bxp.power = .run → Changeable s →
          (streams → Refused .imageExport s r .streamsOpen)
            ∧ (¬ streams →
              let u := { s.quiet with
                rtu := { s.rtu with walk := .frozen }
                tiu := { tiu with load := .loaded, exporting := true, section_ := 0, moved := 0, total := none,
                                  settingsCopy := s.slc.settings, lastBatch := [], cursor := ImportCursor.start } }
              answered .imageExport { u with tiu.total := some u.image.length } []))
      ∧ (r.payload ≠ [] →
          (Offered s .imageImport r → Refused .imageImport s r .badField)
            ∧ (Offered s .imageCancel r → Refused .imageCancel s r .badField))
      ∧ (Offered s .imageNext r →
          1 < r.aux.toNat ∨ r.payload.length ≠ 2 ∨ field r.payload 0 2 = 0 ∨ 255 < field r.payload 0 2 →
          (r.aux ≠ 1#16 → Refused .imageNext s r .badField) ∧ (r.aux = 1#16 → Refused .imageNextAgain s r .badField))
      ∧ (Offered s .imageImport r → r.payload = [] →
          (s.bxp.power ≠ .run ∨ tiu.load = .loaded ∨ tiu.load = .loading → Refused .imageImport s r .state)
            ∧ (s.bxp.power = .run → tiu.load = .unloaded ∨ tiu.load = .loadFailed →
              Answers .imageImport s r .ok [] (emptied .loading)))
      ∧ (Offered s .imageCancel r → r.payload = [] →
          (tiu.exporting = true → Answers .imageCancel s r .ok [] ended)
            ∧ (tiu.exporting = false → tiu.load = .loading →
              Answers .imageCancel s r .ok [] { s.quiet with tiu.load := .loadFailed })
            ∧ (tiu.exporting = false → tiu.load ≠ .loading → Refused .imageCancel s r .state))
      ∧ (∀ n, Offered s .imageNext r → r.payload.length = 2 → field r.payload 0 2 = n → 1 ≤ n → n ≤ 255 →
          let batch := (s.image.drop tiu.moved).take n
          let moved := tiu.moved + batch.length
          let handed : Tiu := { tiu with
            lastBatch := batch, moved := moved
            section_ := (batch.getLast?.map fun record => byteAt record 0).getD tiu.section_ }
          (r.aux = 0#16 → tiu.exporting = true → moved < s.image.length →
              answered .imageNext { s.quiet with tiu := handed } batch.flatten)
            ∧ (r.aux = 0#16 → tiu.exporting = true → s.image.length ≤ moved →
              let t := unfreezeWalk { s.quiet with tiu := { handed with exporting := false } }
              answered .imageNext { t with slc.latched := t.slc.latched ||| 512#11 } batch.flatten)
            ∧ (r.aux = 0#16 → tiu.exporting = false → tiu.load = .loading → answered .imageNext s.quiet [])
            ∧ (r.aux = 0#16 → tiu.exporting = false → tiu.load ≠ .loading → Refused .imageNext s r .state)
            ∧ (r.aux = 1#16 → tiu.load = .loaded → answered .imageNextAgain s.quiet tiu.lastBatch.flatten)
            ∧ (r.aux = 1#16 → tiu.load = .loading → answered .imageNextAgain s.quiet [])
            ∧ (r.aux = 1#16 → tiu.load = .unloaded ∨ tiu.load = .loadFailed → Refused .imageNextAgain s r .state))

/-- R142, R191, R192: IMAGE_PUT takes its entries in order; the first entry that is out of order or fails a check, a bad
entry check or a break ends the import; IMAGE_END checks the tables and makes them LOADED, or names the first check that
fails and the first record found failing.
R191, Table 12.3: which entry is in order, which checks of each section refuse it, in the order of the rule, and what it
writes (the readings `image…` of a content are fixed by ImageRecordsReadBack).
That a number other than 0 for the settings or the trailer is BAD_FIELD is the model's choice (assumption 13); so is it that
a content which repeats another number than its image record's is (assumption 14).
The empty result of IMAGE_END is assumption 10, what a record's checks cover assumption 14, which record a failed check
names assumption 15, the number bytes of check 1, of which nothing is said, assumption 3. That a continuation past what the
record states is STATE, but an INDEXED group larger than what is still to come BAD_FIELD, is assumption 27. -/
def Obligations.ImagePutAndEnd : Prop :=
  (∀ (s : State) (r : Request), Offered s .imagePut r → r.aux = 0#16 →
    (s.tiu.load = .unloaded ∨ s.tiu.load = .loadFailed → Refused .imagePut s r .notLoaded)
      ∧ (s.tiu.load = .loaded → Refused .imagePut s r .state)
      ∧ (s.tiu.load = .loading →
          let t := putEntries r.entries [] s.quiet
          Answers .imagePut s r (if r.whole then .ok else .broken) (le 2 t.1.length ++ t.1.map Status.code)
            (if r.whole then t.2 else { t.2 with tiu.load := .loadFailed })))
  ∧ (∀ (s : State) (e : List Byte) (es : List (List Byte)) (sts : List Status),
    let entry := ImageEntry.ofBytes e
    let failed := { s with tiu.load := .loadFailed }
    putEntries [] sts s = (sts, s)
      ∧ putEntries (e :: es) sts s = putEntries es (sts ++ [(putEntry e s).1]) (putEntry e s).2
      ∧ (s.tiu.load ≠ .loading → putEntry e s = (.notLoaded, s))
      ∧ (s.tiu.load = .loading → s.tiu.inOrder entry = false → putEntry e s = (.state, failed))
      ∧ (∀ st, s.tiu.load = .loading → s.tiu.inOrder entry = true → applyRecord entry s = .refused st →
          putEntry e s = (st, failed))
      ∧ ∀ u want head, s.tiu.load = .loading → s.tiu.inOrder entry = true → applyRecord entry s = .written u want head →
          u.tiu.load = .loading ∧ u.tiu.moved = s.tiu.moved
            ∧ putEntry e s =
              (.ok, { u with tiu := { u.tiu with
                section_ := entry.code
                moved := u.tiu.moved + 1
                cursor := { u.tiu.cursor with
                  number := entry.number, part := entry.part, want := want, filterHead := head
                  applied := u.tiu.cursor.applied.modify (entry.code - 1) (· + 1) } } }))
  ∧ (∀ (t : Tiu) (e : ImageEntry),
    let at_ := t.cursor
    t.inOrder e = true ↔
      t.section_ ≠ 10 ∧ t.section_ ≤ e.code
        ∧ (e.part = 0 → at_.want = 0 ∧ at_.filterHead = none
            ∧ (t.section_ < e.code ∨ t.section_ = 0 ∨ at_.number < e.number))
        ∧ (e.part ≠ 0 → e.code = t.section_ ∧ e.number = at_.number ∧ e.part = at_.part + 1
            ∧ (e.code = 2 ∧ at_.part < 4 ∨ (e.code = 3 ∨ e.code = 4) ∧ 0 < at_.want)))
  ∧ (∀ (s : State) (e : ImageEntry),
    let p := e.content
    let checked (t : State) (want : Nat) (checks : List (Prop × Status)) : Prop :=
      FirstFails (applyRecord e s) (.written t want none) checks
    (e.code = 1 →
        let new := (Settings.ofBytes p).clamped s.bpc.totalDraw
        checked
          { s with
            slc.settings := new
            bpc := if new.budget = s.slc.settings.budget then s.bpc else s.bpc.examine new } 0
          [(e.number ≠ 0, .badField)])
      ∧ (e.code = 2 → e.part = 0 →
        checked (s.setClient e.number (imageClient p)) 0
          [(15 < e.number ∨ byteAt p 0 ≠ e.number ∨ 1 < byteAt p 1, .badField),
           (byteAt p 1 = 0 ∧ ∃ b ∈ slice p 3 43, b ≠ 0#8, .badField),
           (byteAt p 1 = 1 ∧ (byteAt p 3 < 1 ∨ 3 < byteAt p 3), .badField),
           (byteAt p 1 = 1 ∧ ((∀ b ∈ slice p 4 6, b = 0#8) ∨ ((slice p 4 6).getD 0 0#8).getLsbD 0 = true), .badField),
           (byteAt p 1 = 1 ∧ ∃ k < 16, k ≠ e.number ∧ (s.client k).active = true ∧ (s.client k).address = slice p 4 6,
             .badField),
           (byteAt p 1 = 1 ∧ (16777215 < field p 26 4 ∨ field p 26 4 ≠ 0 ∧ field p 26 4 * 1048576 < field p 30 6),
             .badField),
           (byteAt p 1 = 1 ∧ (1 < byteAt p 36
             ∨ byteAt p 36 = 1 ∧ (field p 37 2 < 1 ∨ 40320 < field p 37 2 ∨ 3600 < field p 43 2 ∨ byteAt p 3 = 2)),
             .badField)])
      ∧ (e.code = 2 → e.part ≠ 0 → s.tiu.cursor.filterHead = none →
        FirstFails (applyRecord e s) (.written s 0 (some (field p 0 2, slice p 3 (byteAt p 2))))
          [(1499 < field p 0 2 ∨ byteAt p 2 < 1 ∨ 32 < byteAt p 2 ∨ (s.client e.number).active = false, .badField)])
      ∧ (∀ offset pattern, e.code = 2 → e.part ≠ 0 → s.tiu.cursor.filterHead = some (offset, pattern) →
        let x := s.client e.number
        let f : Filter := { offset := offset, pattern := pattern, mask := slice p 0 pattern.length }
        checked (s.setClient e.number { x with filters := x.filters ++ [f] }) 0 [])
      ∧ (e.code = 3 → e.part = 0 →
        let state := byteAt p 2
        let kind := byteAt p 3
        checked (s.setColl e.number (imageColl p)) (field p 15 3)
          [(1024 ≤ e.number ∨ field p 0 2 ≠ e.number ∨ state < 1 ∨ 3 < state ∨ kind < 1 ∨ 2 < kind, .badField),
           (15 < byteAt p 4 ∨ 1 < byteAt p 10 ∨ 262144 < field p 15 3 ∨ byteAt p 18 ≠ 0, .badField),
           (state = 1 ∧ byteAt p 10 = 1 ∨ state = 2 ∧ (byteAt p 10 = 0 ∨ kind = 2) ∨ state = 3 ∧ byteAt p 10 = 1 ∧ kind = 2,
             .badField),
           (¬ ((s.client (byteAt p 4)).active = true ∧ (s.client (byteAt p 4)).generation = byteAt p 5), .noSuch)])
      ∧ (e.code = 3 → e.part ≠ 0 →
        let l := s.coll e.number
        let n := min s.tiu.cursor.want 13
        let ms := (List.range n).map fun k => field p (4 * k) 4
        let pages (slots : Nat) := (slots + 63) / 64
        let used := l.members.length + l.reserved
        checked
          { s with oct := { s.oct with
            colls := Table.write Coll.free s.oct.colls e.number { l with members := l.members ++ ms }
            freePages := s.oct.freePages + pages used - pages (used + n) } }
          (s.tiu.cursor.want - n)
          [(∃ m ∈ ms, 1048576 ≤ m, .badField),
           (¬ (l.members.getLast?.toList ++ ms).Pairwise (· < ·), .badField),
           (pages used + s.oct.freePages < pages (used + n), .poolFull)])
      ∧ (e.code = 4 → e.part = 0 →
        checked (s.setObject e.number (imageObject p)) (field p 11 4)
          [(1048576 ≤ e.number ∨ byteAt p 0 < 2 ∨ 3 < byteAt p 0 ∨ 15 < byteAt p 1 ∨ 68719476735 < field p 3 6
              ∨ 1024 < field p 9 2, .badField),
           (byteAt p 0 = 2 ∧ field p 9 2 = 0 ∨ byteAt p 0 = 3 ∧ field p 9 2 ≠ 0, .badField)])
      ∧ (e.code = 4 → e.part ≠ 0 →
        let o := s.object e.number
        let want := s.tiu.cursor.want
        let pages (slots : Nat) := (slots + 63) / 64
        let joined (refs : List Ref) (checks : List (Prop × Status)) : Prop :=
          let old := recipeSlots o.recipe
          let new := recipeSlots (o.recipe ++ refs)
          checked
            { s with oct := { s.oct with
              objects := Table.write Obj.free s.oct.objects e.number { o with recipe := o.recipe ++ refs }
              freePages := s.oct.freePages + pages old - pages new } }
            (want - refs.length)
            (checks ++ [(pages old + s.oct.freePages < pages new, .poolFull)])
        let k := byteAt p 1
        let hs := (List.range k).map fun j => field p (2 + 4 * j) 4
        (byteAt p 0 = 1 →
            joined (hs.map Ref.indexed) [(k < 1 ∨ 12 < k ∨ want < k ∨ ∃ h ∈ hs, 33554432 ≤ h, .badField)])
          ∧ (byteAt p 0 = 2 →
            joined [imagePrivate p]
              [(1 < byteAt p 1 ∨ field p 9 3 < 1 ∨ 131072 < field p 9 3, .badField),
               (byteAt p 2 ≠ 255 ∧ (3 < byteAt p 2 ∨ 17179869184 ≤ field p 3 6), .badField),
               (byteAt p 2 = 255 ∧ o.state = .complete, .badField)])
          ∧ (byteAt p 0 ≠ 1 → byteAt p 0 ≠ 2 → applyRecord e s = .refused .badField))
      ∧ (e.code = 5 →
        let x := imageChunk p
        let d := digestBytes x.digest
        checked (s.setChunk e.number x) 0
          [(33554432 ≤ e.number ∨ byteAt p 0 < 2 ∨ 4 < byteAt p 0 ∨ field p 1 3 = 0 ∨ field p 4 3 < 1
              ∨ 131072 < field p 4 3, .badField),
           (byteAt p 7 ≠ 255 ∧ (3 < byteAt p 7 ∨ 17179869184 ≤ field p 8 8), .badField),
           (1 < byteAt p 16 ∨ byteAt p 16 = 1 ∧ 15 < byteAt p 17, .badField),
           (byteAt p 0 = 3 ∧ (byteAt p 7 ≠ 255 ∨ byteAt p 16 = 1) ∨ byteAt p 0 ≠ 3 ∧ byteAt p 7 = 255, .badField),
           (byteAt d 0 * 8192 + byteAt d 1 * 32 + byteAt d 2 / 8 ≠ e.number / 16, .badField),
           (∃ h, s.findDigest x.digest = some h, .badField)])
      ∧ (e.code = 6 →
        (imageGrant p = none ↔
            byteAt p 1 ≠ 1 ∨ 16 ≤ byteAt p 2 ∧ byteAt p 2 ≠ 255
              ∨ ¬ (byteAt p 3 = 1 ∧ field p 4 2 < 1024 ∨ byteAt p 3 = 2 ∧ field p 4 2 < 16)
              ∨ 3 < byteAt p 6 ∨ 1439 < field p 7 2 ∨ 1439 < field p 9 2 ∨ 1 < byteAt p 11)
          ∧ (imageGrant p = none → applyRecord e s = .refused .badField)
          ∧ ∀ g, imageGrant p = some g →
            checked (s.setGrant e.number g) 0
              [(256 ≤ e.number ∨ byteAt p 0 ≠ e.number, .badField),
               (∃ c, g.grantee = .client c ∧ (s.client c).active = false, .noSuch),
               (∃ a, g.target = .album a ∧ (s.coll a).state = .free, .noSuch),
               (∃ c, g.target = .allOf c ∧ (s.client c).active = false, .noSuch),
               (∃ a, g.target = .album a ∧ ((s.coll a).kind = .snapshot ∨ (s.coll a).state ≠ .open), .state),
               (∃ n, s.grantOf g.grantee g.target = some n, .state)])
      ∧ (e.code = 7 →
        let n := field p 1 4
        let appended (o : Order) : State := { s with rtu.orders := s.rtu.orders ++ [o] }
        (byteAt p 0 = 1 → n < 1024 →
            checked (appended (.coll n)) 0
              [((s.coll n).state = .free, .noSuch),
               ((s.coll n).state ≠ .retiring ∨ .coll n ∈ s.rtu.orders, .state)])
          ∧ (byteAt p 0 = 2 → n < 1048576 →
            checked (appended (.object n)) 0
              [((s.object n).state = .free, .noSuch),
               ((s.object n).state ≠ .retiring ∨ .object n ∈ s.rtu.orders, .state)])
          ∧ (¬ (byteAt p 0 = 1 ∧ n < 1024 ∨ byteAt p 0 = 2 ∧ n < 1048576) → applyRecord e s = .refused .badField))
      ∧ (e.code = 8 ∨ e.code = 9 →
        let x : Extent := { bay := byteAt p 0, block := field p 1 6, length := field p 7 3 }
        let tag : Epoch := BitVec.ofNat 32 (field p 12 4)
        let outOfRange : Prop := 3 < x.bay ∨ 17179869184 ≤ x.block ∨ x.length < 1 ∨ 131072 < x.length
        (e.code = 8 →
            checked { s with rtu.release := s.rtu.release ++ [x] } 0
              [(outOfRange, .badField), (4096 ≤ s.rtu.release.length, .full)])
          ∧ (e.code = 9 →
            checked { s with rtu.deferred := s.rtu.deferred ++ [{ extent := x, tag := tag }] } 0
              [(outOfRange, .badField),
               (∃ d, s.rtu.deferred.getLast? = some d ∧ 2147483648 ≤ (tag - d.tag).toNat, .badField),
               (256 ≤ s.rtu.deferred.length, .full)]))
      ∧ (e.code = 10 →
        checked { s with tiu.cursor.trailer := some ((List.range 9).map fun k => field p (4 * k) 4) } 0
          [(e.number ≠ 0, .badField)])
      ∧ (e.code = 0 ∨ 10 < e.code → applyRecord e s = .refused .badField))
  ∧ ∀ (s : State) (r : Request), Offered s .imageEnd r → r.payload = [] →
    let counted : Prop := s.tiu.cursor.trailer = some s.tiu.cursor.applied
    let dangling (x : Nat × Obj) : Prop := ∃ h, .indexed h ∈ x.2.recipe ∧ (s.chunk h).state = .empty
    let miscounted (x : Nat × Chunk) : Prop :=
      x.2.refcount ≠ 16777215 ∧ x.2.refcount ≠ (s.oct.objects.map fun o => o.2.recipe.count (.indexed x.1)).sum
    let stray (x : Nat × Coll) : Prop := ∃ m ∈ x.2.members, (s.object m).state = .free
    let misheld (x : Nat × Obj) : Prop :=
      x.2.holders ≠ (s.oct.colls.filter fun l => decide (x.1 ∈ l.2.members)).length
    let unnamedColl (x : Nat × Coll) : Prop := x.2.state = .retiring ∧ .coll x.1 ∉ s.rtu.orders
    let unnamedObj (x : Nat × Obj) : Prop := x.2.state = .retiring ∧ .object x.1 ∉ s.rtu.orders
    let meets (x : Extent) : Prop :=
      (∃ e ∈ s.chunks, ∃ l, e.2.loc = some l ∧ x.overlaps (l.extent e.2.length) = true)
        ∨ ∃ o ∈ s.oct.objects, ∃ l n d m, .priv (some l) n d m ∈ o.2.recipe ∧ x.overlaps (l.extent n) = true
    let deferred := s.rtu.deferred.map Deferred.extent
    let refs : Prop := (∀ x ∈ s.oct.objects, ¬ dangling x) ∧ ∀ x ∈ s.chunks, ¬ miscounted x
    let members : Prop := (∀ x ∈ s.oct.colls, ¬ stray x) ∧ ∀ x ∈ s.oct.objects, ¬ misheld x
    let orders : Prop := (∀ x ∈ s.oct.colls, ¬ unnamedColl x) ∧ ∀ x ∈ s.oct.objects, ¬ unnamedObj x
    let passes : Prop := counted ∧ refs ∧ members ∧ orders ∧ ∀ x ∈ s.rtu.release ++ deferred, ¬ meets x
    let failed (k : Nat) (number : List Byte) : Prop :=
      Answers .imageEnd s r .state
        ([3#8, (if s.tiu.exporting then 1#8 else 0#8)] ++ le 1 s.tiu.section_ ++ le 8 s.tiu.moved ++ number ++ le 1 k)
        { s.quiet with tiu.load := .loadFailed, free := s.free + 4 }
    (s.tiu.load ≠ .loading → Refused .imageEnd s r .state)
      ∧ (s.tiu.load = .loading → passes →
          let u := makeDeferredCheck { s.quiet with slc.latched := s.slc.latched ||| 512#11, tiu.load := .loaded }
          let v := { u with rpb.epoch := (u.rtu.deferred.getLast?.map Deferred.tag).getD u.rpb.epoch }
          let w := if v.rtu.walk = .idle ∧ (v.rtu.orders.find? v.walkable).isSome ∧ v.tiu.exporting = false then
            { v with rtu := { v.rtu with current := v.rtu.orders.find? v.walkable, nested := none, walk := .walking } } else v
          Answers .imageEnd s r .ok [] (evaluateDue (List.range 16) w))
      ∧ (s.tiu.load = .loading → ¬ passes → ∃ k number, 1 ≤ k ∧ k ≤ 5 ∧ number.length = 4 ∧ failed k number)
      ∧ (s.tiu.load = .loading → ¬ counted → ∃ number, number.length = 4 ∧ failed 1 number)
      ∧ (∀ k x, s.tiu.load = .loading → counted → FirstAt s.oct.objects dangling k x → failed 2 (le 4 x.1))
      ∧ (∀ k x, s.tiu.load = .loading → counted → (∀ y ∈ s.oct.objects, ¬ dangling y) →
          FirstAt s.chunks miscounted k x → failed 2 (le 4 x.1))
      ∧ (∀ k x, s.tiu.load = .loading → counted → refs → FirstAt s.oct.colls stray k x → failed 3 (le 4 x.1))
      ∧ (∀ k x, s.tiu.load = .loading → counted → refs → (∀ y ∈ s.oct.colls, ¬ stray y) →
          FirstAt s.oct.objects misheld k x → failed 3 (le 4 x.1))
      ∧ (∀ k x, s.tiu.load = .loading → counted → refs → members → FirstAt s.oct.colls unnamedColl k x →
          failed 4 (le 4 x.1))
      ∧ (∀ k x, s.tiu.load = .loading → counted → refs → members → (∀ y ∈ s.oct.colls, ¬ unnamedColl y) →
          FirstAt s.oct.objects unnamedObj k x → failed 4 (le 4 x.1))
      ∧ (∀ k x, s.tiu.load = .loading → counted → refs → members → orders → FirstAt s.rtu.release meets k x →
          failed 5 (le 4 k))
      ∧ ∀ k x, s.tiu.load = .loading → counted → refs → members → orders → (∀ y ∈ s.rtu.release, ¬ meets y) →
          FirstAt deferred meets k x → failed 5 (le 4 k)

/-- Table 12.2, Table 12.3, R189, R191: what an export writes of a record an import reads back, field by field: image
records pass their own check, and settings, clients, collections with their members, objects with their recipes, chunk
entries, grants, orders and extents come back as they were.
Table 12.3: the image is sections 1 to 9 in order, each with the records and parts named, and the trailer with their nine
counts.
The layout within a record's content is assumption 13 where Table 12.3 leaves it open. -/
def Obligations.ImageRecordsReadBack : Prop :=
  (∀ (code part number : Nat) (content : List Byte), code < 256 → part < 4294967296 → number < 4294967296 →
    content.length ≤ 53 →
    let record := imageRecord code part number content
    record.length = 64 ∧ goodEntries 64 1 record = [record]
      ∧ ImageEntry.ofBytes record =
          { code := code, part := part, number := number, content := content ++ List.replicate (53 - content.length) 0#8 })
  ∧ (∀ (x : Settings) (pad : List Byte), -32768 ≤ x.zone → x.zone < 32768 → x.lmin < 4294967296 → x.ltgt < 4294967296 →
    x.lmax < 4294967296 → x.budget < 256 → x.spinUp < 256 → x.idle < 65536 → x.spinDown < 256 →
    Settings.ofBytes (x.bytes ++ pad) = x)
  ∧ (∀ (s : State) (c : Nat), c < 16 →
    let x := s.client c
    x.active = true → x.generation < 256 → x.role ≠ .unset → x.address.length = 6 → x.label.length = 16 →
    (∀ q, x.quota = some q → 1 ≤ q ∧ q < 4294967296) → x.charged < 281474976710656 → x.missed < 256 →
    (∀ y, x.schedule = some y → y.period < 65536 ∧ y.nextDue < 4294967296 ∧ y.lead < 65536) →
    ∀ pad, imageClient (slice (s.clientRecord c) 0 46 ++ pad) =
      { x with filters := [], holdStatus := .empty, held := [] })
  ∧ (∀ (s : State) (n : Nat) (pad : List Byte), n < 1024 →
    let l := s.coll n
    l.state ≠ .free → l.owner.1 < 256 → l.owner.2 < 256 → l.created < 4294967296 → (∀ t, l.closed = some t → t < 4294967296) →
    l.members.length < 16777216 → (∀ m ∈ l.members, m < 4294967296) → l.reserved = 0 →
    imageColl (s.collRecord n ++ pad) = { l with members := [] } ∧ field (s.collRecord n ++ pad) 15 3 = l.members.length
      ∧ (pieces 13 l.members.length l.members).flatMap (fun p => fieldsOf (padTo 53 (p.flatMap (le 4))) 0 p.length)
          = l.members)
  ∧ (∀ (o : Obj) (pad : List Byte), o.state = .complete ∨ o.state = .retiring → o.owner.1 < 256 → o.owner.2 < 256 →
    o.length < 281474976710656 → o.holders < 65536 → o.recipe.length < 4294967296 → o.planHolds = 0 →
    imageObject (o.head ++ pad) = { o with recipe := [] } ∧ field (o.head ++ pad) 11 4 = o.recipe.length)
  ∧ (∀ recipe : List Ref,
    (∀ h, .indexed h ∈ recipe → h < 4294967296) →
    (∀ l n d m, .priv l n d m ∈ recipe → n < 16777216 ∧ ∀ x, l = some x → x.bay < 4 ∧ x.block < 17179869184) →
    (recipeParts [] recipe).flatMap (fun part =>
        let p := padTo 53 part
        if byteAt p 0 = 1 then (fieldsOf p 2 (byteAt p 1)).map Ref.indexed else [imagePrivate p]) = recipe)
  ∧ (∀ (h : Nat) (e : Chunk) (pad : List Byte),
    e.state = .present ∨ e.state = .damaged ∨ e.state = .needsWriter → e.refcount < 16777216 → e.length < 16777216 →
    (∀ l, e.loc = some l → l.bay < 4 ∧ l.block < 17179869184) → (∀ c g, e.payer = some (c, g) → c < 16 ∧ g < 256) →
    e.writer = none → imageChunk (e.imageContent h ++ pad) = e)
  ∧ (∀ (s : State) (n : Nat) (pad : List Byte), n < 256 →
    let g := s.grant n
    g.live = true → (∀ c, g.grantee = .client c → c < 16) → (∀ a, g.target = .album a → a < 1024) →
    (∀ c, g.target = .allOf c → c < 16) → g.windowStart < 1440 → g.windowEnd < 1440 →
    (∀ t, g.expiry = some t → t < 4294967296) →
    imageGrant (slice (s.grantRecord n) 0 16 ++ pad) = some g)
  ∧ (∀ s : State,
    let parts (code number : Nat) (contents : List (List Byte)) : List (List Byte) :=
      contents.mapIdx fun k content => imageRecord code k number content
    let groups (members : List Nat) : List (List Byte) :=
      (List.range ((members.length + 12) / 13)).map fun k => ((members.drop (13 * k)).take 13).flatMap (le 4)
    s.imageSection 1 = parts 1 0 [s.tiu.settingsCopy.bytes]
      ∧ s.imageSection 2 = ((List.range 16).flatMap fun c =>
          parts 2 c (slice (s.clientRecord c) 0 46 :: (s.client c).filters.flatMap fun f =>
            [le 2 f.offset ++ le 1 f.pattern.length ++ f.pattern, f.mask]))
      ∧ s.imageSection 3 = (s.oct.colls.flatMap fun x => parts 3 x.1 (s.collRecord x.1 :: groups x.2.members))
      ∧ s.imageSection 4 = (s.oct.objects.flatMap fun x => parts 4 x.1 (x.2.head :: recipeParts [] x.2.recipe))
      ∧ s.imageSection 5 = (s.chunks.map fun x =>
          let entry := x.2.record x.1 [0#8, 0#8]
          imageRecord 5 0 x.1 (slice entry 4 19 ++ slice entry 24 32))
      ∧ s.imageSection 6 = (s.grants.map fun x => imageRecord 6 0 x.1 (slice (s.grantRecord x.1) 0 16))
      ∧ s.imageSection 7 = (s.rtu.orders.mapIdx fun k o =>
          imageRecord 7 0 k (match o with | .coll n => 1#8 :: le 4 n | .object n => 2#8 :: le 4 n))
      ∧ s.imageSection 8 = (s.rtu.release.mapIdx fun k x =>
          imageRecord 8 0 k (le 1 x.bay ++ le 6 x.block ++ le 3 x.length ++ [0#8, 0#8]))
      ∧ s.imageSection 9 = (s.rtu.deferred.mapIdx fun k d =>
          imageRecord 9 0 k
            (le 1 d.extent.bay ++ le 6 d.extent.block ++ le 3 d.extent.length ++ [0#8, 0#8] ++ le 4 d.tag.toNat))
      ∧ s.image =
          [1, 2, 3, 4, 5, 6, 7, 8, 9].flatMap s.imageSection
            ++ [imageRecord 10 0 0 ([1, 2, 3, 4, 5, 6, 7, 8, 9].flatMap fun k => le 4 (s.imageSection k).length)])
  ∧ (∀ (o : Obj), o.head =
      [(match o.state with | .free => 0#8 | .building => 1#8 | .complete => 2#8 | .retiring => 3#8)] ++ le 1 o.owner.1
        ++ le 1 o.owner.2 ++ le 6 o.length ++ le 2 o.holders ++ le 4 o.recipe.length)
  ∧ (∀ (recipe : List Ref), ∀ part ∈ recipeParts [] recipe,
      (∃ hs : List Nat, 1 ≤ hs.length ∧ hs.length ≤ 12 ∧ (∀ h ∈ hs, .indexed h ∈ recipe)
          ∧ part = [1#8] ++ le 1 hs.length ++ hs.flatMap (le 4))
        ∨ ∃ l n d m, .priv l n d m ∈ recipe
          ∧ part = [2#8, if m = true then 1#8 else 0#8] ++ le 1 (l.elim 255 Loc.bay) ++ le 6 (l.elim 0 Loc.block)
            ++ le 3 n ++ digestBytes d)
  ∧ ∀ (pad : List Byte),
    (∀ n, n < 1024 → imageOrder ((Order.coll n).bytes ++ pad) = some (.coll n))
      ∧ (∀ n, n < 1048576 → imageOrder ((Order.object n).bytes ++ pad) = some (.object n))
      ∧ ∀ x : Extent, x.bay < 4 → x.block < 17179869184 → x.length < 16777216 → imageExtent (x.bytes ++ pad) = x

/-! ### The whole part -/

/-- R10, R16, R19, R20, R22, R25, R142, R185, R187: which commands alone can move what. A command that is none of those
named leaves the settings, the clock, the load state, the export, the plan epoch, the templates, the enable set, the
acknowledged flag, the grants and the chunk entries as they are. -/
def Obligations.OnlyTheseCommandsChange : Prop :=
  ∀ (c : Instr) (s t : State), exec c s = .next t → (∀ sense, c ≠ .powerOnReset sense) →
    (c ∉ [Instr.settingsWrite, .imagePut] → t.slc.settings = s.slc.settings)
      ∧ ((∀ sense, c ≠ .secondEvent sense) → c ≠ .clockSet → t.bck = s.bck)
      ∧ (c ∉ [Instr.tablesInit, .imageImport, .imagePut, .imageEnd, .imageCancel] → t.tiu.load = s.tiu.load)
      ∧ (c ∉ [Instr.imageExport, .imageNext, .imageCancel, .imageImport] → t.tiu.exporting = s.tiu.exporting)
      ∧ (c ≠ .planOpen → c ≠ .imageEnd → t.rpb.epoch = s.rpb.epoch)
      ∧ (c ≠ .templateSet → t.nwu.templates = s.nwu.templates)
      ∧ (c ≠ .noticeMask → t.slc.enables = s.slc.enables)
      ∧ (c ∉ [Instr.linkStatus, .linkStatusClearCounts, .trainingComplete] → t.slc.acked = s.slc.acked)
      ∧ ((∀ sense, c ≠ .secondEvent sense) →
          c ∉ [Instr.clockSet, .clientRetire, .retireCollection, .grantSet, .grantClear, .tablesInit, .imageImport, .imagePut] →
          t.grants = s.grants)
      ∧ (c ∉ [Instr.streamData, .streamCommit, .streamAbort, .hostReset, .trainingLost, .referenceRemoval, .releaseTake,
              .planCheck, .tablesInit, .imageImport, .imagePut] → t.chunks = s.chunks)

/-- R155, R156, R157, R159, R160, R164, R170, R171: what every step keeps of the bays and of standby: each bay's timer,
holds and respin agree with its state, the queue lists the QUEUED bays, the total draw keeps to the budget, and in
STANDBY_ENTRY and STANDBY no stream, plan or manual hold stands. -/
def Obligations.StepKeepsBaysAndStandby : Prop :=
  ∀ s t : State, step s = .next t → s.BaysSound → s.StandbySound → t.BaysSound ∧ t.StandbySound

/-- R6, R7, R171, R179, R180, R183, R184: what every step keeps of the network side and the line: the mode follows the
power state, held frames number as their status says and stand in watch mode alone, the queues keep to their sizes, an IDLE
link has nothing to send, and without host power the link is DOWN. -/
def Obligations.StepKeepsTheNetworkSide : Prop :=
  ∀ s t : State, step s = .next t → s.NetworkSound → t.NetworkSound

/-- R5, R22, R33, R34, R117, R129, and the canonical form of the record arrays: what every step keeps of the tables and
sizes, and that no two LIVE grants have one scope. -/
def Obligations.StepKeepsTablesAndSizes : Prop :=
  ∀ s t : State, step s = .next t → s.TablesSound → s.SizesSound →
    t.TablesSound ∧ t.SizesSound ∧ (s.GrantsSound → t.GrantsSound)

/-- The state after reset meets every invariant that the steps keep.
The reset values that the manual leaves open are assumptions 2 and 16. -/
def Obligations.ResetMeetsTheInvariants : Prop :=
  State.reset.BaysSound ∧ State.reset.StandbySound ∧ State.reset.NetworkSound ∧ State.reset.TablesSound
    ∧ State.reset.SizesSound ∧ State.reset.GrantsSound
end

