-- ==== Sys2Proof/Laws/Quiet.lean ====
section
/-!
SUPPORT. What is read off the state does not depend on the WAKE signal of the step before: one lemma per reading.
-/

namespace Sys2Proof.Machine

@[simp] theorem State.quiet_loaded (s : State) : s.quiet.loaded = s.loaded := rfl
@[simp] theorem State.quiet_client (s : State) (n : Nat) : s.quiet.client n = s.client n := rfl
@[simp] theorem State.quiet_stream (s : State) (n : Nat) : s.quiet.stream n = s.stream n := rfl
@[simp] theorem State.quiet_plan (s : State) (n : Nat) : s.quiet.plan n = s.plan n := rfl
@[simp] theorem State.quiet_bay (s : State) (n : Nat) : s.quiet.bay n = s.bay n := rfl
@[simp] theorem State.quiet_chunk (s : State) (h : Nat) : s.quiet.chunk h = s.chunk h := rfl
@[simp] theorem State.quiet_object (s : State) (n : Nat) : s.quiet.object n = s.object n := rfl
@[simp] theorem State.quiet_coll (s : State) (n : Nat) : s.quiet.coll n = s.coll n := rfl
@[simp] theorem State.quiet_grant (s : State) (n : Nat) : s.quiet.grant n = s.grant n := rfl
@[simp] theorem State.quiet_freeBytes (s : State) (n : Nat) : s.quiet.freeBytes n = s.freeBytes n := rfl
@[simp] theorem State.quiet_levelNotices (s : State) : s.quiet.levelNotices = s.levelNotices := rfl
@[simp] theorem State.quiet_pendingNotices (s : State) : s.quiet.pendingNotices = s.pendingNotices := rfl
@[simp] theorem State.quiet_pendingEnabled (s : State) : s.quiet.pendingEnabled = s.pendingEnabled := rfl
@[simp] theorem State.quiet_noticeRecord (s : State) : s.quiet.noticeRecord = s.noticeRecord := rfl
@[simp] theorem State.quiet_noticeSets (s : State) : s.quiet.noticeSets = s.noticeSets := rfl
@[simp] theorem State.quiet_writtenSettings (s : State) (payload : List Byte) : s.quiet.writtenSettings payload = s.writtenSettings payload := rfl
@[simp] theorem State.quiet_forwarded (s : State) : s.quiet.forwarded = s.forwarded := rfl
@[simp] theorem State.quiet_standbyReady (s : State) : s.quiet.standbyReady = s.standbyReady := rfl
@[simp] theorem State.quiet_evaluatedDue (s : State) (cs : List Nat) : s.quiet.evaluatedDue cs = s.evaluatedDue cs := rfl
@[simp] theorem State.quiet_firstRise (s : State) (cs : List Nat) : s.quiet.firstRise cs = s.firstRise cs := rfl
@[simp] theorem State.quiet_scheduledClients (s : State) : s.quiet.scheduledClients = s.scheduledClients := rfl
@[simp] theorem State.quiet_chargeAnswer (s : State) (c g length : Nat) : s.quiet.chargeAnswer c g length = s.chargeAnswer c g length := rfl
@[simp] theorem State.quiet_poolFits (s : State) (old new : Nat) : s.quiet.poolFits old new = s.poolFits old new := rfl
@[simp] theorem State.quiet_walkable (s : State) : s.quiet.walkable = s.walkable := rfl
@[simp] theorem State.quiet_walkRuns (s : State) : s.quiet.walkRuns = s.walkRuns := rfl
@[simp] theorem State.quiet_openEpochs (s : State) : s.quiet.openEpochs = s.openEpochs := rfl
@[simp] theorem State.quiet_findDigest (s : State) (d : Digest) : s.quiet.findDigest d = s.findDigest d := rfl
@[simp] theorem State.quiet_emptyWay (s : State) (d : Digest) : s.quiet.emptyWay d = s.emptyWay d := rfl
@[simp] theorem State.quiet_chooseVerdict (s : State) (d : Digest) : s.quiet.chooseVerdict d = s.chooseVerdict d := rfl
@[simp] theorem State.quiet_verdictCharge (s : State) (v : Verdict) (length : Nat) : s.quiet.verdictCharge v length = s.verdictCharge v length := rfl
@[simp] theorem State.quiet_quotaRefuses (s : State) (amount : Option Nat) (c g : Nat) : s.quiet.quotaRefuses amount c g = s.quotaRefuses amount c g := rfl
@[simp] theorem State.quiet_commitConflict (s : State) (k : ItemKind) (l : Loc) : s.quiet.commitConflict k l = s.commitConflict k l := rfl
@[simp] theorem State.quiet_commitChecks (s : State) (i : Nat) (e : CommitEntry) : s.quiet.commitChecks i e = s.commitChecks i e := rfl
@[simp] theorem State.quiet_minute (s : State) : s.quiet.minute = s.minute := rfl
@[simp] theorem State.quiet_grantOf (s : State) (who : Grantee) (on : Target) : s.quiet.grantOf who on = s.grantOf who on := rfl
@[simp] theorem State.quiet_grantInForce (s : State) (who : Grantee) (on : Target) : s.quiet.grantInForce who on = s.grantInForce who on := rfl
@[simp] theorem State.quiet_decision (s : State) (c a o : Nat) : s.quiet.decision c a o = s.decision c a o := rfl
@[simp] theorem State.quiet_decisionRecord (s : State) (d : Decision) : s.quiet.decisionRecord d = s.decisionRecord d := rfl
@[simp] theorem State.quiet_locate (s : State) : s.quiet.locate = s.locate := rfl
@[simp] theorem State.quiet_allReady (s : State) (set : BitVec 4) : s.quiet.allReady set = s.allReady set := rfl
@[simp] theorem State.quiet_clockRecord (s : State) : s.quiet.clockRecord = s.clockRecord := rfl
@[simp] theorem State.quiet_collectionsOwned (s : State) (c g : Nat) : s.quiet.collectionsOwned c g = s.collectionsOwned c g := rfl
@[simp] theorem State.quiet_streamsOpenOf (s : State) (c : Nat) : s.quiet.streamsOpenOf c = s.streamsOpenOf c := rfl
@[simp] theorem State.quiet_plansOpenOf (s : State) (c : Nat) : s.quiet.plansOpenOf c = s.plansOpenOf c := rfl
@[simp] theorem State.quiet_clientRecord (s : State) (c : Nat) : s.quiet.clientRecord c = s.clientRecord c := rfl
@[simp] theorem State.quiet_addressTaken (s : State) (c : Nat) (a : List Byte) : s.quiet.addressTaken c a = s.addressTaken c a := rfl
@[simp] theorem State.quiet_lowestFreeClient (s : State) : s.quiet.lowestFreeClient = s.lowestFreeClient := rfl
@[simp] theorem State.quiet_clientChosen (s : State) (n : Nat) : s.quiet.clientChosen n = s.clientChosen n := rfl
@[simp] theorem State.quiet_viewerRefused (s : State) (c : Nat) (role : Role) : s.quiet.viewerRefused c role = s.viewerRefused c role := rfl
@[simp] theorem State.quiet_ownsRecords (s : State) (c : Nat) : s.quiet.ownsRecords c = s.ownsRecords c := rfl
@[simp] theorem State.quiet_closedStream (s : State) : s.quiet.closedStream = s.closedStream := rfl
@[simp] theorem State.quiet_freeObject (s : State) : s.quiet.freeObject = s.freeObject := rfl
@[simp] theorem State.quiet_chunkNamed (s : State) (p : List Byte) : s.quiet.chunkNamed p = s.chunkNamed p := rfl
@[simp] theorem State.quiet_collRecord (s : State) (n : Nat) : s.quiet.collRecord n = s.collRecord n := rfl
@[simp] theorem State.quiet_freeColl (s : State) : s.quiet.freeColl = s.freeColl := rfl
@[simp] theorem State.quiet_nextMayAdd (s : State) : s.quiet.nextMayAdd = s.nextMayAdd := rfl
@[simp] theorem State.quiet_walkRecord (s : State) : s.quiet.walkRecord = s.walkRecord := rfl
@[simp] theorem State.quiet_grantRecord (s : State) (n : Nat) : s.quiet.grantRecord n = s.grantRecord n := rfl
@[simp] theorem State.quiet_granteeMissing (s : State) : s.quiet.granteeMissing = s.granteeMissing := rfl
@[simp] theorem State.quiet_freeGrant (s : State) : s.quiet.freeGrant = s.freeGrant := rfl
@[simp] theorem State.quiet_grantPlace (s : State) (g : Grant) : s.quiet.grantPlace g = s.grantPlace g := rfl
@[simp] theorem State.quiet_selectedByScope (s : State) (p : List Byte) : s.quiet.selectedByScope p = s.selectedByScope p := rfl
@[simp] theorem State.quiet_grantNamed (s : State) (p : List Byte) : s.quiet.grantNamed p = s.grantNamed p := rfl
@[simp] theorem State.quiet_grantsRead (s : State) (p : List Byte) : s.quiet.grantsRead p = s.grantsRead p := rfl
@[simp] theorem State.quiet_freePlan (s : State) : s.quiet.freePlan = s.freePlan := rfl
@[simp] theorem State.quiet_isMember (s : State) (c n : Nat) : s.quiet.isMember c n = s.isMember c n := rfl
@[simp] theorem State.quiet_planDecision (s : State) (f : PlanFields) : s.quiet.planDecision f = s.planDecision f := rfl
@[simp] theorem State.quiet_planOpenRecord (s : State) (p : Nat) (f : PlanFields) : s.quiet.planOpenRecord p f = s.planOpenRecord p f := rfl
@[simp] theorem State.quiet_expectedLength (s : State) (ref : Ref) : s.quiet.expectedLength ref = s.expectedLength ref := rfl
@[simp] theorem State.quiet_expectedDigest (s : State) : s.quiet.expectedDigest = s.expectedDigest := rfl
@[simp] theorem State.quiet_planRecipe (s : State) (p : Nat) : s.quiet.planRecipe p = s.planRecipe p := rfl
@[simp] theorem State.quiet_checkContext (s : State) (r : Request) (ref : Ref) : s.quiet.checkContext r ref = s.checkContext r ref := rfl
@[simp] theorem State.quiet_bayStatusRecord (s : State) : s.quiet.bayStatusRecord = s.bayStatusRecord := rfl
@[simp] theorem State.quiet_bayTimerOut (s : State) (i : Nat) (k : BayTimer) : s.quiet.bayTimerOut i k = s.bayTimerOut i k := rfl
@[simp] theorem State.quiet_presenceChange (s : State) (i : Nat) (present : Bool) : s.quiet.presenceChange i present = s.presenceChange i present := rfl
@[simp] theorem State.quiet_streamCount (s : State) : s.quiet.streamCount = s.streamCount := rfl
@[simp] theorem State.quiet_planCount (s : State) : s.quiet.planCount = s.planCount := rfl
@[simp] theorem State.quiet_buttonLatched (s : State) : s.quiet.buttonLatched = s.buttonLatched := rfl
@[simp] theorem State.quiet_anyHold (s : State) : s.quiet.anyHold = s.anyHold := rfl
@[simp] theorem State.quiet_entryStatus (s : State) : s.quiet.entryStatus = s.entryStatus := rfl
@[simp] theorem State.quiet_powerRecord (s : State) : s.quiet.powerRecord = s.powerRecord := rfl
@[simp] theorem State.quiet_matchingClient (s : State) (frame : List Byte) : s.quiet.matchingClient frame = s.matchingClient frame := rfl
@[simp] theorem State.quiet_filterRecord (s : State) (c : Nat) : s.quiet.filterRecord c = s.filterRecord c := rfl
@[simp] theorem State.quiet_template (s : State) (t : Nat) : s.quiet.template t = s.template t := rfl
@[simp] theorem State.quiet_templateRecord (s : State) (t : Nat) : s.quiet.templateRecord t = s.templateRecord t := rfl
@[simp] theorem State.quiet_imageSection (s : State) : s.quiet.imageSection = s.imageSection := rfl
@[simp] theorem State.quiet_sections (s : State) : s.quiet.sections = s.sections := rfl
@[simp] theorem State.quiet_image (s : State) : s.quiet.image = s.image := rfl
@[simp] theorem State.quiet_totalBytes (s : State) : s.quiet.totalBytes = s.totalBytes := rfl
@[simp] theorem State.quiet_ownerStands (s : State) (c g : Nat) : s.quiet.ownerStands c g = s.ownerStands c g := rfl
@[simp] theorem State.quiet_orderMissing (s : State) : s.quiet.orderMissing = s.orderMissing := rfl
@[simp] theorem State.quiet_orderRetiring (s : State) : s.quiet.orderRetiring = s.orderRetiring := rfl
@[simp] theorem State.quiet_refsTo (s : State) (h : Nat) : s.quiet.refsTo h = s.refsTo h := rfl
@[simp] theorem State.quiet_dangling (s : State) : s.quiet.dangling = s.dangling := rfl
@[simp] theorem State.quiet_failedRefs (s : State) : s.quiet.failedRefs = s.failedRefs := rfl
@[simp] theorem State.quiet_listsOf (s : State) (n : Nat) : s.quiet.listsOf n = s.listsOf n := rfl
@[simp] theorem State.quiet_failedMembers (s : State) : s.quiet.failedMembers = s.failedMembers := rfl
@[simp] theorem State.quiet_failedOrders (s : State) : s.quiet.failedOrders = s.failedOrders := rfl
@[simp] theorem State.quiet_liveExtents (s : State) : s.quiet.liveExtents = s.liveExtents := rfl
@[simp] theorem State.quiet_failedExtents (s : State) : s.quiet.failedExtents = s.failedExtents := rfl
@[simp] theorem State.quiet_failedCheck (s : State) : s.quiet.failedCheck = s.failedCheck := rfl

end Sys2Proof.Machine
end

