-- ==== Sys2Proof/Laws/State.lean ====
section
/-!
SUPPORT. One lemma per field for the small updates of the state that many commands share: the end of a WAKE signal, the
model's counter of free bytes, a latched notice, the notice sets, an answer, and the answers' fields.
-/

namespace Sys2Proof.Machine

/-! ### The end of a WAKE signal -/

@[simp] theorem State.quiet_pending (s : State) : s.quiet.pending = s.pending := rfl
@[simp] theorem State.quiet_bck (s : State) : s.quiet.bck = s.bck := rfl
@[simp] theorem State.quiet_clients (s : State) : s.quiet.clients = s.clients := rfl
@[simp] theorem State.quiet_streams (s : State) : s.quiet.streams = s.streams := rfl
@[simp] theorem State.quiet_chunks (s : State) : s.quiet.chunks = s.chunks := rfl
@[simp] theorem State.quiet_oct (s : State) : s.quiet.oct = s.oct := rfl
@[simp] theorem State.quiet_rtu (s : State) : s.quiet.rtu = s.rtu := rfl
@[simp] theorem State.quiet_grants (s : State) : s.quiet.grants = s.grants := rfl
@[simp] theorem State.quiet_rpb (s : State) : s.quiet.rpb = s.rpb := rfl
@[simp] theorem State.quiet_bpc (s : State) : s.quiet.bpc = s.bpc := rfl
@[simp] theorem State.quiet_bxp (s : State) : s.quiet.bxp = s.bxp := rfl
@[simp] theorem State.quiet_nwu (s : State) : s.quiet.nwu = s.nwu := rfl
@[simp] theorem State.quiet_tiu (s : State) : s.quiet.tiu = s.tiu := rfl
@[simp] theorem State.quiet_free (s : State) : s.quiet.free = s.free := rfl
@[simp] theorem State.quiet_slc_link (s : State) : s.quiet.slc.link = s.slc.link := rfl
@[simp] theorem State.quiet_slc_startCause (s : State) : s.quiet.slc.startCause = s.slc.startCause := rfl
@[simp] theorem State.quiet_slc_acked (s : State) : s.quiet.slc.acked = s.slc.acked := rfl
@[simp] theorem State.quiet_slc_receiver (s : State) : s.quiet.slc.receiver = s.slc.receiver := rfl
@[simp] theorem State.quiet_slc_places (s : State) : s.quiet.slc.places = s.slc.places := rfl
@[simp] theorem State.quiet_slc_outgoing (s : State) : s.quiet.slc.outgoing = s.slc.outgoing := rfl
@[simp] theorem State.quiet_slc_sending (s : State) : s.quiet.slc.sending = s.slc.sending := rfl
@[simp] theorem State.quiet_slc_deferred (s : State) : s.quiet.slc.deferred = s.slc.deferred := rfl
@[simp] theorem State.quiet_slc_sleepReq (s : State) : s.quiet.slc.sleepReq = s.slc.sleepReq := rfl
@[simp] theorem State.quiet_slc_linkErrors (s : State) : s.quiet.slc.linkErrors = s.slc.linkErrors := rfl
@[simp] theorem State.quiet_slc_breaks (s : State) : s.quiet.slc.breaks = s.slc.breaks := rfl
@[simp] theorem State.quiet_slc_latched (s : State) : s.quiet.slc.latched = s.slc.latched := rfl
@[simp] theorem State.quiet_slc_enables (s : State) : s.quiet.slc.enables = s.slc.enables := rfl
@[simp] theorem State.quiet_slc_owed (s : State) : s.quiet.slc.owed = s.slc.owed := rfl
@[simp] theorem State.quiet_slc_settings (s : State) : s.quiet.slc.settings = s.slc.settings := rfl
@[simp] theorem State.quiet_slc_wakeOut (s : State) : s.quiet.slc.wakeOut = false := rfl
@[simp] theorem State.quiet_quiet (s : State) : s.quiet.quiet = s.quiet := rfl

/-! ### The counter of free bytes -/

@[simp] theorem State.spend_pending (s : State) (n : Nat) : (s.spend n).pending = s.pending := rfl
@[simp] theorem State.spend_slc (s : State) (n : Nat) : (s.spend n).slc = s.slc := rfl
@[simp] theorem State.spend_bck (s : State) (n : Nat) : (s.spend n).bck = s.bck := rfl
@[simp] theorem State.spend_clients (s : State) (n : Nat) : (s.spend n).clients = s.clients := rfl
@[simp] theorem State.spend_streams (s : State) (n : Nat) : (s.spend n).streams = s.streams := rfl
@[simp] theorem State.spend_chunks (s : State) (n : Nat) : (s.spend n).chunks = s.chunks := rfl
@[simp] theorem State.spend_oct (s : State) (n : Nat) : (s.spend n).oct = s.oct := rfl
@[simp] theorem State.spend_rtu (s : State) (n : Nat) : (s.spend n).rtu = s.rtu := rfl
@[simp] theorem State.spend_grants (s : State) (n : Nat) : (s.spend n).grants = s.grants := rfl
@[simp] theorem State.spend_rpb (s : State) (n : Nat) : (s.spend n).rpb = s.rpb := rfl
@[simp] theorem State.spend_bpc (s : State) (n : Nat) : (s.spend n).bpc = s.bpc := rfl
@[simp] theorem State.spend_bxp (s : State) (n : Nat) : (s.spend n).bxp = s.bxp := rfl
@[simp] theorem State.spend_nwu (s : State) (n : Nat) : (s.spend n).nwu = s.nwu := rfl
@[simp] theorem State.spend_tiu (s : State) (n : Nat) : (s.spend n).tiu = s.tiu := rfl
@[simp] theorem State.spend_free (s : State) (n : Nat) : (s.spend n).free = s.free + n := rfl

/-! ### A latched notice -/

@[simp] theorem latch_pending (n : Notice) (s : State) : (latch n s).pending = s.pending := rfl
@[simp] theorem latch_bck (n : Notice) (s : State) : (latch n s).bck = s.bck := rfl
@[simp] theorem latch_clients (n : Notice) (s : State) : (latch n s).clients = s.clients := rfl
@[simp] theorem latch_streams (n : Notice) (s : State) : (latch n s).streams = s.streams := rfl
@[simp] theorem latch_chunks (n : Notice) (s : State) : (latch n s).chunks = s.chunks := rfl
@[simp] theorem latch_oct (n : Notice) (s : State) : (latch n s).oct = s.oct := rfl
@[simp] theorem latch_rtu (n : Notice) (s : State) : (latch n s).rtu = s.rtu := rfl
@[simp] theorem latch_grants (n : Notice) (s : State) : (latch n s).grants = s.grants := rfl
@[simp] theorem latch_rpb (n : Notice) (s : State) : (latch n s).rpb = s.rpb := rfl
@[simp] theorem latch_bpc (n : Notice) (s : State) : (latch n s).bpc = s.bpc := rfl
@[simp] theorem latch_bxp (n : Notice) (s : State) : (latch n s).bxp = s.bxp := rfl
@[simp] theorem latch_nwu (n : Notice) (s : State) : (latch n s).nwu = s.nwu := rfl
@[simp] theorem latch_tiu (n : Notice) (s : State) : (latch n s).tiu = s.tiu := rfl
@[simp] theorem latch_free (n : Notice) (s : State) : (latch n s).free = s.free := rfl
@[simp] theorem latch_slc_link (n : Notice) (s : State) : (latch n s).slc.link = s.slc.link := rfl
@[simp] theorem latch_slc_startCause (n : Notice) (s : State) : (latch n s).slc.startCause = s.slc.startCause := rfl
@[simp] theorem latch_slc_acked (n : Notice) (s : State) : (latch n s).slc.acked = s.slc.acked := rfl
@[simp] theorem latch_slc_receiver (n : Notice) (s : State) : (latch n s).slc.receiver = s.slc.receiver := rfl
@[simp] theorem latch_slc_places (n : Notice) (s : State) : (latch n s).slc.places = s.slc.places := rfl
@[simp] theorem latch_slc_outgoing (n : Notice) (s : State) : (latch n s).slc.outgoing = s.slc.outgoing := rfl
@[simp] theorem latch_slc_sending (n : Notice) (s : State) : (latch n s).slc.sending = s.slc.sending := rfl
@[simp] theorem latch_slc_deferred (n : Notice) (s : State) : (latch n s).slc.deferred = s.slc.deferred := rfl
@[simp] theorem latch_slc_sleepReq (n : Notice) (s : State) : (latch n s).slc.sleepReq = s.slc.sleepReq := rfl
@[simp] theorem latch_slc_wakeOut (n : Notice) (s : State) : (latch n s).slc.wakeOut = s.slc.wakeOut := rfl
@[simp] theorem latch_slc_linkErrors (n : Notice) (s : State) : (latch n s).slc.linkErrors = s.slc.linkErrors := rfl
@[simp] theorem latch_slc_breaks (n : Notice) (s : State) : (latch n s).slc.breaks = s.slc.breaks := rfl
@[simp] theorem latch_slc_enables (n : Notice) (s : State) : (latch n s).slc.enables = s.slc.enables := rfl
@[simp] theorem latch_slc_owed (n : Notice) (s : State) : (latch n s).slc.owed = s.slc.owed := rfl
@[simp] theorem latch_slc_settings (n : Notice) (s : State) : (latch n s).slc.settings = s.slc.settings := rfl
@[simp] theorem latch_slc_latched (n : Notice) (s : State) : (latch n s).slc.latched = s.slc.latched ||| n.set := rfl

/-! ### Cleared notices -/

@[simp] theorem clearNotices_pending (set : BitVec 11) (s : State) : (clearNotices set s).pending = s.pending := rfl
@[simp] theorem clearNotices_bck (set : BitVec 11) (s : State) : (clearNotices set s).bck = s.bck := rfl
@[simp] theorem clearNotices_clients (set : BitVec 11) (s : State) : (clearNotices set s).clients = s.clients := rfl
@[simp] theorem clearNotices_streams (set : BitVec 11) (s : State) : (clearNotices set s).streams = s.streams := rfl
@[simp] theorem clearNotices_chunks (set : BitVec 11) (s : State) : (clearNotices set s).chunks = s.chunks := rfl
@[simp] theorem clearNotices_oct (set : BitVec 11) (s : State) : (clearNotices set s).oct = s.oct := rfl
@[simp] theorem clearNotices_rtu (set : BitVec 11) (s : State) : (clearNotices set s).rtu = s.rtu := rfl
@[simp] theorem clearNotices_grants (set : BitVec 11) (s : State) : (clearNotices set s).grants = s.grants := rfl
@[simp] theorem clearNotices_rpb (set : BitVec 11) (s : State) : (clearNotices set s).rpb = s.rpb := rfl
@[simp] theorem clearNotices_bpc (set : BitVec 11) (s : State) : (clearNotices set s).bpc = s.bpc := rfl
@[simp] theorem clearNotices_bxp (set : BitVec 11) (s : State) : (clearNotices set s).bxp = s.bxp := rfl
@[simp] theorem clearNotices_nwu (set : BitVec 11) (s : State) : (clearNotices set s).nwu = s.nwu := rfl
@[simp] theorem clearNotices_tiu (set : BitVec 11) (s : State) : (clearNotices set s).tiu = s.tiu := rfl
@[simp] theorem clearNotices_free (set : BitVec 11) (s : State) : (clearNotices set s).free = s.free := rfl
@[simp] theorem clearNotices_slc_link (set : BitVec 11) (s : State) :
    (clearNotices set s).slc.link = s.slc.link := rfl
@[simp] theorem clearNotices_slc_startCause (set : BitVec 11) (s : State) :
    (clearNotices set s).slc.startCause = s.slc.startCause := rfl
@[simp] theorem clearNotices_slc_acked (set : BitVec 11) (s : State) :
    (clearNotices set s).slc.acked = s.slc.acked := rfl
@[simp] theorem clearNotices_slc_receiver (set : BitVec 11) (s : State) :
    (clearNotices set s).slc.receiver = s.slc.receiver := rfl
@[simp] theorem clearNotices_slc_places (set : BitVec 11) (s : State) :
    (clearNotices set s).slc.places = s.slc.places := rfl
@[simp] theorem clearNotices_slc_outgoing (set : BitVec 11) (s : State) :
    (clearNotices set s).slc.outgoing = s.slc.outgoing := rfl
@[simp] theorem clearNotices_slc_sending (set : BitVec 11) (s : State) :
    (clearNotices set s).slc.sending = s.slc.sending := rfl
@[simp] theorem clearNotices_slc_deferred (set : BitVec 11) (s : State) :
    (clearNotices set s).slc.deferred = s.slc.deferred := rfl
@[simp] theorem clearNotices_slc_sleepReq (set : BitVec 11) (s : State) :
    (clearNotices set s).slc.sleepReq = s.slc.sleepReq := rfl
@[simp] theorem clearNotices_slc_wakeOut (set : BitVec 11) (s : State) :
    (clearNotices set s).slc.wakeOut = s.slc.wakeOut := rfl
@[simp] theorem clearNotices_slc_linkErrors (set : BitVec 11) (s : State) :
    (clearNotices set s).slc.linkErrors = s.slc.linkErrors := rfl
@[simp] theorem clearNotices_slc_breaks (set : BitVec 11) (s : State) :
    (clearNotices set s).slc.breaks = s.slc.breaks := rfl
@[simp] theorem clearNotices_slc_enables (set : BitVec 11) (s : State) :
    (clearNotices set s).slc.enables = s.slc.enables := rfl
@[simp] theorem clearNotices_slc_owed (set : BitVec 11) (s : State) :
    (clearNotices set s).slc.owed = s.slc.owed := rfl
@[simp] theorem clearNotices_slc_settings (set : BitVec 11) (s : State) :
    (clearNotices set s).slc.settings = s.slc.settings := rfl
@[simp] theorem clearNotices_slc_latched (set : BitVec 11) (s : State) :
    (clearNotices set s).slc.latched = s.slc.latched &&& ~~~set := rfl

/-! ### The enable set -/

@[simp] theorem maskNotices_pending (set : BitVec 11) (s : State) : (maskNotices set s).pending = s.pending := rfl
@[simp] theorem maskNotices_bck (set : BitVec 11) (s : State) : (maskNotices set s).bck = s.bck := rfl
@[simp] theorem maskNotices_clients (set : BitVec 11) (s : State) : (maskNotices set s).clients = s.clients := rfl
@[simp] theorem maskNotices_streams (set : BitVec 11) (s : State) : (maskNotices set s).streams = s.streams := rfl
@[simp] theorem maskNotices_chunks (set : BitVec 11) (s : State) : (maskNotices set s).chunks = s.chunks := rfl
@[simp] theorem maskNotices_oct (set : BitVec 11) (s : State) : (maskNotices set s).oct = s.oct := rfl
@[simp] theorem maskNotices_rtu (set : BitVec 11) (s : State) : (maskNotices set s).rtu = s.rtu := rfl
@[simp] theorem maskNotices_grants (set : BitVec 11) (s : State) : (maskNotices set s).grants = s.grants := rfl
@[simp] theorem maskNotices_rpb (set : BitVec 11) (s : State) : (maskNotices set s).rpb = s.rpb := rfl
@[simp] theorem maskNotices_bpc (set : BitVec 11) (s : State) : (maskNotices set s).bpc = s.bpc := rfl
@[simp] theorem maskNotices_bxp (set : BitVec 11) (s : State) : (maskNotices set s).bxp = s.bxp := rfl
@[simp] theorem maskNotices_nwu (set : BitVec 11) (s : State) : (maskNotices set s).nwu = s.nwu := rfl
@[simp] theorem maskNotices_tiu (set : BitVec 11) (s : State) : (maskNotices set s).tiu = s.tiu := rfl
@[simp] theorem maskNotices_free (set : BitVec 11) (s : State) : (maskNotices set s).free = s.free := rfl
@[simp] theorem maskNotices_slc_link (set : BitVec 11) (s : State) : (maskNotices set s).slc.link = s.slc.link := rfl
@[simp] theorem maskNotices_slc_startCause (set : BitVec 11) (s : State) :
    (maskNotices set s).slc.startCause = s.slc.startCause := rfl
@[simp] theorem maskNotices_slc_acked (set : BitVec 11) (s : State) :
    (maskNotices set s).slc.acked = s.slc.acked := rfl
@[simp] theorem maskNotices_slc_receiver (set : BitVec 11) (s : State) :
    (maskNotices set s).slc.receiver = s.slc.receiver := rfl
@[simp] theorem maskNotices_slc_places (set : BitVec 11) (s : State) :
    (maskNotices set s).slc.places = s.slc.places := rfl
@[simp] theorem maskNotices_slc_outgoing (set : BitVec 11) (s : State) :
    (maskNotices set s).slc.outgoing = s.slc.outgoing := rfl
@[simp] theorem maskNotices_slc_sending (set : BitVec 11) (s : State) :
    (maskNotices set s).slc.sending = s.slc.sending := rfl
@[simp] theorem maskNotices_slc_deferred (set : BitVec 11) (s : State) :
    (maskNotices set s).slc.deferred = s.slc.deferred := rfl
@[simp] theorem maskNotices_slc_sleepReq (set : BitVec 11) (s : State) :
    (maskNotices set s).slc.sleepReq = s.slc.sleepReq := rfl
@[simp] theorem maskNotices_slc_wakeOut (set : BitVec 11) (s : State) :
    (maskNotices set s).slc.wakeOut = s.slc.wakeOut := rfl
@[simp] theorem maskNotices_slc_linkErrors (set : BitVec 11) (s : State) :
    (maskNotices set s).slc.linkErrors = s.slc.linkErrors := rfl
@[simp] theorem maskNotices_slc_breaks (set : BitVec 11) (s : State) :
    (maskNotices set s).slc.breaks = s.slc.breaks := rfl
@[simp] theorem maskNotices_slc_latched (set : BitVec 11) (s : State) :
    (maskNotices set s).slc.latched = s.slc.latched := rfl
@[simp] theorem maskNotices_slc_owed (set : BitVec 11) (s : State) : (maskNotices set s).slc.owed = s.slc.owed := rfl
@[simp] theorem maskNotices_slc_settings (set : BitVec 11) (s : State) :
    (maskNotices set s).slc.settings = s.slc.settings := rfl
@[simp] theorem maskNotices_slc_enables (set : BitVec 11) (s : State) : (maskNotices set s).slc.enables = set := rfl

/-! ### An answer -/

@[simp] theorem answer_pending (r : Request) (st : Status) (rec : List Byte) (s : State) :
    (answer r st rec s).pending = s.pending := rfl
@[simp] theorem answer_bck (r : Request) (st : Status) (rec : List Byte) (s : State) :
    (answer r st rec s).bck = s.bck := rfl
@[simp] theorem answer_clients (r : Request) (st : Status) (rec : List Byte) (s : State) :
    (answer r st rec s).clients = s.clients := rfl
@[simp] theorem answer_streams (r : Request) (st : Status) (rec : List Byte) (s : State) :
    (answer r st rec s).streams = s.streams := rfl
@[simp] theorem answer_chunks (r : Request) (st : Status) (rec : List Byte) (s : State) :
    (answer r st rec s).chunks = s.chunks := rfl
@[simp] theorem answer_oct (r : Request) (st : Status) (rec : List Byte) (s : State) :
    (answer r st rec s).oct = s.oct := rfl
@[simp] theorem answer_rtu (r : Request) (st : Status) (rec : List Byte) (s : State) :
    (answer r st rec s).rtu = s.rtu := rfl
@[simp] theorem answer_grants (r : Request) (st : Status) (rec : List Byte) (s : State) :
    (answer r st rec s).grants = s.grants := rfl
@[simp] theorem answer_rpb (r : Request) (st : Status) (rec : List Byte) (s : State) :
    (answer r st rec s).rpb = s.rpb := rfl
@[simp] theorem answer_bpc (r : Request) (st : Status) (rec : List Byte) (s : State) :
    (answer r st rec s).bpc = s.bpc := rfl
@[simp] theorem answer_bxp (r : Request) (st : Status) (rec : List Byte) (s : State) :
    (answer r st rec s).bxp = s.bxp := rfl
@[simp] theorem answer_nwu (r : Request) (st : Status) (rec : List Byte) (s : State) :
    (answer r st rec s).nwu = s.nwu := rfl
@[simp] theorem answer_tiu (r : Request) (st : Status) (rec : List Byte) (s : State) :
    (answer r st rec s).tiu = s.tiu := rfl
@[simp] theorem answer_free (r : Request) (st : Status) (rec : List Byte) (s : State) :
    (answer r st rec s).free = s.free := rfl
@[simp] theorem answer_slc_link (r : Request) (st : Status) (rec : List Byte) (s : State) :
    (answer r st rec s).slc.link = s.slc.link := rfl
@[simp] theorem answer_slc_startCause (r : Request) (st : Status) (rec : List Byte) (s : State) :
    (answer r st rec s).slc.startCause = s.slc.startCause := rfl
@[simp] theorem answer_slc_acked (r : Request) (st : Status) (rec : List Byte) (s : State) :
    (answer r st rec s).slc.acked = s.slc.acked := rfl
@[simp] theorem answer_slc_receiver (r : Request) (st : Status) (rec : List Byte) (s : State) :
    (answer r st rec s).slc.receiver = s.slc.receiver := rfl
@[simp] theorem answer_slc_sending (r : Request) (st : Status) (rec : List Byte) (s : State) :
    (answer r st rec s).slc.sending = s.slc.sending := rfl
@[simp] theorem answer_slc_deferred (r : Request) (st : Status) (rec : List Byte) (s : State) :
    (answer r st rec s).slc.deferred = s.slc.deferred := rfl
@[simp] theorem answer_slc_sleepReq (r : Request) (st : Status) (rec : List Byte) (s : State) :
    (answer r st rec s).slc.sleepReq = s.slc.sleepReq := rfl
@[simp] theorem answer_slc_wakeOut (r : Request) (st : Status) (rec : List Byte) (s : State) :
    (answer r st rec s).slc.wakeOut = s.slc.wakeOut := rfl
@[simp] theorem answer_slc_linkErrors (r : Request) (st : Status) (rec : List Byte) (s : State) :
    (answer r st rec s).slc.linkErrors = s.slc.linkErrors := rfl
@[simp] theorem answer_slc_breaks (r : Request) (st : Status) (rec : List Byte) (s : State) :
    (answer r st rec s).slc.breaks = s.slc.breaks := rfl
@[simp] theorem answer_slc_latched (r : Request) (st : Status) (rec : List Byte) (s : State) :
    (answer r st rec s).slc.latched = s.slc.latched := rfl
@[simp] theorem answer_slc_enables (r : Request) (st : Status) (rec : List Byte) (s : State) :
    (answer r st rec s).slc.enables = s.slc.enables := rfl
@[simp] theorem answer_slc_owed (r : Request) (st : Status) (rec : List Byte) (s : State) :
    (answer r st rec s).slc.owed = s.slc.owed := rfl
@[simp] theorem answer_slc_settings (r : Request) (st : Status) (rec : List Byte) (s : State) :
    (answer r st rec s).slc.settings = s.slc.settings := rfl
@[simp] theorem answer_slc_outgoing (r : Request) (st : Status) (rec : List Byte) (s : State) :
    (answer r st rec s).slc.outgoing =
      s.slc.outgoing ++ [.response (some r.slot) r.tag r.aux (st.code :: r.kind.code :: rec)] := rfl
@[simp] theorem answer_slc_places (r : Request) (st : Status) (rec : List Byte) (s : State) :
    (answer r st rec s).slc.places =
      s.slc.places.map fun p => if p.slot = r.slot then { p with phase := .answered } else p := rfl

end Sys2Proof.Machine
end

