-- ==== Sys2Proof/Laws/Step.lean ====
section
/-!
SUPPORT. The shape of a step, once: what an event, a taken request, a list of checks and the end of a step come to.
-/

namespace Sys2Proof.Machine

/-! ### Checks -/

/-- Every check passes exactly when none of its conditions holds. -/
theorem firstFail_none (cs : List (Bool × Status)) : firstFail cs = none ↔ ∀ c ∈ cs, c.1 = false := by
  induction cs with
  | nil => simp [firstFail]
  | cons c cs ih =>
    obtain ⟨b, st⟩ := c
    cases b <;> simp [firstFail, ih]

/-- The checks of two lists, one after the other. -/
theorem firstFail_append (cs ds : List (Bool × Status)) :
    firstFail (cs ++ ds) = (firstFail cs).or (firstFail ds) := by
  induction cs with
  | nil => simp [firstFail]
  | cons c cs ih =>
    obtain ⟨b, st⟩ := c
    cases b <;> simp [firstFail, ih]

@[simp] theorem firstFail_nil : firstFail [] = none := rfl

@[simp] theorem firstFail_pass (st : Status) (cs : List (Bool × Status)) :
    firstFail ((false, st) :: cs) = firstFail cs := rfl

@[simp] theorem firstFail_fail (st : Status) (cs : List (Bool × Status)) :
    firstFail ((true, st) :: cs) = some st := rfl

/-- A request whose checks pass has its effect. -/
theorem guarded_pass (cs : List (Bool × Status)) (r : Request) (f : State → State) (s : State)
    (h : firstFail cs = none) : guarded cs r f s = f s := by
  simp [guarded, h]

/-- A request whose checks fail is refused with the first failing check's status. -/
theorem guarded_fail (cs : List (Bool × Status)) (r : Request) (f : State → State) (s : State) (st : Status)
    (h : firstFail cs = some st) : guarded cs r f s = refuse r st s := by
  simp [guarded, h]

/-- A request of the BXP whose checks pass has its effect and is answered with the power record. -/
theorem powerGuarded_pass (cs : List (Bool × Status)) (r : Request) (f : State → State) (s : State)
    (h : firstFail cs = none) : powerGuarded cs r f s = answerPower r .ok (f s) := by
  simp [powerGuarded, h]

/-- A request of the BXP whose checks fail is answered with the power record. -/
theorem powerGuarded_fail (cs : List (Bool × Status)) (r : Request) (f : State → State) (s : State) (st : Status)
    (h : firstFail cs = some st) : powerGuarded cs r f s = answerPower r st s := by
  simp [powerGuarded, h]

/-- A packet that the SLC answers itself spends the power record's open byte where it carries that record, and none
elsewhere. -/
theorem answerPlace_free (p : Place) (st : Status) (s : State) :
    (answerPlace p st s).free = if p.showsPower then s.free + 1 else s.free := rfl

/-- Apart from the link and the counter of free bytes, a packet that the SLC answers itself changes nothing. -/
theorem answerPlace_eq (p : Place) (st : Status) (s : State) :
    answerPlace p st s = { s with slc := (answerPlace p st s).slc, free := (answerPlace p st s).free } := rfl

/-! ### Events and requests -/

/-- A state after the power the WAKE signal's end took offers the same requests. -/
@[simp] theorem quiet_offered (s : State) (b : Block) : s.quiet.slc.offered b = s.slc.offered b := rfl

/-- The request that waits is taken: its effect, then the end of the step. -/
theorem take_offered (k : Kind) (form : Request → Bool) (f : Request → State → State) (s : State) (r : Request)
    (ho : s.slc.offered k.owner = some r) (hk : r.kind = k) (hf : form r = true) :
    take k form f s = .next (settle s.quiet (f r s.quiet)) := by
  simp [take, event, ho, hk, hf]

/-- With no such request waiting nothing is taken. -/
theorem take_none (k : Kind) (form : Request → Bool) (f : Request → State → State) (s : State)
    (h : ∀ r, s.slc.offered k.owner = some r → ¬ (r.kind = k ∧ form r = true)) :
    take k form f s = .next (settle s.quiet s.quiet) := by
  simp only [take, event, quiet_offered]
  cases ho : s.slc.offered k.owner with
  | none => rfl
  | some r => simp only [if_neg (h r ho)]

/-- A taken request answers a next state, from one of two changes. -/
theorem take_next (k : Kind) (form : Request → Bool) (f : Request → State → State) (s t : State)
    (h : take k form f s = .next t) :
    t = settle s.quiet s.quiet ∨
      ∃ r, s.slc.offered k.owner = some r ∧ r.kind = k ∧ form r = true ∧ t = settle s.quiet (f r s.quiet) := by
  simp only [take, event, quiet_offered] at h
  cases ho : s.slc.offered k.owner with
  | none => simp only [ho] at h; cases h; exact .inl rfl
  | some r =>
    simp only [ho] at h
    split at h
    · rename_i hc; cases h; exact .inr ⟨r, rfl, hc.1, hc.2, rfl⟩
    · cases h; exact .inl rfl

/-- A command that takes its request under checks refuses it with the status of the first check that fails. -/
theorem refused_of_firstFail {i : Instr} {k : Kind} {form : Request → Bool} {s : State} {r : Request} {st : Status}
    (checks : State → Request → List (Bool × Status)) (f : State → Request → State → State)
    (hi : exec i s = take k form (fun r s => guarded (checks s r) r (f s r) s) s) (ho : Offered s k r)
    (hf : form r = true) (hc : firstFail (checks s.quiet r) = some st) : Refused i s r st := by
  rw [Refused, Ends, hi, take_offered k form _ s r ho.1 ho.2 hf, guarded_fail _ _ _ _ _ hc]

/-- The first condition of an ordered refusal is the first check of the list. -/
theorem refusedFirst_cons {i : Instr} {s : State} {r : Request} {b : Bool} {P : Prop} {st : Status}
    {bs : List (Bool × Status)} {rest : List (Prop × Status)} (hb : b = true ↔ P)
    (h : ∀ x, firstFail ((b, st) :: bs) = some x → Refused i s r x)
    (hr : (∀ x, firstFail bs = some x → Refused i s r x) → RefusedFirst i s r rest) :
    RefusedFirst i s r ((P, st) :: rest) := by
  cases b with
  | true => exact ⟨fun _ => h st rfl, fun n => absurd (hb.1 rfl) n⟩
  | false => exact ⟨fun p => absurd (hb.2 p) Bool.false_ne_true, fun _ => hr h⟩

/-- The first condition of an ordered refusal is split over the first check of the list and those that follow it. -/
theorem refusedFirst_or {i : Instr} {s : State} {r : Request} {b : Bool} {P Q : Prop} {st : Status}
    {bs : List (Bool × Status)} {rest : List (Prop × Status)} (hb : b = true ↔ P)
    (h : ∀ x, firstFail ((b, st) :: bs) = some x → Refused i s r x)
    (hr : (∀ x, firstFail bs = some x → Refused i s r x) → RefusedFirst i s r ((Q, st) :: rest)) :
    RefusedFirst i s r ((P ∨ Q, st) :: rest) := by
  cases b with
  | true => exact ⟨fun _ => h st rfl, fun n => absurd (.inl (hb.1 rfl)) n⟩
  | false =>
    have k := hr h
    exact ⟨fun p => k.1 (p.resolve_left fun q => Bool.false_ne_true (hb.2 q)), fun n => k.2 fun q => n (.inr q)⟩

/-! ### The end of a step -/

/-- An ATTENTION changes the outgoing queue alone. -/
theorem placeAttention_form (slc : Slc) :
    slc.placeAttention = { slc with outgoing := slc.placeAttention.outgoing } := by
  unfold Slc.placeAttention
  split <;> rfl

/-- After it an ATTENTION waits in the queue. -/
@[simp] theorem attention_mem_placeAttention (slc : Slc) : .attention ∈ slc.placeAttention.outgoing := by
  unfold Slc.placeAttention
  split <;> simp_all

/-- With one waiting, none is placed. -/
theorem placeAttention_of_mem (slc : Slc) (h : .attention ∈ slc.outgoing) : slc.placeAttention = slc := by
  simp [Slc.placeAttention, h]

/-- Entry to ACTIVE changes the link state, the outgoing queue and the owed flag. -/
theorem slc_enterActive_form (slc : Slc) (p : BitVec 11) (b : Bool) :
    slc.enterActive p b =
      { slc with link := .active, owed := false, outgoing := (slc.enterActive p b).outgoing } := by
  simp only [Slc.enterActive]
  split
  · rw [placeAttention_form]
  · rfl

/-- The end of a step, notices: the outgoing queue or the owed flag. -/
theorem noticeChange_form (before after : State) :
    noticeChange before after =
      { after with slc := { after.slc with outgoing := (noticeChange before after).slc.outgoing
                                           owed := (noticeChange before after).slc.owed } } := by
  unfold noticeChange
  split
  · split <;> (try rw [placeAttention_form]) <;> rfl
  · rfl

/-- The end of a step, the line: link state, outgoing queue, WAKE signal, owed flag. -/
theorem wakeForPacket_form (s : State) :
    wakeForPacket s =
      { s with slc := { s.slc with link := (wakeForPacket s).slc.link
                                   outgoing := (wakeForPacket s).slc.outgoing
                                   wakeOut := (wakeForPacket s).slc.wakeOut
                                   owed := (wakeForPacket s).slc.owed } } := by
  unfold wakeForPacket
  split
  · simp only [partWake, enterActive]
    rw [slc_enterActive_form]
  · rfl

/-- What the end of a step may change: the SLC's link state, outgoing queue, WAKE signal and owed flag. -/
theorem settle_cases (before after : State) :
    ∃ link outgoing wake owed,
      settle before after =
        { after with slc := { after.slc with link := link, outgoing := outgoing, wakeOut := wake, owed := owed } } := by
  unfold settle
  rw [wakeForPacket_form, noticeChange_form]
  exact ⟨_, _, _, _, rfl⟩

/-- The end of a step leaves every block but the SLC as it is. -/
@[simp] theorem settle_frame (before after : State) :
    (settle before after).pending = after.pending ∧ (settle before after).bck = after.bck
      ∧ (settle before after).clients = after.clients ∧ (settle before after).streams = after.streams
      ∧ (settle before after).chunks = after.chunks ∧ (settle before after).oct = after.oct
      ∧ (settle before after).rtu = after.rtu ∧ (settle before after).grants = after.grants
      ∧ (settle before after).rpb = after.rpb ∧ (settle before after).bpc = after.bpc
      ∧ (settle before after).bxp = after.bxp ∧ (settle before after).nwu = after.nwu
      ∧ (settle before after).tiu = after.tiu ∧ (settle before after).free = after.free := by
  obtain ⟨l, o, w, d, h⟩ := settle_cases before after
  rw [h]
  exact ⟨rfl, rfl, rfl, rfl, rfl, rfl, rfl, rfl, rfl, rfl, rfl, rfl, rfl, rfl⟩

/-- The end of a step leaves the rest of the SLC as it is. -/
@[simp] theorem settle_slc_frame (before after : State) :
    (settle before after).slc.startCause = after.slc.startCause ∧ (settle before after).slc.acked = after.slc.acked
      ∧ (settle before after).slc.receiver = after.slc.receiver ∧ (settle before after).slc.places = after.slc.places
      ∧ (settle before after).slc.sending = after.slc.sending ∧ (settle before after).slc.deferred = after.slc.deferred
      ∧ (settle before after).slc.sleepReq = after.slc.sleepReq
      ∧ (settle before after).slc.linkErrors = after.slc.linkErrors
      ∧ (settle before after).slc.breaks = after.slc.breaks ∧ (settle before after).slc.latched = after.slc.latched
      ∧ (settle before after).slc.enables = after.slc.enables
      ∧ (settle before after).slc.settings = after.slc.settings := by
  obtain ⟨l, o, w, d, h⟩ := settle_cases before after
  rw [h]
  exact ⟨rfl, rfl, rfl, rfl, rfl, rfl, rfl, rfl, rfl, rfl, rfl, rfl⟩

/-! ### Byte fields and the wire -/

/-- A number written in `k` bytes has `k` bytes. -/
@[simp] theorem le_length (k n : Nat) : (le k n).length = k := by
  induction k generalizing n with
  | zero => rfl
  | succ k ih => simp [le, ih]

/-- The frame check sequence has 4 bytes. -/
@[simp] theorem frameCheck_length (f : List Byte) : (frameCheck f).length = 4 := le_length 4 _

/-- A frame on the wire has at least 64 bytes: 60 of the padded frame and its check sequence. -/
theorem wireBytes_length (f : List Byte) : (wireBytes f).length = max 60 f.length + 4 := by
  simp only [wireBytes, padTo, List.length_append, List.length_replicate, frameCheck_length]
  omega

/-- The power switch of a bay follows its state alone (Table 9.2). -/
@[simp] theorem switchOn_eq (b : Bpc) (i : Nat) : b.switchOn i = (b.bay i).state.powered := rfl

end Sys2Proof.Machine
end

