-- ==== Sys2Proof/Laws/Frames.lean ====
section
/-!
SUPPORT. Frames: for every operation of the machine, the fields of the state that it leaves as they are. Each lemma is a
conjunction of equations, so that `simp` rewrites with every part of it.
-/

namespace Sys2Proof.Machine

/-- What every step of a fold keeps, the fold keeps. -/
theorem foldl_keeps {α β : Type} (P : α → Prop) (f : α → β → α) (l : List β) (a : α) (h : P a)
    (step : ∀ a b, P a → P (f a b)) : P (l.foldl f a) := by
  induction l generalizing a with
  | nil => exact h
  | cons b l ih => exact ih _ (step _ _ h)

/-- What one entry of a member batch keeps, the batch keeps. -/
theorem memberEntries_keeps (P : State → Prop) (one : Nat → State → Status × State) (es : List (List Byte))
    (sts : List Status) (s : State) (h : P s) (step : ∀ n s, P s → P (one n s).2) :
    P (memberEntries one es sts s).2 := by
  induction es generalizing sts s with
  | nil => exact h
  | cons e es ih => exact ih _ _ (step _ _ h)

/-- A response leaves the rest of the SLC as it is. -/
@[simp] theorem Slc.answer_frame (slc : Slc) (n : Nat) (t : Byte) (a : Half) (p : List Byte) :
    (slc.answer n t a p).link = slc.link ∧ (slc.answer n t a p).startCause = slc.startCause
      ∧ (slc.answer n t a p).acked = slc.acked ∧ (slc.answer n t a p).receiver = slc.receiver
      ∧ (slc.answer n t a p).sending = slc.sending ∧ (slc.answer n t a p).deferred = slc.deferred
      ∧ (slc.answer n t a p).sleepReq = slc.sleepReq ∧ (slc.answer n t a p).wakeOut = slc.wakeOut
      ∧ (slc.answer n t a p).linkErrors = slc.linkErrors ∧ (slc.answer n t a p).breaks = slc.breaks
      ∧ (slc.answer n t a p).latched = slc.latched ∧ (slc.answer n t a p).enables = slc.enables
      ∧ (slc.answer n t a p).owed = slc.owed ∧ (slc.answer n t a p).settings = slc.settings := by
  simp [Slc.answer]

/-- So does an ATTENTION. -/
@[simp] theorem Slc.placeAttention_frame (slc : Slc) :
    slc.placeAttention.link = slc.link ∧ slc.placeAttention.startCause = slc.startCause
      ∧ slc.placeAttention.acked = slc.acked ∧ slc.placeAttention.receiver = slc.receiver
      ∧ slc.placeAttention.places = slc.places ∧ slc.placeAttention.sending = slc.sending
      ∧ slc.placeAttention.deferred = slc.deferred ∧ slc.placeAttention.sleepReq = slc.sleepReq
      ∧ slc.placeAttention.wakeOut = slc.wakeOut ∧ slc.placeAttention.linkErrors = slc.linkErrors
      ∧ slc.placeAttention.breaks = slc.breaks ∧ slc.placeAttention.latched = slc.latched
      ∧ slc.placeAttention.enables = slc.enables ∧ slc.placeAttention.owed = slc.owed
      ∧ slc.placeAttention.settings = slc.settings := by
  rw [placeAttention_form]
  simp

/-- So does entry to ACTIVE. -/
@[simp] theorem Slc.enterActive_frame (slc : Slc) (p : BitVec 11) (b : Bool) :
    (slc.enterActive p b).startCause = slc.startCause ∧ (slc.enterActive p b).acked = slc.acked
      ∧ (slc.enterActive p b).receiver = slc.receiver ∧ (slc.enterActive p b).places = slc.places
      ∧ (slc.enterActive p b).sending = slc.sending ∧ (slc.enterActive p b).deferred = slc.deferred
      ∧ (slc.enterActive p b).sleepReq = slc.sleepReq ∧ (slc.enterActive p b).wakeOut = slc.wakeOut
      ∧ (slc.enterActive p b).linkErrors = slc.linkErrors ∧ (slc.enterActive p b).breaks = slc.breaks
      ∧ (slc.enterActive p b).latched = slc.latched ∧ (slc.enterActive p b).enables = slc.enables
      ∧ (slc.enterActive p b).settings = slc.settings := by
  rw [slc_enterActive_form]
  simp

/-- So does the drop of a session. -/
@[simp] theorem Slc.drop_frame (slc : Slc) :
    slc.drop.link = slc.link ∧ slc.drop.startCause = slc.startCause ∧ slc.drop.acked = slc.acked
      ∧ slc.drop.wakeOut = slc.wakeOut ∧ slc.drop.linkErrors = slc.linkErrors ∧ slc.drop.breaks = slc.breaks
      ∧ slc.drop.latched = slc.latched ∧ slc.drop.enables = slc.enables ∧ slc.drop.settings = slc.settings := by
  simp [Slc.drop]

/-- So does the freeing of a place. -/
@[simp] theorem Slc.freePlace_frame (slc : Slc) (n : Nat) :
    (slc.freePlace n).link = slc.link ∧ (slc.freePlace n).startCause = slc.startCause
      ∧ (slc.freePlace n).acked = slc.acked ∧ (slc.freePlace n).receiver = slc.receiver
      ∧ (slc.freePlace n).outgoing = slc.outgoing ∧ (slc.freePlace n).sending = slc.sending
      ∧ (slc.freePlace n).deferred = slc.deferred ∧ (slc.freePlace n).sleepReq = slc.sleepReq
      ∧ (slc.freePlace n).wakeOut = slc.wakeOut ∧ (slc.freePlace n).linkErrors = slc.linkErrors
      ∧ (slc.freePlace n).breaks = slc.breaks ∧ (slc.freePlace n).latched = slc.latched
      ∧ (slc.freePlace n).enables = slc.enables ∧ (slc.freePlace n).owed = slc.owed
      ∧ (slc.freePlace n).settings = slc.settings := by
  simp [Slc.freePlace]

/-- So does the deferral of a response. -/
@[simp] theorem Slc.deferFinish_frame (slc : Slc) (r : Request) :
    (slc.deferFinish r).link = slc.link ∧ (slc.deferFinish r).startCause = slc.startCause
      ∧ (slc.deferFinish r).acked = slc.acked ∧ (slc.deferFinish r).receiver = slc.receiver
      ∧ (slc.deferFinish r).outgoing = slc.outgoing ∧ (slc.deferFinish r).sending = slc.sending
      ∧ (slc.deferFinish r).sleepReq = slc.sleepReq ∧ (slc.deferFinish r).wakeOut = slc.wakeOut
      ∧ (slc.deferFinish r).linkErrors = slc.linkErrors ∧ (slc.deferFinish r).breaks = slc.breaks
      ∧ (slc.deferFinish r).latched = slc.latched ∧ (slc.deferFinish r).enables = slc.enables
      ∧ (slc.deferFinish r).owed = slc.owed ∧ (slc.deferFinish r).settings = slc.settings := by
  simp [Slc.deferFinish, Slc.freePlace]

@[simp] theorem refuse_frame (r : Request) (st : Status) (s : State) :
    (refuse r st s).pending = s.pending ∧ (refuse r st s).free = s.free
      ∧ (refuse r st s).slc.settings = s.slc.settings ∧ (refuse r st s).slc.latched = s.slc.latched
      ∧ (refuse r st s).slc.enables = s.slc.enables ∧ (refuse r st s).slc.link = s.slc.link
      ∧ (refuse r st s).slc.acked = s.slc.acked ∧ (refuse r st s).slc.receiver = s.slc.receiver
      ∧ (refuse r st s).slc.startCause = s.slc.startCause ∧ (refuse r st s).slc.linkErrors = s.slc.linkErrors
      ∧ (refuse r st s).slc.breaks = s.slc.breaks ∧ (refuse r st s).slc.sending = s.slc.sending
      ∧ (refuse r st s).slc.deferred = s.slc.deferred ∧ (refuse r st s).slc.sleepReq = s.slc.sleepReq
      ∧ (refuse r st s).slc.owed = s.slc.owed ∧ (refuse r st s).slc.wakeOut = s.slc.wakeOut
      ∧ (refuse r st s).bck = s.bck ∧ (refuse r st s).clients = s.clients ∧ (refuse r st s).streams = s.streams
      ∧ (refuse r st s).chunks = s.chunks ∧ (refuse r st s).oct = s.oct ∧ (refuse r st s).rtu = s.rtu
      ∧ (refuse r st s).grants = s.grants ∧ (refuse r st s).rpb = s.rpb ∧ (refuse r st s).bpc = s.bpc
      ∧ (refuse r st s).bxp = s.bxp ∧ (refuse r st s).nwu = s.nwu ∧ (refuse r st s).tiu = s.tiu := by
  unfold refuse
  simp

@[simp] theorem answerBatch_frame (r : Request) (statuses : List Status) (s : State) :
    (answerBatch r statuses s).pending = s.pending ∧ (answerBatch r statuses s).free = s.free
      ∧ (answerBatch r statuses s).slc.settings = s.slc.settings
      ∧ (answerBatch r statuses s).slc.latched = s.slc.latched
      ∧ (answerBatch r statuses s).slc.enables = s.slc.enables ∧ (answerBatch r statuses s).slc.link = s.slc.link
      ∧ (answerBatch r statuses s).slc.acked = s.slc.acked ∧ (answerBatch r statuses s).slc.receiver = s.slc.receiver
      ∧ (answerBatch r statuses s).slc.startCause = s.slc.startCause
      ∧ (answerBatch r statuses s).slc.linkErrors = s.slc.linkErrors
      ∧ (answerBatch r statuses s).slc.breaks = s.slc.breaks ∧ (answerBatch r statuses s).slc.sending = s.slc.sending
      ∧ (answerBatch r statuses s).slc.deferred = s.slc.deferred
      ∧ (answerBatch r statuses s).slc.sleepReq = s.slc.sleepReq ∧ (answerBatch r statuses s).slc.owed = s.slc.owed
      ∧ (answerBatch r statuses s).slc.wakeOut = s.slc.wakeOut ∧ (answerBatch r statuses s).bck = s.bck
      ∧ (answerBatch r statuses s).clients = s.clients ∧ (answerBatch r statuses s).streams = s.streams
      ∧ (answerBatch r statuses s).chunks = s.chunks ∧ (answerBatch r statuses s).oct = s.oct
      ∧ (answerBatch r statuses s).rtu = s.rtu ∧ (answerBatch r statuses s).grants = s.grants
      ∧ (answerBatch r statuses s).rpb = s.rpb ∧ (answerBatch r statuses s).bpc = s.bpc
      ∧ (answerBatch r statuses s).bxp = s.bxp ∧ (answerBatch r statuses s).nwu = s.nwu
      ∧ (answerBatch r statuses s).tiu = s.tiu := by
  unfold answerBatch
  simp

@[simp] theorem enterActive_frame (fromTraining : Bool) (s : State) :
    (enterActive fromTraining s).pending = s.pending ∧ (enterActive fromTraining s).free = s.free
      ∧ (enterActive fromTraining s).slc.settings = s.slc.settings
      ∧ (enterActive fromTraining s).slc.latched = s.slc.latched
      ∧ (enterActive fromTraining s).slc.enables = s.slc.enables
      ∧ (enterActive fromTraining s).slc.places = s.slc.places ∧ (enterActive fromTraining s).slc.acked = s.slc.acked
      ∧ (enterActive fromTraining s).slc.receiver = s.slc.receiver
      ∧ (enterActive fromTraining s).slc.startCause = s.slc.startCause
      ∧ (enterActive fromTraining s).slc.linkErrors = s.slc.linkErrors
      ∧ (enterActive fromTraining s).slc.breaks = s.slc.breaks
      ∧ (enterActive fromTraining s).slc.sending = s.slc.sending
      ∧ (enterActive fromTraining s).slc.deferred = s.slc.deferred
      ∧ (enterActive fromTraining s).slc.sleepReq = s.slc.sleepReq
      ∧ (enterActive fromTraining s).slc.wakeOut = s.slc.wakeOut ∧ (enterActive fromTraining s).bck = s.bck
      ∧ (enterActive fromTraining s).clients = s.clients ∧ (enterActive fromTraining s).streams = s.streams
      ∧ (enterActive fromTraining s).chunks = s.chunks ∧ (enterActive fromTraining s).oct = s.oct
      ∧ (enterActive fromTraining s).rtu = s.rtu ∧ (enterActive fromTraining s).grants = s.grants
      ∧ (enterActive fromTraining s).rpb = s.rpb ∧ (enterActive fromTraining s).bpc = s.bpc
      ∧ (enterActive fromTraining s).bxp = s.bxp ∧ (enterActive fromTraining s).nwu = s.nwu
      ∧ (enterActive fromTraining s).tiu = s.tiu := by
  unfold enterActive
  simp

@[simp] theorem partWake_frame (s : State) :
    (partWake s).pending = s.pending ∧ (partWake s).free = s.free ∧ (partWake s).slc.settings = s.slc.settings
      ∧ (partWake s).slc.latched = s.slc.latched ∧ (partWake s).slc.enables = s.slc.enables
      ∧ (partWake s).slc.places = s.slc.places ∧ (partWake s).slc.acked = s.slc.acked
      ∧ (partWake s).slc.receiver = s.slc.receiver ∧ (partWake s).slc.startCause = s.slc.startCause
      ∧ (partWake s).slc.linkErrors = s.slc.linkErrors ∧ (partWake s).slc.breaks = s.slc.breaks
      ∧ (partWake s).slc.sending = s.slc.sending ∧ (partWake s).slc.deferred = s.slc.deferred
      ∧ (partWake s).slc.sleepReq = s.slc.sleepReq ∧ (partWake s).bck = s.bck ∧ (partWake s).clients = s.clients
      ∧ (partWake s).streams = s.streams ∧ (partWake s).chunks = s.chunks ∧ (partWake s).oct = s.oct
      ∧ (partWake s).rtu = s.rtu ∧ (partWake s).grants = s.grants ∧ (partWake s).rpb = s.rpb
      ∧ (partWake s).bpc = s.bpc ∧ (partWake s).bxp = s.bxp ∧ (partWake s).nwu = s.nwu ∧ (partWake s).tiu = s.tiu := by
  unfold partWake
  simp

@[simp] theorem linkDown_frame (s : State) :
    (linkDown s).pending = s.pending ∧ (linkDown s).free = s.free ∧ (linkDown s).slc.settings = s.slc.settings
      ∧ (linkDown s).slc.latched = s.slc.latched ∧ (linkDown s).slc.enables = s.slc.enables
      ∧ (linkDown s).slc.acked = s.slc.acked ∧ (linkDown s).slc.startCause = s.slc.startCause
      ∧ (linkDown s).slc.linkErrors = s.slc.linkErrors ∧ (linkDown s).slc.breaks = s.slc.breaks
      ∧ (linkDown s).slc.wakeOut = s.slc.wakeOut ∧ (linkDown s).bck = s.bck ∧ (linkDown s).clients = s.clients
      ∧ (linkDown s).streams = s.streams ∧ (linkDown s).chunks = s.chunks ∧ (linkDown s).oct = s.oct
      ∧ (linkDown s).rtu = s.rtu ∧ (linkDown s).grants = s.grants ∧ (linkDown s).rpb = s.rpb
      ∧ (linkDown s).bpc = s.bpc ∧ (linkDown s).bxp = s.bxp ∧ (linkDown s).nwu.mode = s.nwu.mode
      ∧ (linkDown s).nwu.transmit = s.nwu.transmit ∧ (linkDown s).nwu.onWire = s.nwu.onWire
      ∧ (linkDown s).nwu.templates = s.nwu.templates ∧ (linkDown s).tiu = s.tiu := by
  unfold linkDown
  simp

@[simp] theorem sendDeferred_frame (i : Nat) (st : Status) (s : State) :
    (sendDeferred i st s).pending = s.pending ∧ (sendDeferred i st s).free = s.free
      ∧ (sendDeferred i st s).slc.settings = s.slc.settings ∧ (sendDeferred i st s).slc.latched = s.slc.latched
      ∧ (sendDeferred i st s).slc.enables = s.slc.enables ∧ (sendDeferred i st s).slc.places = s.slc.places
      ∧ (sendDeferred i st s).slc.link = s.slc.link ∧ (sendDeferred i st s).slc.acked = s.slc.acked
      ∧ (sendDeferred i st s).slc.receiver = s.slc.receiver ∧ (sendDeferred i st s).slc.startCause = s.slc.startCause
      ∧ (sendDeferred i st s).slc.linkErrors = s.slc.linkErrors ∧ (sendDeferred i st s).slc.breaks = s.slc.breaks
      ∧ (sendDeferred i st s).slc.sending = s.slc.sending ∧ (sendDeferred i st s).slc.sleepReq = s.slc.sleepReq
      ∧ (sendDeferred i st s).slc.owed = s.slc.owed ∧ (sendDeferred i st s).slc.wakeOut = s.slc.wakeOut
      ∧ (sendDeferred i st s).bck = s.bck ∧ (sendDeferred i st s).clients = s.clients
      ∧ (sendDeferred i st s).streams = s.streams ∧ (sendDeferred i st s).chunks = s.chunks
      ∧ (sendDeferred i st s).oct = s.oct ∧ (sendDeferred i st s).rtu = s.rtu
      ∧ (sendDeferred i st s).grants = s.grants ∧ (sendDeferred i st s).rpb = s.rpb
      ∧ (sendDeferred i st s).bpc = s.bpc ∧ (sendDeferred i st s).bxp = s.bxp ∧ (sendDeferred i st s).nwu = s.nwu
      ∧ (sendDeferred i st s).tiu = s.tiu := by
  generalize ht : sendDeferred i st s = t
  unfold sendDeferred at ht
  (try dsimp only at ht)
  (repeat' split at ht) <;> subst ht <;> simp_all

@[simp] theorem holdBay_frame (k : HoldKind) (i : Nat) (s : State) :
    (holdBay k i s).pending = s.pending ∧ (holdBay k i s).free = s.free ∧ (holdBay k i s).slc = s.slc
      ∧ (holdBay k i s).bck = s.bck ∧ (holdBay k i s).clients = s.clients ∧ (holdBay k i s).streams = s.streams
      ∧ (holdBay k i s).chunks = s.chunks ∧ (holdBay k i s).oct = s.oct ∧ (holdBay k i s).rtu = s.rtu
      ∧ (holdBay k i s).grants = s.grants ∧ (holdBay k i s).rpb = s.rpb ∧ (holdBay k i s).bxp = s.bxp
      ∧ (holdBay k i s).nwu = s.nwu ∧ (holdBay k i s).tiu = s.tiu := by
  unfold holdBay
  simp

@[simp] theorem releaseBay_frame (k : HoldKind) (i : Nat) (s : State) :
    (releaseBay k i s).pending = s.pending ∧ (releaseBay k i s).free = s.free ∧ (releaseBay k i s).slc = s.slc
      ∧ (releaseBay k i s).bck = s.bck ∧ (releaseBay k i s).clients = s.clients
      ∧ (releaseBay k i s).streams = s.streams ∧ (releaseBay k i s).chunks = s.chunks ∧ (releaseBay k i s).oct = s.oct
      ∧ (releaseBay k i s).rtu = s.rtu ∧ (releaseBay k i s).grants = s.grants ∧ (releaseBay k i s).rpb = s.rpb
      ∧ (releaseBay k i s).bxp = s.bxp ∧ (releaseBay k i s).nwu = s.nwu ∧ (releaseBay k i s).tiu = s.tiu := by
  unfold releaseBay
  simp

@[simp] theorem releaseFold_frame (k : HoldKind) (l : List Nat) (s : State) :
    (List.foldl (fun s i => releaseBay k i s) s l).pending = s.pending
      ∧ (List.foldl (fun s i => releaseBay k i s) s l).free = s.free
      ∧ (List.foldl (fun s i => releaseBay k i s) s l).slc = s.slc
      ∧ (List.foldl (fun s i => releaseBay k i s) s l).bck = s.bck
      ∧ (List.foldl (fun s i => releaseBay k i s) s l).clients = s.clients
      ∧ (List.foldl (fun s i => releaseBay k i s) s l).streams = s.streams
      ∧ (List.foldl (fun s i => releaseBay k i s) s l).chunks = s.chunks
      ∧ (List.foldl (fun s i => releaseBay k i s) s l).oct = s.oct
      ∧ (List.foldl (fun s i => releaseBay k i s) s l).rtu = s.rtu
      ∧ (List.foldl (fun s i => releaseBay k i s) s l).grants = s.grants
      ∧ (List.foldl (fun s i => releaseBay k i s) s l).rpb = s.rpb
      ∧ (List.foldl (fun s i => releaseBay k i s) s l).bxp = s.bxp
      ∧ (List.foldl (fun s i => releaseBay k i s) s l).nwu = s.nwu
      ∧ (List.foldl (fun s i => releaseBay k i s) s l).tiu = s.tiu := by
  exact foldl_keeps (fun t : State =>
      t.pending = s.pending ∧ t.free = s.free ∧ t.slc = s.slc ∧ t.bck = s.bck ∧ t.clients = s.clients
        ∧ t.streams = s.streams ∧ t.chunks = s.chunks ∧ t.oct = s.oct ∧ t.rtu = s.rtu ∧ t.grants = s.grants
        ∧ t.rpb = s.rpb ∧ t.bxp = s.bxp ∧ t.nwu = s.nwu ∧ t.tiu = s.tiu)
    _ _ _ (⟨rfl, rfl, rfl, rfl, rfl, rfl, rfl, rfl, rfl, rfl, rfl, rfl, rfl, rfl⟩) fun a b h => by simpa using h

@[simp] theorem forwardHeld_frame (s : State) :
    (forwardHeld s).pending = s.pending ∧ (forwardHeld s).free = s.free ∧ (forwardHeld s).slc = s.slc
      ∧ (forwardHeld s).bck = s.bck ∧ (forwardHeld s).streams = s.streams ∧ (forwardHeld s).chunks = s.chunks
      ∧ (forwardHeld s).oct = s.oct ∧ (forwardHeld s).rtu = s.rtu ∧ (forwardHeld s).grants = s.grants
      ∧ (forwardHeld s).rpb = s.rpb ∧ (forwardHeld s).bpc = s.bpc ∧ (forwardHeld s).bxp = s.bxp
      ∧ (forwardHeld s).nwu.transmit = s.nwu.transmit ∧ (forwardHeld s).nwu.onWire = s.nwu.onWire
      ∧ (forwardHeld s).nwu.templates = s.nwu.templates ∧ (forwardHeld s).tiu = s.tiu := by
  unfold forwardHeld
  simp

@[simp] theorem enterRun_frame (s : State) :
    (enterRun s).pending = s.pending ∧ (enterRun s).free = s.free ∧ (enterRun s).slc = s.slc
      ∧ (enterRun s).bck = s.bck ∧ (enterRun s).streams = s.streams ∧ (enterRun s).chunks = s.chunks
      ∧ (enterRun s).oct = s.oct ∧ (enterRun s).rtu = s.rtu ∧ (enterRun s).grants = s.grants
      ∧ (enterRun s).rpb = s.rpb ∧ (enterRun s).bpc = s.bpc ∧ (enterRun s).bxp.returnStandby = s.bxp.returnStandby
      ∧ (enterRun s).bxp.cause = s.bxp.cause ∧ (enterRun s).bxp.failures = s.bxp.failures
      ∧ (enterRun s).bxp.phase = s.bxp.phase ∧ (enterRun s).bxp.sleepAcked = s.bxp.sleepAcked
      ∧ (enterRun s).bxp.lastFailure = s.bxp.lastFailure ∧ (enterRun s).bxp.due = s.bxp.due
      ∧ (enterRun s).nwu.transmit = s.nwu.transmit ∧ (enterRun s).nwu.onWire = s.nwu.onWire
      ∧ (enterRun s).nwu.templates = s.nwu.templates ∧ (enterRun s).tiu = s.tiu := by
  unfold enterRun
  simp

@[simp] theorem enterWatch_frame (s : State) :
    (enterWatch s).pending = s.pending ∧ (enterWatch s).free = s.free ∧ (enterWatch s).slc = s.slc
      ∧ (enterWatch s).bck = s.bck ∧ (enterWatch s).clients = s.clients ∧ (enterWatch s).streams = s.streams
      ∧ (enterWatch s).chunks = s.chunks ∧ (enterWatch s).oct = s.oct ∧ (enterWatch s).rtu = s.rtu
      ∧ (enterWatch s).grants = s.grants ∧ (enterWatch s).rpb = s.rpb ∧ (enterWatch s).bpc = s.bpc
      ∧ (enterWatch s).bxp = s.bxp ∧ (enterWatch s).nwu.transmit = s.nwu.transmit
      ∧ (enterWatch s).nwu.onWire = s.nwu.onWire ∧ (enterWatch s).nwu.templates = s.nwu.templates
      ∧ (enterWatch s).tiu = s.tiu := by
  unfold enterWatch
  simp

@[simp] theorem acceptStandby_frame (s : State) :
    (acceptStandby s).pending = s.pending ∧ (acceptStandby s).free = s.free
      ∧ (acceptStandby s).slc.settings = s.slc.settings ∧ (acceptStandby s).slc.latched = s.slc.latched
      ∧ (acceptStandby s).slc.enables = s.slc.enables ∧ (acceptStandby s).slc.places = s.slc.places
      ∧ (acceptStandby s).slc.link = s.slc.link ∧ (acceptStandby s).slc.acked = s.slc.acked
      ∧ (acceptStandby s).slc.receiver = s.slc.receiver ∧ (acceptStandby s).slc.startCause = s.slc.startCause
      ∧ (acceptStandby s).slc.linkErrors = s.slc.linkErrors ∧ (acceptStandby s).slc.breaks = s.slc.breaks
      ∧ (acceptStandby s).slc.outgoing = s.slc.outgoing ∧ (acceptStandby s).slc.sending = s.slc.sending
      ∧ (acceptStandby s).slc.deferred = s.slc.deferred ∧ (acceptStandby s).slc.owed = s.slc.owed
      ∧ (acceptStandby s).slc.wakeOut = s.slc.wakeOut ∧ (acceptStandby s).bck = s.bck
      ∧ (acceptStandby s).clients = s.clients ∧ (acceptStandby s).streams = s.streams
      ∧ (acceptStandby s).chunks = s.chunks ∧ (acceptStandby s).oct = s.oct ∧ (acceptStandby s).rtu = s.rtu
      ∧ (acceptStandby s).grants = s.grants ∧ (acceptStandby s).rpb = s.rpb
      ∧ (acceptStandby s).bxp.returnStandby = s.bxp.returnStandby ∧ (acceptStandby s).bxp.cause = s.bxp.cause
      ∧ (acceptStandby s).bxp.failures = s.bxp.failures ∧ (acceptStandby s).bxp.phase = s.bxp.phase
      ∧ (acceptStandby s).bxp.lastFailure = s.bxp.lastFailure ∧ (acceptStandby s).bxp.due = s.bxp.due
      ∧ (acceptStandby s).nwu.transmit = s.nwu.transmit ∧ (acceptStandby s).nwu.onWire = s.nwu.onWire
      ∧ (acceptStandby s).nwu.templates = s.nwu.templates ∧ (acceptStandby s).tiu = s.tiu := by
  unfold acceptStandby
  simp

@[simp] theorem enterStandby_frame (s : State) :
    (enterStandby s).pending = s.pending ∧ (enterStandby s).free = s.free
      ∧ (enterStandby s).slc.settings = s.slc.settings ∧ (enterStandby s).slc.latched = s.slc.latched
      ∧ (enterStandby s).slc.enables = s.slc.enables ∧ (enterStandby s).slc.acked = s.slc.acked
      ∧ (enterStandby s).slc.startCause = s.slc.startCause ∧ (enterStandby s).slc.linkErrors = s.slc.linkErrors
      ∧ (enterStandby s).slc.breaks = s.slc.breaks ∧ (enterStandby s).slc.wakeOut = s.slc.wakeOut
      ∧ (enterStandby s).bck = s.bck ∧ (enterStandby s).clients = s.clients ∧ (enterStandby s).streams = s.streams
      ∧ (enterStandby s).chunks = s.chunks ∧ (enterStandby s).oct = s.oct ∧ (enterStandby s).rtu = s.rtu
      ∧ (enterStandby s).grants = s.grants ∧ (enterStandby s).rpb = s.rpb ∧ (enterStandby s).bpc.bays = s.bpc.bays
      ∧ (enterStandby s).bpc.queue = s.bpc.queue ∧ (enterStandby s).bxp.cause = s.bxp.cause
      ∧ (enterStandby s).bxp.failures = s.bxp.failures ∧ (enterStandby s).bxp.phase = s.bxp.phase
      ∧ (enterStandby s).bxp.sleepAcked = s.bxp.sleepAcked ∧ (enterStandby s).bxp.lastFailure = s.bxp.lastFailure
      ∧ (enterStandby s).bxp.due = s.bxp.due ∧ (enterStandby s).nwu.mode = s.nwu.mode
      ∧ (enterStandby s).nwu.transmit = s.nwu.transmit ∧ (enterStandby s).nwu.onWire = s.nwu.onWire
      ∧ (enterStandby s).nwu.templates = s.nwu.templates ∧ (enterStandby s).tiu = s.tiu := by
  unfold enterStandby
  simp

@[simp] theorem completeStandby_frame (s : State) :
    (completeStandby s).pending = s.pending ∧ (completeStandby s).free = s.free
      ∧ (completeStandby s).slc.settings = s.slc.settings ∧ (completeStandby s).slc.latched = s.slc.latched
      ∧ (completeStandby s).slc.enables = s.slc.enables ∧ (completeStandby s).slc.acked = s.slc.acked
      ∧ (completeStandby s).slc.startCause = s.slc.startCause ∧ (completeStandby s).slc.linkErrors = s.slc.linkErrors
      ∧ (completeStandby s).slc.breaks = s.slc.breaks ∧ (completeStandby s).slc.wakeOut = s.slc.wakeOut
      ∧ (completeStandby s).bck = s.bck ∧ (completeStandby s).clients = s.clients
      ∧ (completeStandby s).streams = s.streams ∧ (completeStandby s).chunks = s.chunks
      ∧ (completeStandby s).oct = s.oct ∧ (completeStandby s).rtu = s.rtu ∧ (completeStandby s).grants = s.grants
      ∧ (completeStandby s).rpb = s.rpb ∧ (completeStandby s).bpc.bays = s.bpc.bays
      ∧ (completeStandby s).bpc.queue = s.bpc.queue ∧ (completeStandby s).bxp.cause = s.bxp.cause
      ∧ (completeStandby s).bxp.failures = s.bxp.failures ∧ (completeStandby s).bxp.phase = s.bxp.phase
      ∧ (completeStandby s).bxp.sleepAcked = s.bxp.sleepAcked
      ∧ (completeStandby s).bxp.lastFailure = s.bxp.lastFailure ∧ (completeStandby s).bxp.due = s.bxp.due
      ∧ (completeStandby s).nwu.mode = s.nwu.mode ∧ (completeStandby s).nwu.transmit = s.nwu.transmit
      ∧ (completeStandby s).nwu.onWire = s.nwu.onWire ∧ (completeStandby s).nwu.templates = s.nwu.templates
      ∧ (completeStandby s).tiu = s.tiu := by
  unfold completeStandby
  (repeat' split) <;> simp_all

@[simp] theorem abandonStandby_frame (why : StandbyFailure) (s : State) :
    (abandonStandby why s).pending = s.pending ∧ (abandonStandby why s).free = s.free
      ∧ (abandonStandby why s).slc.settings = s.slc.settings ∧ (abandonStandby why s).slc.enables = s.slc.enables
      ∧ (abandonStandby why s).slc.places = s.slc.places ∧ (abandonStandby why s).slc.acked = s.slc.acked
      ∧ (abandonStandby why s).slc.receiver = s.slc.receiver
      ∧ (abandonStandby why s).slc.startCause = s.slc.startCause
      ∧ (abandonStandby why s).slc.linkErrors = s.slc.linkErrors ∧ (abandonStandby why s).slc.breaks = s.slc.breaks
      ∧ (abandonStandby why s).slc.sending = s.slc.sending ∧ (abandonStandby why s).slc.deferred = s.slc.deferred
      ∧ (abandonStandby why s).bck = s.bck ∧ (abandonStandby why s).streams = s.streams
      ∧ (abandonStandby why s).chunks = s.chunks ∧ (abandonStandby why s).oct = s.oct
      ∧ (abandonStandby why s).rtu = s.rtu ∧ (abandonStandby why s).grants = s.grants
      ∧ (abandonStandby why s).rpb = s.rpb ∧ (abandonStandby why s).bxp.returnStandby = s.bxp.returnStandby
      ∧ (abandonStandby why s).bxp.cause = s.bxp.cause ∧ (abandonStandby why s).bxp.failures = s.bxp.failures
      ∧ (abandonStandby why s).bxp.phase = s.bxp.phase ∧ (abandonStandby why s).bxp.sleepAcked = s.bxp.sleepAcked
      ∧ (abandonStandby why s).bxp.due = s.bxp.due ∧ (abandonStandby why s).nwu.transmit = s.nwu.transmit
      ∧ (abandonStandby why s).nwu.onWire = s.nwu.onWire ∧ (abandonStandby why s).nwu.templates = s.nwu.templates
      ∧ (abandonStandby why s).tiu = s.tiu := by
  generalize ht : abandonStandby why s = t
  unfold abandonStandby at ht
  (try dsimp only at ht)
  (repeat' split at ht) <;> subst ht <;> simp_all

@[simp] theorem startWake_frame (cause : WakeCause) (toStandby : Bool) (s : State) :
    (startWake cause toStandby s).pending = s.pending ∧ (startWake cause toStandby s).free = s.free
      ∧ (startWake cause toStandby s).slc = s.slc ∧ (startWake cause toStandby s).bck = s.bck
      ∧ (startWake cause toStandby s).clients = s.clients ∧ (startWake cause toStandby s).streams = s.streams
      ∧ (startWake cause toStandby s).chunks = s.chunks ∧ (startWake cause toStandby s).oct = s.oct
      ∧ (startWake cause toStandby s).rtu = s.rtu ∧ (startWake cause toStandby s).grants = s.grants
      ∧ (startWake cause toStandby s).rpb = s.rpb ∧ (startWake cause toStandby s).bpc = s.bpc
      ∧ (startWake cause toStandby s).bxp.sleepAcked = s.bxp.sleepAcked
      ∧ (startWake cause toStandby s).bxp.lastFailure = s.bxp.lastFailure
      ∧ (startWake cause toStandby s).bxp.due = s.bxp.due ∧ (startWake cause toStandby s).nwu = s.nwu
      ∧ (startWake cause toStandby s).tiu = s.tiu := by
  unfold startWake
  simp

@[simp] theorem dueRise_frame (c : Nat) (s : State) :
    (dueRise c s).pending = s.pending ∧ (dueRise c s).free = s.free ∧ (dueRise c s).slc.settings = s.slc.settings
      ∧ (dueRise c s).slc.enables = s.slc.enables ∧ (dueRise c s).slc.places = s.slc.places
      ∧ (dueRise c s).slc.acked = s.slc.acked ∧ (dueRise c s).slc.receiver = s.slc.receiver
      ∧ (dueRise c s).slc.startCause = s.slc.startCause ∧ (dueRise c s).slc.linkErrors = s.slc.linkErrors
      ∧ (dueRise c s).slc.breaks = s.slc.breaks ∧ (dueRise c s).slc.sending = s.slc.sending
      ∧ (dueRise c s).slc.deferred = s.slc.deferred ∧ (dueRise c s).bck = s.bck ∧ (dueRise c s).streams = s.streams
      ∧ (dueRise c s).chunks = s.chunks ∧ (dueRise c s).oct = s.oct ∧ (dueRise c s).rtu = s.rtu
      ∧ (dueRise c s).grants = s.grants ∧ (dueRise c s).rpb = s.rpb ∧ (dueRise c s).bxp.sleepAcked = s.bxp.sleepAcked
      ∧ (dueRise c s).bxp.due = s.bxp.due ∧ (dueRise c s).nwu.transmit = s.nwu.transmit
      ∧ (dueRise c s).nwu.onWire = s.nwu.onWire ∧ (dueRise c s).nwu.templates = s.nwu.templates
      ∧ (dueRise c s).tiu = s.tiu := by
  unfold dueRise
  (repeat' split) <;> simp_all

@[simp] theorem frameHeldReport_frame (c : Nat) (s : State) :
    (frameHeldReport c s).pending = s.pending ∧ (frameHeldReport c s).free = s.free
      ∧ (frameHeldReport c s).slc.settings = s.slc.settings ∧ (frameHeldReport c s).slc.enables = s.slc.enables
      ∧ (frameHeldReport c s).slc.places = s.slc.places ∧ (frameHeldReport c s).slc.acked = s.slc.acked
      ∧ (frameHeldReport c s).slc.receiver = s.slc.receiver ∧ (frameHeldReport c s).slc.startCause = s.slc.startCause
      ∧ (frameHeldReport c s).slc.linkErrors = s.slc.linkErrors ∧ (frameHeldReport c s).slc.breaks = s.slc.breaks
      ∧ (frameHeldReport c s).slc.sending = s.slc.sending ∧ (frameHeldReport c s).slc.deferred = s.slc.deferred
      ∧ (frameHeldReport c s).bck = s.bck ∧ (frameHeldReport c s).streams = s.streams
      ∧ (frameHeldReport c s).chunks = s.chunks ∧ (frameHeldReport c s).oct = s.oct
      ∧ (frameHeldReport c s).rtu = s.rtu ∧ (frameHeldReport c s).grants = s.grants
      ∧ (frameHeldReport c s).rpb = s.rpb ∧ (frameHeldReport c s).bxp.sleepAcked = s.bxp.sleepAcked
      ∧ (frameHeldReport c s).bxp.due = s.bxp.due ∧ (frameHeldReport c s).nwu.transmit = s.nwu.transmit
      ∧ (frameHeldReport c s).nwu.onWire = s.nwu.onWire ∧ (frameHeldReport c s).nwu.templates = s.nwu.templates
      ∧ (frameHeldReport c s).tiu = s.tiu := by
  unfold frameHeldReport
  (repeat' split) <;> simp_all

@[simp] theorem dropDue_frame (c : Nat) (s : State) :
    (dropDue c s).pending = s.pending ∧ (dropDue c s).free = s.free ∧ (dropDue c s).slc = s.slc
      ∧ (dropDue c s).bck = s.bck ∧ (dropDue c s).clients = s.clients ∧ (dropDue c s).streams = s.streams
      ∧ (dropDue c s).chunks = s.chunks ∧ (dropDue c s).oct = s.oct ∧ (dropDue c s).rtu = s.rtu
      ∧ (dropDue c s).grants = s.grants ∧ (dropDue c s).rpb = s.rpb ∧ (dropDue c s).bpc = s.bpc
      ∧ (dropDue c s).bxp.power = s.bxp.power ∧ (dropDue c s).bxp.returnStandby = s.bxp.returnStandby
      ∧ (dropDue c s).bxp.cause = s.bxp.cause ∧ (dropDue c s).bxp.failures = s.bxp.failures
      ∧ (dropDue c s).bxp.phase = s.bxp.phase ∧ (dropDue c s).bxp.timer = s.bxp.timer
      ∧ (dropDue c s).bxp.sleepAcked = s.bxp.sleepAcked ∧ (dropDue c s).bxp.lastFailure = s.bxp.lastFailure
      ∧ (dropDue c s).nwu = s.nwu ∧ (dropDue c s).tiu = s.tiu := by
  unfold dropDue
  simp

@[simp] theorem evaluateDue_frame (cs : List Nat) (s : State) :
    (evaluateDue cs s).pending = s.pending ∧ (evaluateDue cs s).free = s.free
      ∧ (evaluateDue cs s).slc.settings = s.slc.settings ∧ (evaluateDue cs s).slc.enables = s.slc.enables
      ∧ (evaluateDue cs s).slc.places = s.slc.places ∧ (evaluateDue cs s).slc.acked = s.slc.acked
      ∧ (evaluateDue cs s).slc.receiver = s.slc.receiver ∧ (evaluateDue cs s).slc.startCause = s.slc.startCause
      ∧ (evaluateDue cs s).slc.linkErrors = s.slc.linkErrors ∧ (evaluateDue cs s).slc.breaks = s.slc.breaks
      ∧ (evaluateDue cs s).slc.sending = s.slc.sending ∧ (evaluateDue cs s).slc.deferred = s.slc.deferred
      ∧ (evaluateDue cs s).bck = s.bck ∧ (evaluateDue cs s).streams = s.streams ∧ (evaluateDue cs s).chunks = s.chunks
      ∧ (evaluateDue cs s).oct = s.oct ∧ (evaluateDue cs s).rtu = s.rtu ∧ (evaluateDue cs s).grants = s.grants
      ∧ (evaluateDue cs s).rpb = s.rpb ∧ (evaluateDue cs s).bxp.sleepAcked = s.bxp.sleepAcked
      ∧ (evaluateDue cs s).nwu.transmit = s.nwu.transmit ∧ (evaluateDue cs s).nwu.onWire = s.nwu.onWire
      ∧ (evaluateDue cs s).nwu.templates = s.nwu.templates ∧ (evaluateDue cs s).tiu = s.tiu := by
  unfold evaluateDue
  (try dsimp only)
  (repeat' split) <;> simp_all

@[simp] theorem bayReport_frame (s : State) :
    (bayReport s).pending = s.pending ∧ (bayReport s).free = s.free ∧ (bayReport s).slc.settings = s.slc.settings
      ∧ (bayReport s).slc.latched = s.slc.latched ∧ (bayReport s).slc.enables = s.slc.enables
      ∧ (bayReport s).slc.acked = s.slc.acked ∧ (bayReport s).slc.startCause = s.slc.startCause
      ∧ (bayReport s).slc.linkErrors = s.slc.linkErrors ∧ (bayReport s).slc.breaks = s.slc.breaks
      ∧ (bayReport s).slc.wakeOut = s.slc.wakeOut ∧ (bayReport s).bck = s.bck ∧ (bayReport s).clients = s.clients
      ∧ (bayReport s).streams = s.streams ∧ (bayReport s).chunks = s.chunks ∧ (bayReport s).oct = s.oct
      ∧ (bayReport s).rtu = s.rtu ∧ (bayReport s).grants = s.grants ∧ (bayReport s).rpb = s.rpb
      ∧ (bayReport s).bpc.bays = s.bpc.bays ∧ (bayReport s).bpc.queue = s.bpc.queue
      ∧ (bayReport s).bxp.cause = s.bxp.cause ∧ (bayReport s).bxp.failures = s.bxp.failures
      ∧ (bayReport s).bxp.phase = s.bxp.phase ∧ (bayReport s).bxp.sleepAcked = s.bxp.sleepAcked
      ∧ (bayReport s).bxp.lastFailure = s.bxp.lastFailure ∧ (bayReport s).bxp.due = s.bxp.due
      ∧ (bayReport s).nwu.mode = s.nwu.mode ∧ (bayReport s).nwu.transmit = s.nwu.transmit
      ∧ (bayReport s).nwu.onWire = s.nwu.onWire ∧ (bayReport s).nwu.templates = s.nwu.templates
      ∧ (bayReport s).tiu = s.tiu := by
  unfold bayReport
  simp

@[simp] theorem charge_frame (c g length : Nat) (s : State) :
    (charge c g length s).pending = s.pending ∧ (charge c g length s).free = s.free
      ∧ (charge c g length s).slc = s.slc ∧ (charge c g length s).bck = s.bck
      ∧ (charge c g length s).streams = s.streams ∧ (charge c g length s).chunks = s.chunks
      ∧ (charge c g length s).oct = s.oct ∧ (charge c g length s).rtu = s.rtu
      ∧ (charge c g length s).grants = s.grants ∧ (charge c g length s).rpb = s.rpb
      ∧ (charge c g length s).bpc = s.bpc ∧ (charge c g length s).bxp = s.bxp ∧ (charge c g length s).nwu = s.nwu
      ∧ (charge c g length s).tiu = s.tiu := by
  generalize ht : charge c g length s = t
  unfold charge at ht
  (try dsimp only at ht)
  (repeat' split at ht) <;> subst ht <;> simp_all

@[simp] theorem refund_frame (c g length : Nat) (s : State) :
    (refund c g length s).pending = s.pending ∧ (refund c g length s).free = s.free
      ∧ (refund c g length s).slc = s.slc ∧ (refund c g length s).bck = s.bck
      ∧ (refund c g length s).streams = s.streams ∧ (refund c g length s).chunks = s.chunks
      ∧ (refund c g length s).oct = s.oct ∧ (refund c g length s).rtu = s.rtu
      ∧ (refund c g length s).grants = s.grants ∧ (refund c g length s).rpb = s.rpb
      ∧ (refund c g length s).bpc = s.bpc ∧ (refund c g length s).bxp = s.bxp ∧ (refund c g length s).nwu = s.nwu
      ∧ (refund c g length s).tiu = s.tiu := by
  generalize ht : refund c g length s = t
  unfold refund at ht
  (try dsimp only at ht)
  (repeat' split at ht) <;> subst ht <;> simp_all

@[simp] theorem refundPayer_frame (payer : Option (Nat × Nat)) (length : Nat) (s : State) :
    (refundPayer payer length s).pending = s.pending ∧ (refundPayer payer length s).free = s.free
      ∧ (refundPayer payer length s).slc = s.slc ∧ (refundPayer payer length s).bck = s.bck
      ∧ (refundPayer payer length s).streams = s.streams ∧ (refundPayer payer length s).chunks = s.chunks
      ∧ (refundPayer payer length s).oct = s.oct ∧ (refundPayer payer length s).rtu = s.rtu
      ∧ (refundPayer payer length s).grants = s.grants ∧ (refundPayer payer length s).rpb = s.rpb
      ∧ (refundPayer payer length s).bpc = s.bpc ∧ (refundPayer payer length s).bxp = s.bxp
      ∧ (refundPayer payer length s).nwu = s.nwu ∧ (refundPayer payer length s).tiu = s.tiu := by
  unfold refundPayer
  (repeat' split) <;> simp_all

@[simp] theorem repage_frame (old new : Nat) (s : State) :
    (repage old new s).pending = s.pending ∧ (repage old new s).free = s.free ∧ (repage old new s).slc = s.slc
      ∧ (repage old new s).bck = s.bck ∧ (repage old new s).clients = s.clients
      ∧ (repage old new s).streams = s.streams ∧ (repage old new s).chunks = s.chunks
      ∧ (repage old new s).oct.objects = s.oct.objects ∧ (repage old new s).oct.colls = s.oct.colls
      ∧ (repage old new s).rtu = s.rtu ∧ (repage old new s).grants = s.grants ∧ (repage old new s).rpb = s.rpb
      ∧ (repage old new s).bpc = s.bpc ∧ (repage old new s).bxp = s.bxp ∧ (repage old new s).nwu = s.nwu
      ∧ (repage old new s).tiu = s.tiu := by
  unfold repage
  simp

@[simp] theorem setRecipe_frame (n : Nat) (recipe : List Ref) (s : State) :
    (setRecipe n recipe s).pending = s.pending ∧ (setRecipe n recipe s).free = s.free
      ∧ (setRecipe n recipe s).slc = s.slc ∧ (setRecipe n recipe s).bck = s.bck
      ∧ (setRecipe n recipe s).clients = s.clients ∧ (setRecipe n recipe s).streams = s.streams
      ∧ (setRecipe n recipe s).chunks = s.chunks ∧ (setRecipe n recipe s).oct.colls = s.oct.colls
      ∧ (setRecipe n recipe s).rtu = s.rtu ∧ (setRecipe n recipe s).grants = s.grants
      ∧ (setRecipe n recipe s).rpb = s.rpb ∧ (setRecipe n recipe s).bpc = s.bpc ∧ (setRecipe n recipe s).bxp = s.bxp
      ∧ (setRecipe n recipe s).nwu = s.nwu ∧ (setRecipe n recipe s).tiu = s.tiu := by
  unfold setRecipe
  simp

@[simp] theorem replaceColl_frame (n : Nat) (c : Coll) (s : State) :
    (replaceColl n c s).pending = s.pending ∧ (replaceColl n c s).free = s.free ∧ (replaceColl n c s).slc = s.slc
      ∧ (replaceColl n c s).bck = s.bck ∧ (replaceColl n c s).clients = s.clients
      ∧ (replaceColl n c s).streams = s.streams ∧ (replaceColl n c s).chunks = s.chunks
      ∧ (replaceColl n c s).oct.objects = s.oct.objects ∧ (replaceColl n c s).rtu = s.rtu
      ∧ (replaceColl n c s).grants = s.grants ∧ (replaceColl n c s).rpb = s.rpb ∧ (replaceColl n c s).bpc = s.bpc
      ∧ (replaceColl n c s).bxp = s.bxp ∧ (replaceColl n c s).nwu = s.nwu ∧ (replaceColl n c s).tiu = s.tiu := by
  unfold replaceColl
  simp

@[simp] theorem takeOldest_frame (s : State) :
    (takeOldest s).pending = s.pending ∧ (takeOldest s).free = s.free ∧ (takeOldest s).slc = s.slc
      ∧ (takeOldest s).bck = s.bck ∧ (takeOldest s).clients = s.clients ∧ (takeOldest s).streams = s.streams
      ∧ (takeOldest s).chunks = s.chunks ∧ (takeOldest s).oct = s.oct ∧ (takeOldest s).rtu.orders = s.rtu.orders
      ∧ (takeOldest s).rtu.release = s.rtu.release ∧ (takeOldest s).rtu.deferred = s.rtu.deferred
      ∧ (takeOldest s).rtu.reserved = s.rtu.reserved ∧ (takeOldest s).rtu.lastBatch = s.rtu.lastBatch
      ∧ (takeOldest s).grants = s.grants ∧ (takeOldest s).rpb = s.rpb ∧ (takeOldest s).bpc = s.bpc
      ∧ (takeOldest s).bxp = s.bxp ∧ (takeOldest s).nwu = s.nwu ∧ (takeOldest s).tiu = s.tiu := by
  generalize ht : takeOldest s = t
  unfold takeOldest at ht
  (try dsimp only at ht)
  (repeat' split at ht) <;> subst ht <;> simp_all

@[simp] theorem takeIfIdle_frame (s : State) :
    (takeIfIdle s).pending = s.pending ∧ (takeIfIdle s).free = s.free ∧ (takeIfIdle s).slc = s.slc
      ∧ (takeIfIdle s).bck = s.bck ∧ (takeIfIdle s).clients = s.clients ∧ (takeIfIdle s).streams = s.streams
      ∧ (takeIfIdle s).chunks = s.chunks ∧ (takeIfIdle s).oct = s.oct ∧ (takeIfIdle s).rtu.orders = s.rtu.orders
      ∧ (takeIfIdle s).rtu.release = s.rtu.release ∧ (takeIfIdle s).rtu.deferred = s.rtu.deferred
      ∧ (takeIfIdle s).rtu.reserved = s.rtu.reserved ∧ (takeIfIdle s).rtu.lastBatch = s.rtu.lastBatch
      ∧ (takeIfIdle s).grants = s.grants ∧ (takeIfIdle s).rpb = s.rpb ∧ (takeIfIdle s).bpc = s.bpc
      ∧ (takeIfIdle s).bxp = s.bxp ∧ (takeIfIdle s).nwu = s.nwu ∧ (takeIfIdle s).tiu = s.tiu := by
  unfold takeIfIdle
  (repeat' split) <;> simp_all

@[simp] theorem appendOrder_frame (o : Order) (s : State) :
    (appendOrder o s).pending = s.pending ∧ (appendOrder o s).free = s.free ∧ (appendOrder o s).slc = s.slc
      ∧ (appendOrder o s).bck = s.bck ∧ (appendOrder o s).clients = s.clients ∧ (appendOrder o s).streams = s.streams
      ∧ (appendOrder o s).chunks = s.chunks ∧ (appendOrder o s).oct = s.oct
      ∧ (appendOrder o s).rtu.release = s.rtu.release ∧ (appendOrder o s).rtu.deferred = s.rtu.deferred
      ∧ (appendOrder o s).rtu.reserved = s.rtu.reserved ∧ (appendOrder o s).rtu.lastBatch = s.rtu.lastBatch
      ∧ (appendOrder o s).grants = s.grants ∧ (appendOrder o s).rpb = s.rpb ∧ (appendOrder o s).bpc = s.bpc
      ∧ (appendOrder o s).bxp = s.bxp ∧ (appendOrder o s).nwu = s.nwu ∧ (appendOrder o s).tiu = s.tiu := by
  unfold appendOrder
  simp

@[simp] theorem endWalk_frame (o : Order) (s : State) :
    (endWalk o s).pending = s.pending ∧ (endWalk o s).free = s.free ∧ (endWalk o s).slc = s.slc
      ∧ (endWalk o s).bck = s.bck ∧ (endWalk o s).clients = s.clients ∧ (endWalk o s).streams = s.streams
      ∧ (endWalk o s).chunks = s.chunks ∧ (endWalk o s).oct = s.oct ∧ (endWalk o s).rtu.release = s.rtu.release
      ∧ (endWalk o s).rtu.deferred = s.rtu.deferred ∧ (endWalk o s).rtu.reserved = s.rtu.reserved
      ∧ (endWalk o s).rtu.lastBatch = s.rtu.lastBatch ∧ (endWalk o s).grants = s.grants ∧ (endWalk o s).rpb = s.rpb
      ∧ (endWalk o s).bpc = s.bpc ∧ (endWalk o s).bxp = s.bxp ∧ (endWalk o s).nwu = s.nwu ∧ (endWalk o s).tiu = s.tiu := by
  unfold endWalk
  simp

@[simp] theorem releaseExtent_frame (loc : Option Loc) (length : Nat) (s : State) :
    (releaseExtent loc length s).pending = s.pending ∧ (releaseExtent loc length s).free = s.free
      ∧ (releaseExtent loc length s).slc = s.slc ∧ (releaseExtent loc length s).bck = s.bck
      ∧ (releaseExtent loc length s).clients = s.clients ∧ (releaseExtent loc length s).streams = s.streams
      ∧ (releaseExtent loc length s).chunks = s.chunks ∧ (releaseExtent loc length s).oct = s.oct
      ∧ (releaseExtent loc length s).rtu.orders = s.rtu.orders
      ∧ (releaseExtent loc length s).rtu.current = s.rtu.current
      ∧ (releaseExtent loc length s).rtu.nested = s.rtu.nested ∧ (releaseExtent loc length s).rtu.walk = s.rtu.walk
      ∧ (releaseExtent loc length s).rtu.deferred = s.rtu.deferred
      ∧ (releaseExtent loc length s).rtu.reserved = s.rtu.reserved
      ∧ (releaseExtent loc length s).rtu.lastBatch = s.rtu.lastBatch ∧ (releaseExtent loc length s).grants = s.grants
      ∧ (releaseExtent loc length s).rpb = s.rpb ∧ (releaseExtent loc length s).bpc = s.bpc
      ∧ (releaseExtent loc length s).bxp = s.bxp ∧ (releaseExtent loc length s).nwu = s.nwu
      ∧ (releaseExtent loc length s).tiu = s.tiu := by
  generalize ht : releaseExtent loc length s = t
  unfold releaseExtent at ht
  (try dsimp only at ht)
  (repeat' split at ht) <;> subst ht <;> simp_all

@[simp] theorem makeDeferredCheck_frame (s : State) :
    (makeDeferredCheck s).pending = s.pending ∧ (makeDeferredCheck s).free = s.free
      ∧ (makeDeferredCheck s).slc = s.slc ∧ (makeDeferredCheck s).bck = s.bck
      ∧ (makeDeferredCheck s).clients = s.clients ∧ (makeDeferredCheck s).streams = s.streams
      ∧ (makeDeferredCheck s).chunks = s.chunks ∧ (makeDeferredCheck s).oct = s.oct
      ∧ (makeDeferredCheck s).rtu.orders = s.rtu.orders ∧ (makeDeferredCheck s).rtu.current = s.rtu.current
      ∧ (makeDeferredCheck s).rtu.nested = s.rtu.nested ∧ (makeDeferredCheck s).rtu.walk = s.rtu.walk
      ∧ (makeDeferredCheck s).rtu.reserved = s.rtu.reserved ∧ (makeDeferredCheck s).rtu.lastBatch = s.rtu.lastBatch
      ∧ (makeDeferredCheck s).grants = s.grants ∧ (makeDeferredCheck s).rpb = s.rpb
      ∧ (makeDeferredCheck s).bpc = s.bpc ∧ (makeDeferredCheck s).bxp = s.bxp ∧ (makeDeferredCheck s).nwu = s.nwu
      ∧ (makeDeferredCheck s).tiu = s.tiu := by
  generalize ht : makeDeferredCheck s = t
  unfold makeDeferredCheck at ht
  (try dsimp only at ht)
  (repeat' split at ht) <;> subst ht <;> simp_all

@[simp] theorem returnReservation_frame (s : State) :
    (returnReservation s).pending = s.pending ∧ (returnReservation s).free = s.free
      ∧ (returnReservation s).slc = s.slc ∧ (returnReservation s).bck = s.bck
      ∧ (returnReservation s).clients = s.clients ∧ (returnReservation s).streams = s.streams
      ∧ (returnReservation s).chunks = s.chunks ∧ (returnReservation s).oct = s.oct
      ∧ (returnReservation s).rtu.orders = s.rtu.orders ∧ (returnReservation s).rtu.current = s.rtu.current
      ∧ (returnReservation s).rtu.nested = s.rtu.nested ∧ (returnReservation s).rtu.walk = s.rtu.walk
      ∧ (returnReservation s).rtu.release = s.rtu.release ∧ (returnReservation s).rtu.deferred = s.rtu.deferred
      ∧ (returnReservation s).rtu.lastBatch = s.rtu.lastBatch ∧ (returnReservation s).grants = s.grants
      ∧ (returnReservation s).rpb = s.rpb ∧ (returnReservation s).bpc = s.bpc ∧ (returnReservation s).bxp = s.bxp
      ∧ (returnReservation s).nwu = s.nwu ∧ (returnReservation s).tiu = s.tiu := by
  unfold returnReservation
  simp

@[simp] theorem decrement_frame (h : Nat) (s : State) :
    (decrement h s).pending = s.pending ∧ (decrement h s).free = s.free ∧ (decrement h s).slc = s.slc
      ∧ (decrement h s).bck = s.bck ∧ (decrement h s).streams = s.streams ∧ (decrement h s).oct = s.oct
      ∧ (decrement h s).rtu.orders = s.rtu.orders ∧ (decrement h s).rtu.current = s.rtu.current
      ∧ (decrement h s).rtu.nested = s.rtu.nested ∧ (decrement h s).rtu.walk = s.rtu.walk
      ∧ (decrement h s).rtu.deferred = s.rtu.deferred ∧ (decrement h s).rtu.reserved = s.rtu.reserved
      ∧ (decrement h s).rtu.lastBatch = s.rtu.lastBatch ∧ (decrement h s).grants = s.grants
      ∧ (decrement h s).rpb = s.rpb ∧ (decrement h s).bpc = s.bpc ∧ (decrement h s).bxp = s.bxp
      ∧ (decrement h s).nwu = s.nwu ∧ (decrement h s).tiu = s.tiu := by
  unfold decrement
  (try dsimp only)
  (repeat' split) <;> simp_all

@[simp] theorem completeStream_frame (i : Nat) (s : State) :
    (completeStream i s).pending = s.pending ∧ (completeStream i s).free = s.free
      ∧ (completeStream i s).slc.settings = s.slc.settings ∧ (completeStream i s).slc.latched = s.slc.latched
      ∧ (completeStream i s).slc.enables = s.slc.enables ∧ (completeStream i s).slc.places = s.slc.places
      ∧ (completeStream i s).slc.link = s.slc.link ∧ (completeStream i s).slc.acked = s.slc.acked
      ∧ (completeStream i s).slc.receiver = s.slc.receiver ∧ (completeStream i s).slc.startCause = s.slc.startCause
      ∧ (completeStream i s).slc.linkErrors = s.slc.linkErrors ∧ (completeStream i s).slc.breaks = s.slc.breaks
      ∧ (completeStream i s).slc.sending = s.slc.sending ∧ (completeStream i s).slc.sleepReq = s.slc.sleepReq
      ∧ (completeStream i s).slc.owed = s.slc.owed ∧ (completeStream i s).slc.wakeOut = s.slc.wakeOut
      ∧ (completeStream i s).bck = s.bck ∧ (completeStream i s).clients = s.clients
      ∧ (completeStream i s).chunks = s.chunks ∧ (completeStream i s).rtu = s.rtu
      ∧ (completeStream i s).grants = s.grants ∧ (completeStream i s).rpb = s.rpb ∧ (completeStream i s).bxp = s.bxp
      ∧ (completeStream i s).nwu = s.nwu ∧ (completeStream i s).tiu = s.tiu := by
  generalize ht : completeStream i s = t
  unfold completeStream at ht
  (try dsimp only at ht)
  (repeat' split at ht) <;> subst ht <;> simp_all

@[simp] theorem completeFinished_frame (s : State) :
    (completeFinished s).pending = s.pending ∧ (completeFinished s).free = s.free
      ∧ (completeFinished s).slc.settings = s.slc.settings ∧ (completeFinished s).slc.latched = s.slc.latched
      ∧ (completeFinished s).slc.enables = s.slc.enables ∧ (completeFinished s).slc.places = s.slc.places
      ∧ (completeFinished s).slc.link = s.slc.link ∧ (completeFinished s).slc.acked = s.slc.acked
      ∧ (completeFinished s).slc.receiver = s.slc.receiver ∧ (completeFinished s).slc.startCause = s.slc.startCause
      ∧ (completeFinished s).slc.linkErrors = s.slc.linkErrors ∧ (completeFinished s).slc.breaks = s.slc.breaks
      ∧ (completeFinished s).slc.sending = s.slc.sending ∧ (completeFinished s).slc.sleepReq = s.slc.sleepReq
      ∧ (completeFinished s).slc.owed = s.slc.owed ∧ (completeFinished s).slc.wakeOut = s.slc.wakeOut
      ∧ (completeFinished s).bck = s.bck ∧ (completeFinished s).clients = s.clients
      ∧ (completeFinished s).chunks = s.chunks ∧ (completeFinished s).rtu = s.rtu
      ∧ (completeFinished s).grants = s.grants ∧ (completeFinished s).rpb = s.rpb ∧ (completeFinished s).bxp = s.bxp
      ∧ (completeFinished s).nwu = s.nwu ∧ (completeFinished s).tiu = s.tiu := by
  unfold completeFinished
  refine foldl_keeps (fun t : State =>
      t.pending = s.pending ∧ t.free = s.free ∧ t.slc.settings = s.slc.settings ∧ t.slc.latched = s.slc.latched
        ∧ t.slc.enables = s.slc.enables ∧ t.slc.places = s.slc.places ∧ t.slc.link = s.slc.link
        ∧ t.slc.acked = s.slc.acked ∧ t.slc.receiver = s.slc.receiver ∧ t.slc.startCause = s.slc.startCause
        ∧ t.slc.linkErrors = s.slc.linkErrors ∧ t.slc.breaks = s.slc.breaks ∧ t.slc.sending = s.slc.sending
        ∧ t.slc.sleepReq = s.slc.sleepReq ∧ t.slc.owed = s.slc.owed ∧ t.slc.wakeOut = s.slc.wakeOut ∧ t.bck = s.bck
        ∧ t.clients = s.clients ∧ t.chunks = s.chunks ∧ t.rtu = s.rtu ∧ t.grants = s.grants ∧ t.rpb = s.rpb
        ∧ t.bxp = s.bxp ∧ t.nwu = s.nwu ∧ t.tiu = s.tiu)
    _ _ _ (⟨rfl, rfl, rfl, rfl, rfl, rfl, rfl, rfl, rfl, rfl, rfl, rfl, rfl, rfl, rfl, rfl, rfl, rfl, rfl, rfl, rfl, rfl, rfl, rfl, rfl⟩) fun a b h => ?_
  (try split) <;> simpa using h

@[simp] theorem settleHandle_frame (h : Nat) (s : State) :
    (settleHandle h s).pending = s.pending ∧ (settleHandle h s).free = s.free
      ∧ (settleHandle h s).slc.settings = s.slc.settings ∧ (settleHandle h s).slc.latched = s.slc.latched
      ∧ (settleHandle h s).slc.enables = s.slc.enables ∧ (settleHandle h s).slc.places = s.slc.places
      ∧ (settleHandle h s).slc.link = s.slc.link ∧ (settleHandle h s).slc.acked = s.slc.acked
      ∧ (settleHandle h s).slc.receiver = s.slc.receiver ∧ (settleHandle h s).slc.startCause = s.slc.startCause
      ∧ (settleHandle h s).slc.linkErrors = s.slc.linkErrors ∧ (settleHandle h s).slc.breaks = s.slc.breaks
      ∧ (settleHandle h s).slc.sending = s.slc.sending ∧ (settleHandle h s).slc.sleepReq = s.slc.sleepReq
      ∧ (settleHandle h s).slc.owed = s.slc.owed ∧ (settleHandle h s).slc.wakeOut = s.slc.wakeOut
      ∧ (settleHandle h s).bck = s.bck ∧ (settleHandle h s).clients = s.clients ∧ (settleHandle h s).chunks = s.chunks
      ∧ (settleHandle h s).rtu = s.rtu ∧ (settleHandle h s).grants = s.grants ∧ (settleHandle h s).rpb = s.rpb
      ∧ (settleHandle h s).bxp = s.bxp ∧ (settleHandle h s).nwu = s.nwu ∧ (settleHandle h s).tiu = s.tiu := by
  unfold settleHandle
  simp_all

@[simp] theorem haltStream_frame (i : Nat) (why : HaltReason) (s : State) :
    (haltStream i why s).pending = s.pending ∧ (haltStream i why s).free = s.free
      ∧ (haltStream i why s).slc.settings = s.slc.settings ∧ (haltStream i why s).slc.latched = s.slc.latched
      ∧ (haltStream i why s).slc.enables = s.slc.enables ∧ (haltStream i why s).slc.places = s.slc.places
      ∧ (haltStream i why s).slc.link = s.slc.link ∧ (haltStream i why s).slc.acked = s.slc.acked
      ∧ (haltStream i why s).slc.receiver = s.slc.receiver ∧ (haltStream i why s).slc.startCause = s.slc.startCause
      ∧ (haltStream i why s).slc.linkErrors = s.slc.linkErrors ∧ (haltStream i why s).slc.breaks = s.slc.breaks
      ∧ (haltStream i why s).slc.sending = s.slc.sending ∧ (haltStream i why s).slc.sleepReq = s.slc.sleepReq
      ∧ (haltStream i why s).slc.owed = s.slc.owed ∧ (haltStream i why s).slc.wakeOut = s.slc.wakeOut
      ∧ (haltStream i why s).bck = s.bck ∧ (haltStream i why s).clients = s.clients
      ∧ (haltStream i why s).chunks = s.chunks ∧ (haltStream i why s).oct = s.oct ∧ (haltStream i why s).rtu = s.rtu
      ∧ (haltStream i why s).grants = s.grants ∧ (haltStream i why s).rpb = s.rpb ∧ (haltStream i why s).bpc = s.bpc
      ∧ (haltStream i why s).bxp = s.bxp ∧ (haltStream i why s).nwu = s.nwu ∧ (haltStream i why s).tiu = s.tiu := by
  generalize ht : haltStream i why s = t
  unfold haltStream at ht
  (try dsimp only at ht)
  (repeat' split at ht) <;> subst ht <;> simp_all

@[simp] theorem applyVerdict_frame (v : Verdict) (i c g : Nat) (d : Digest) (length : Nat) (s : State) :
    (applyVerdict v i c g d length s).pending = s.pending ∧ (applyVerdict v i c g d length s).free = s.free
      ∧ (applyVerdict v i c g d length s).slc = s.slc ∧ (applyVerdict v i c g d length s).bck = s.bck
      ∧ (applyVerdict v i c g d length s).clients = s.clients ∧ (applyVerdict v i c g d length s).streams = s.streams
      ∧ (applyVerdict v i c g d length s).oct = s.oct ∧ (applyVerdict v i c g d length s).rtu.orders = s.rtu.orders
      ∧ (applyVerdict v i c g d length s).rtu.current = s.rtu.current
      ∧ (applyVerdict v i c g d length s).rtu.nested = s.rtu.nested
      ∧ (applyVerdict v i c g d length s).rtu.walk = s.rtu.walk
      ∧ (applyVerdict v i c g d length s).rtu.release = s.rtu.release
      ∧ (applyVerdict v i c g d length s).rtu.deferred = s.rtu.deferred
      ∧ (applyVerdict v i c g d length s).rtu.lastBatch = s.rtu.lastBatch
      ∧ (applyVerdict v i c g d length s).grants = s.grants ∧ (applyVerdict v i c g d length s).rpb = s.rpb
      ∧ (applyVerdict v i c g d length s).bpc = s.bpc ∧ (applyVerdict v i c g d length s).bxp = s.bxp
      ∧ (applyVerdict v i c g d length s).nwu = s.nwu ∧ (applyVerdict v i c g d length s).tiu = s.tiu := by
  generalize ht : applyVerdict v i c g d length s = t
  unfold applyVerdict at ht
  (try dsimp only at ht)
  (repeat' split at ht) <;> subst ht <;> simp_all

@[simp] theorem chargeVerdict_frame (amount : Option Nat) (c g : Nat) (s : State) :
    (chargeVerdict amount c g s).pending = s.pending ∧ (chargeVerdict amount c g s).free = s.free
      ∧ (chargeVerdict amount c g s).slc = s.slc ∧ (chargeVerdict amount c g s).bck = s.bck
      ∧ (chargeVerdict amount c g s).streams = s.streams ∧ (chargeVerdict amount c g s).chunks = s.chunks
      ∧ (chargeVerdict amount c g s).oct = s.oct ∧ (chargeVerdict amount c g s).rtu = s.rtu
      ∧ (chargeVerdict amount c g s).grants = s.grants ∧ (chargeVerdict amount c g s).rpb = s.rpb
      ∧ (chargeVerdict amount c g s).bpc = s.bpc ∧ (chargeVerdict amount c g s).bxp = s.bxp
      ∧ (chargeVerdict amount c g s).nwu = s.nwu ∧ (chargeVerdict amount c g s).tiu = s.tiu := by
  unfold chargeVerdict
  (repeat' split) <;> simp_all

@[simp] theorem appendRef_frame (n : Nat) (ref : Ref) (length : Nat) (s : State) :
    (appendRef n ref length s).pending = s.pending ∧ (appendRef n ref length s).free = s.free
      ∧ (appendRef n ref length s).slc = s.slc ∧ (appendRef n ref length s).bck = s.bck
      ∧ (appendRef n ref length s).clients = s.clients ∧ (appendRef n ref length s).streams = s.streams
      ∧ (appendRef n ref length s).chunks = s.chunks ∧ (appendRef n ref length s).oct.colls = s.oct.colls
      ∧ (appendRef n ref length s).rtu = s.rtu ∧ (appendRef n ref length s).grants = s.grants
      ∧ (appendRef n ref length s).rpb = s.rpb ∧ (appendRef n ref length s).bpc = s.bpc
      ∧ (appendRef n ref length s).bxp = s.bxp ∧ (appendRef n ref length s).nwu = s.nwu
      ∧ (appendRef n ref length s).tiu = s.tiu := by
  unfold appendRef
  simp

@[simp] theorem loseWriter_frame (h : Nat) (s : State) :
    (loseWriter h s).pending = s.pending ∧ (loseWriter h s).free = s.free ∧ (loseWriter h s).slc = s.slc
      ∧ (loseWriter h s).bck = s.bck ∧ (loseWriter h s).streams = s.streams ∧ (loseWriter h s).oct = s.oct
      ∧ (loseWriter h s).rtu = s.rtu ∧ (loseWriter h s).grants = s.grants ∧ (loseWriter h s).rpb = s.rpb
      ∧ (loseWriter h s).bpc = s.bpc ∧ (loseWriter h s).bxp = s.bxp ∧ (loseWriter h s).nwu = s.nwu
      ∧ (loseWriter h s).tiu = s.tiu := by
  unfold loseWriter
  simp

@[simp] theorem commitNew_frame (i h : Nat) (ok : Bool) (l : Loc) (s : State) :
    (commitNew i h ok l s).pending = s.pending ∧ (commitNew i h ok l s).free = s.free
      ∧ (commitNew i h ok l s).slc.settings = s.slc.settings ∧ (commitNew i h ok l s).slc.latched = s.slc.latched
      ∧ (commitNew i h ok l s).slc.enables = s.slc.enables ∧ (commitNew i h ok l s).slc.places = s.slc.places
      ∧ (commitNew i h ok l s).slc.link = s.slc.link ∧ (commitNew i h ok l s).slc.acked = s.slc.acked
      ∧ (commitNew i h ok l s).slc.receiver = s.slc.receiver
      ∧ (commitNew i h ok l s).slc.startCause = s.slc.startCause
      ∧ (commitNew i h ok l s).slc.linkErrors = s.slc.linkErrors ∧ (commitNew i h ok l s).slc.breaks = s.slc.breaks
      ∧ (commitNew i h ok l s).slc.sending = s.slc.sending ∧ (commitNew i h ok l s).slc.sleepReq = s.slc.sleepReq
      ∧ (commitNew i h ok l s).slc.owed = s.slc.owed ∧ (commitNew i h ok l s).slc.wakeOut = s.slc.wakeOut
      ∧ (commitNew i h ok l s).bck = s.bck ∧ (commitNew i h ok l s).rtu = s.rtu
      ∧ (commitNew i h ok l s).grants = s.grants ∧ (commitNew i h ok l s).rpb = s.rpb
      ∧ (commitNew i h ok l s).bxp = s.bxp ∧ (commitNew i h ok l s).nwu = s.nwu ∧ (commitNew i h ok l s).tiu = s.tiu := by
  unfold commitNew
  (try dsimp only)
  (repeat' split) <;> simp_all

@[simp] theorem commitPrivate_frame (i ordinal : Nat) (ok : Bool) (l : Loc) (s : State) :
    (commitPrivate i ordinal ok l s).pending = s.pending ∧ (commitPrivate i ordinal ok l s).free = s.free
      ∧ (commitPrivate i ordinal ok l s).slc.settings = s.slc.settings
      ∧ (commitPrivate i ordinal ok l s).slc.latched = s.slc.latched
      ∧ (commitPrivate i ordinal ok l s).slc.enables = s.slc.enables
      ∧ (commitPrivate i ordinal ok l s).slc.places = s.slc.places
      ∧ (commitPrivate i ordinal ok l s).slc.link = s.slc.link
      ∧ (commitPrivate i ordinal ok l s).slc.acked = s.slc.acked
      ∧ (commitPrivate i ordinal ok l s).slc.receiver = s.slc.receiver
      ∧ (commitPrivate i ordinal ok l s).slc.startCause = s.slc.startCause
      ∧ (commitPrivate i ordinal ok l s).slc.linkErrors = s.slc.linkErrors
      ∧ (commitPrivate i ordinal ok l s).slc.breaks = s.slc.breaks
      ∧ (commitPrivate i ordinal ok l s).slc.sending = s.slc.sending
      ∧ (commitPrivate i ordinal ok l s).slc.sleepReq = s.slc.sleepReq
      ∧ (commitPrivate i ordinal ok l s).slc.owed = s.slc.owed
      ∧ (commitPrivate i ordinal ok l s).slc.wakeOut = s.slc.wakeOut ∧ (commitPrivate i ordinal ok l s).bck = s.bck
      ∧ (commitPrivate i ordinal ok l s).clients = s.clients ∧ (commitPrivate i ordinal ok l s).chunks = s.chunks
      ∧ (commitPrivate i ordinal ok l s).oct.colls = s.oct.colls
      ∧ (commitPrivate i ordinal ok l s).oct.freePages = s.oct.freePages
      ∧ (commitPrivate i ordinal ok l s).rtu = s.rtu ∧ (commitPrivate i ordinal ok l s).grants = s.grants
      ∧ (commitPrivate i ordinal ok l s).rpb = s.rpb ∧ (commitPrivate i ordinal ok l s).bpc = s.bpc
      ∧ (commitPrivate i ordinal ok l s).bxp = s.bxp ∧ (commitPrivate i ordinal ok l s).nwu = s.nwu
      ∧ (commitPrivate i ordinal ok l s).tiu = s.tiu := by
  generalize ht : commitPrivate i ordinal ok l s = t
  unfold commitPrivate at ht
  (try dsimp only at ht)
  (repeat' split at ht) <;> subst ht <;> simp_all

@[simp] theorem revertRewrite_frame (h : Nat) (s : State) :
    (revertRewrite h s).pending = s.pending ∧ (revertRewrite h s).free = s.free
      ∧ (revertRewrite h s).slc.settings = s.slc.settings ∧ (revertRewrite h s).slc.latched = s.slc.latched
      ∧ (revertRewrite h s).slc.enables = s.slc.enables ∧ (revertRewrite h s).slc.places = s.slc.places
      ∧ (revertRewrite h s).slc.link = s.slc.link ∧ (revertRewrite h s).slc.acked = s.slc.acked
      ∧ (revertRewrite h s).slc.receiver = s.slc.receiver ∧ (revertRewrite h s).slc.startCause = s.slc.startCause
      ∧ (revertRewrite h s).slc.linkErrors = s.slc.linkErrors ∧ (revertRewrite h s).slc.breaks = s.slc.breaks
      ∧ (revertRewrite h s).slc.sending = s.slc.sending ∧ (revertRewrite h s).slc.sleepReq = s.slc.sleepReq
      ∧ (revertRewrite h s).slc.owed = s.slc.owed ∧ (revertRewrite h s).slc.wakeOut = s.slc.wakeOut
      ∧ (revertRewrite h s).bck = s.bck ∧ (revertRewrite h s).clients = s.clients
      ∧ (revertRewrite h s).rtu.orders = s.rtu.orders ∧ (revertRewrite h s).rtu.current = s.rtu.current
      ∧ (revertRewrite h s).rtu.nested = s.rtu.nested ∧ (revertRewrite h s).rtu.walk = s.rtu.walk
      ∧ (revertRewrite h s).rtu.release = s.rtu.release ∧ (revertRewrite h s).rtu.deferred = s.rtu.deferred
      ∧ (revertRewrite h s).rtu.lastBatch = s.rtu.lastBatch ∧ (revertRewrite h s).grants = s.grants
      ∧ (revertRewrite h s).rpb = s.rpb ∧ (revertRewrite h s).bxp = s.bxp ∧ (revertRewrite h s).nwu = s.nwu
      ∧ (revertRewrite h s).tiu = s.tiu := by
  unfold revertRewrite
  (try dsimp only)
  simp_all

@[simp] theorem deferOld_frame (old : Option Loc) (length : Nat) (s : State) :
    (deferOld old length s).pending = s.pending ∧ (deferOld old length s).free = s.free
      ∧ (deferOld old length s).slc = s.slc ∧ (deferOld old length s).bck = s.bck
      ∧ (deferOld old length s).clients = s.clients ∧ (deferOld old length s).streams = s.streams
      ∧ (deferOld old length s).chunks = s.chunks ∧ (deferOld old length s).oct = s.oct
      ∧ (deferOld old length s).rtu.orders = s.rtu.orders ∧ (deferOld old length s).rtu.current = s.rtu.current
      ∧ (deferOld old length s).rtu.nested = s.rtu.nested ∧ (deferOld old length s).rtu.walk = s.rtu.walk
      ∧ (deferOld old length s).rtu.lastBatch = s.rtu.lastBatch ∧ (deferOld old length s).grants = s.grants
      ∧ (deferOld old length s).rpb = s.rpb ∧ (deferOld old length s).bpc = s.bpc
      ∧ (deferOld old length s).bxp = s.bxp ∧ (deferOld old length s).nwu = s.nwu
      ∧ (deferOld old length s).tiu = s.tiu := by
  generalize ht : deferOld old length s = t
  unfold deferOld at ht
  (try dsimp only at ht)
  (repeat' split at ht) <;> subst ht <;> simp_all

@[simp] theorem commitRewrite_frame (h : Nat) (ok : Bool) (l : Loc) (s : State) :
    (commitRewrite h ok l s).pending = s.pending ∧ (commitRewrite h ok l s).free = s.free
      ∧ (commitRewrite h ok l s).slc.settings = s.slc.settings ∧ (commitRewrite h ok l s).slc.latched = s.slc.latched
      ∧ (commitRewrite h ok l s).slc.enables = s.slc.enables ∧ (commitRewrite h ok l s).slc.places = s.slc.places
      ∧ (commitRewrite h ok l s).slc.link = s.slc.link ∧ (commitRewrite h ok l s).slc.acked = s.slc.acked
      ∧ (commitRewrite h ok l s).slc.receiver = s.slc.receiver
      ∧ (commitRewrite h ok l s).slc.startCause = s.slc.startCause
      ∧ (commitRewrite h ok l s).slc.linkErrors = s.slc.linkErrors
      ∧ (commitRewrite h ok l s).slc.breaks = s.slc.breaks ∧ (commitRewrite h ok l s).slc.sending = s.slc.sending
      ∧ (commitRewrite h ok l s).slc.sleepReq = s.slc.sleepReq ∧ (commitRewrite h ok l s).slc.owed = s.slc.owed
      ∧ (commitRewrite h ok l s).slc.wakeOut = s.slc.wakeOut ∧ (commitRewrite h ok l s).bck = s.bck
      ∧ (commitRewrite h ok l s).clients = s.clients ∧ (commitRewrite h ok l s).rtu.orders = s.rtu.orders
      ∧ (commitRewrite h ok l s).rtu.current = s.rtu.current ∧ (commitRewrite h ok l s).rtu.nested = s.rtu.nested
      ∧ (commitRewrite h ok l s).rtu.walk = s.rtu.walk ∧ (commitRewrite h ok l s).rtu.lastBatch = s.rtu.lastBatch
      ∧ (commitRewrite h ok l s).grants = s.grants ∧ (commitRewrite h ok l s).rpb = s.rpb
      ∧ (commitRewrite h ok l s).bxp = s.bxp ∧ (commitRewrite h ok l s).nwu = s.nwu
      ∧ (commitRewrite h ok l s).tiu = s.tiu := by
  unfold commitRewrite
  (try dsimp only)
  (repeat' split) <;> simp_all

@[simp] theorem commitItem_frame (i : Nat) (it : Item) (ok : Bool) (l : Loc) (s : State) :
    (commitItem i it ok l s).pending = s.pending ∧ (commitItem i it ok l s).free = s.free
      ∧ (commitItem i it ok l s).slc.settings = s.slc.settings ∧ (commitItem i it ok l s).slc.latched = s.slc.latched
      ∧ (commitItem i it ok l s).slc.enables = s.slc.enables ∧ (commitItem i it ok l s).slc.places = s.slc.places
      ∧ (commitItem i it ok l s).slc.link = s.slc.link ∧ (commitItem i it ok l s).slc.acked = s.slc.acked
      ∧ (commitItem i it ok l s).slc.receiver = s.slc.receiver
      ∧ (commitItem i it ok l s).slc.startCause = s.slc.startCause
      ∧ (commitItem i it ok l s).slc.linkErrors = s.slc.linkErrors
      ∧ (commitItem i it ok l s).slc.breaks = s.slc.breaks ∧ (commitItem i it ok l s).slc.sending = s.slc.sending
      ∧ (commitItem i it ok l s).slc.sleepReq = s.slc.sleepReq ∧ (commitItem i it ok l s).slc.owed = s.slc.owed
      ∧ (commitItem i it ok l s).slc.wakeOut = s.slc.wakeOut ∧ (commitItem i it ok l s).bck = s.bck
      ∧ (commitItem i it ok l s).rtu.orders = s.rtu.orders ∧ (commitItem i it ok l s).rtu.current = s.rtu.current
      ∧ (commitItem i it ok l s).rtu.nested = s.rtu.nested ∧ (commitItem i it ok l s).rtu.walk = s.rtu.walk
      ∧ (commitItem i it ok l s).rtu.lastBatch = s.rtu.lastBatch ∧ (commitItem i it ok l s).grants = s.grants
      ∧ (commitItem i it ok l s).rpb = s.rpb ∧ (commitItem i it ok l s).bxp = s.bxp
      ∧ (commitItem i it ok l s).nwu = s.nwu ∧ (commitItem i it ok l s).tiu = s.tiu := by
  unfold commitItem
  (repeat' split) <;> simp_all

@[simp] theorem commitEntry_frame (i : Nat) (e : CommitEntry) (s : State) :
    (commitEntry i e s).2.pending = s.pending ∧ (commitEntry i e s).2.free = s.free
      ∧ (commitEntry i e s).2.slc.settings = s.slc.settings ∧ (commitEntry i e s).2.slc.latched = s.slc.latched
      ∧ (commitEntry i e s).2.slc.enables = s.slc.enables ∧ (commitEntry i e s).2.slc.places = s.slc.places
      ∧ (commitEntry i e s).2.slc.link = s.slc.link ∧ (commitEntry i e s).2.slc.acked = s.slc.acked
      ∧ (commitEntry i e s).2.slc.receiver = s.slc.receiver ∧ (commitEntry i e s).2.slc.startCause = s.slc.startCause
      ∧ (commitEntry i e s).2.slc.linkErrors = s.slc.linkErrors ∧ (commitEntry i e s).2.slc.breaks = s.slc.breaks
      ∧ (commitEntry i e s).2.slc.sending = s.slc.sending ∧ (commitEntry i e s).2.slc.sleepReq = s.slc.sleepReq
      ∧ (commitEntry i e s).2.slc.owed = s.slc.owed ∧ (commitEntry i e s).2.slc.wakeOut = s.slc.wakeOut
      ∧ (commitEntry i e s).2.bck = s.bck ∧ (commitEntry i e s).2.rtu.orders = s.rtu.orders
      ∧ (commitEntry i e s).2.rtu.current = s.rtu.current ∧ (commitEntry i e s).2.rtu.nested = s.rtu.nested
      ∧ (commitEntry i e s).2.rtu.walk = s.rtu.walk ∧ (commitEntry i e s).2.rtu.lastBatch = s.rtu.lastBatch
      ∧ (commitEntry i e s).2.grants = s.grants ∧ (commitEntry i e s).2.rpb = s.rpb
      ∧ (commitEntry i e s).2.bxp = s.bxp ∧ (commitEntry i e s).2.nwu = s.nwu ∧ (commitEntry i e s).2.tiu = s.tiu := by
  unfold commitEntry
  (try dsimp only)
  (repeat' split) <;> simp_all

@[simp] theorem dropRef_frame (n k : Nat) (s : State) :
    (dropRef n k s).pending = s.pending ∧ (dropRef n k s).free = s.free ∧ (dropRef n k s).slc = s.slc
      ∧ (dropRef n k s).bck = s.bck ∧ (dropRef n k s).clients = s.clients ∧ (dropRef n k s).streams = s.streams
      ∧ (dropRef n k s).chunks = s.chunks ∧ (dropRef n k s).oct.colls = s.oct.colls ∧ (dropRef n k s).rtu = s.rtu
      ∧ (dropRef n k s).grants = s.grants ∧ (dropRef n k s).rpb = s.rpb ∧ (dropRef n k s).bpc = s.bpc
      ∧ (dropRef n k s).bxp = s.bxp ∧ (dropRef n k s).nwu = s.nwu ∧ (dropRef n k s).tiu = s.tiu := by
  unfold dropRef
  simp

@[simp] theorem abortItem_frame (i : Nat) (acc : Nat × State) (it : Item) :
    (abortItem i acc it).2.pending = acc.2.pending ∧ (abortItem i acc it).2.free = acc.2.free
      ∧ (abortItem i acc it).2.slc.settings = acc.2.slc.settings
      ∧ (abortItem i acc it).2.slc.latched = acc.2.slc.latched
      ∧ (abortItem i acc it).2.slc.enables = acc.2.slc.enables ∧ (abortItem i acc it).2.slc.places = acc.2.slc.places
      ∧ (abortItem i acc it).2.slc.link = acc.2.slc.link ∧ (abortItem i acc it).2.slc.acked = acc.2.slc.acked
      ∧ (abortItem i acc it).2.slc.receiver = acc.2.slc.receiver
      ∧ (abortItem i acc it).2.slc.startCause = acc.2.slc.startCause
      ∧ (abortItem i acc it).2.slc.linkErrors = acc.2.slc.linkErrors
      ∧ (abortItem i acc it).2.slc.breaks = acc.2.slc.breaks ∧ (abortItem i acc it).2.slc.sending = acc.2.slc.sending
      ∧ (abortItem i acc it).2.slc.sleepReq = acc.2.slc.sleepReq ∧ (abortItem i acc it).2.slc.owed = acc.2.slc.owed
      ∧ (abortItem i acc it).2.slc.wakeOut = acc.2.slc.wakeOut ∧ (abortItem i acc it).2.bck = acc.2.bck
      ∧ (abortItem i acc it).2.rtu.orders = acc.2.rtu.orders ∧ (abortItem i acc it).2.rtu.current = acc.2.rtu.current
      ∧ (abortItem i acc it).2.rtu.nested = acc.2.rtu.nested ∧ (abortItem i acc it).2.rtu.walk = acc.2.rtu.walk
      ∧ (abortItem i acc it).2.rtu.release = acc.2.rtu.release
      ∧ (abortItem i acc it).2.rtu.deferred = acc.2.rtu.deferred
      ∧ (abortItem i acc it).2.rtu.lastBatch = acc.2.rtu.lastBatch ∧ (abortItem i acc it).2.grants = acc.2.grants
      ∧ (abortItem i acc it).2.rpb = acc.2.rpb ∧ (abortItem i acc it).2.bxp = acc.2.bxp
      ∧ (abortItem i acc it).2.nwu = acc.2.nwu ∧ (abortItem i acc it).2.tiu = acc.2.tiu := by
  unfold abortItem
  (try dsimp only)
  (repeat' split) <;> simp_all

@[simp] theorem abortFold_frame (i : Nat) (l : List Item) (acc : Nat × State) :
    (List.foldl (abortItem i) acc l).2.pending = acc.2.pending ∧ (List.foldl (abortItem i) acc l).2.free = acc.2.free
      ∧ (List.foldl (abortItem i) acc l).2.slc.settings = acc.2.slc.settings
      ∧ (List.foldl (abortItem i) acc l).2.slc.latched = acc.2.slc.latched
      ∧ (List.foldl (abortItem i) acc l).2.slc.enables = acc.2.slc.enables
      ∧ (List.foldl (abortItem i) acc l).2.slc.places = acc.2.slc.places
      ∧ (List.foldl (abortItem i) acc l).2.slc.link = acc.2.slc.link
      ∧ (List.foldl (abortItem i) acc l).2.slc.acked = acc.2.slc.acked
      ∧ (List.foldl (abortItem i) acc l).2.slc.receiver = acc.2.slc.receiver
      ∧ (List.foldl (abortItem i) acc l).2.slc.startCause = acc.2.slc.startCause
      ∧ (List.foldl (abortItem i) acc l).2.slc.linkErrors = acc.2.slc.linkErrors
      ∧ (List.foldl (abortItem i) acc l).2.slc.breaks = acc.2.slc.breaks
      ∧ (List.foldl (abortItem i) acc l).2.slc.sending = acc.2.slc.sending
      ∧ (List.foldl (abortItem i) acc l).2.slc.sleepReq = acc.2.slc.sleepReq
      ∧ (List.foldl (abortItem i) acc l).2.slc.owed = acc.2.slc.owed
      ∧ (List.foldl (abortItem i) acc l).2.slc.wakeOut = acc.2.slc.wakeOut
      ∧ (List.foldl (abortItem i) acc l).2.bck = acc.2.bck
      ∧ (List.foldl (abortItem i) acc l).2.rtu.orders = acc.2.rtu.orders
      ∧ (List.foldl (abortItem i) acc l).2.rtu.current = acc.2.rtu.current
      ∧ (List.foldl (abortItem i) acc l).2.rtu.nested = acc.2.rtu.nested
      ∧ (List.foldl (abortItem i) acc l).2.rtu.walk = acc.2.rtu.walk
      ∧ (List.foldl (abortItem i) acc l).2.rtu.release = acc.2.rtu.release
      ∧ (List.foldl (abortItem i) acc l).2.rtu.deferred = acc.2.rtu.deferred
      ∧ (List.foldl (abortItem i) acc l).2.rtu.lastBatch = acc.2.rtu.lastBatch
      ∧ (List.foldl (abortItem i) acc l).2.grants = acc.2.grants ∧ (List.foldl (abortItem i) acc l).2.rpb = acc.2.rpb
      ∧ (List.foldl (abortItem i) acc l).2.bxp = acc.2.bxp ∧ (List.foldl (abortItem i) acc l).2.nwu = acc.2.nwu
      ∧ (List.foldl (abortItem i) acc l).2.tiu = acc.2.tiu := by
  exact foldl_keeps (fun t : Nat × State =>
      t.2.pending = acc.2.pending ∧ t.2.free = acc.2.free ∧ t.2.slc.settings = acc.2.slc.settings
        ∧ t.2.slc.latched = acc.2.slc.latched ∧ t.2.slc.enables = acc.2.slc.enables
        ∧ t.2.slc.places = acc.2.slc.places ∧ t.2.slc.link = acc.2.slc.link ∧ t.2.slc.acked = acc.2.slc.acked
        ∧ t.2.slc.receiver = acc.2.slc.receiver ∧ t.2.slc.startCause = acc.2.slc.startCause
        ∧ t.2.slc.linkErrors = acc.2.slc.linkErrors ∧ t.2.slc.breaks = acc.2.slc.breaks
        ∧ t.2.slc.sending = acc.2.slc.sending ∧ t.2.slc.sleepReq = acc.2.slc.sleepReq ∧ t.2.slc.owed = acc.2.slc.owed
        ∧ t.2.slc.wakeOut = acc.2.slc.wakeOut ∧ t.2.bck = acc.2.bck ∧ t.2.rtu.orders = acc.2.rtu.orders
        ∧ t.2.rtu.current = acc.2.rtu.current ∧ t.2.rtu.nested = acc.2.rtu.nested ∧ t.2.rtu.walk = acc.2.rtu.walk
        ∧ t.2.rtu.release = acc.2.rtu.release ∧ t.2.rtu.deferred = acc.2.rtu.deferred
        ∧ t.2.rtu.lastBatch = acc.2.rtu.lastBatch ∧ t.2.grants = acc.2.grants ∧ t.2.rpb = acc.2.rpb
        ∧ t.2.bxp = acc.2.bxp ∧ t.2.nwu = acc.2.nwu ∧ t.2.tiu = acc.2.tiu)
    _ _ _ (⟨rfl, rfl, rfl, rfl, rfl, rfl, rfl, rfl, rfl, rfl, rfl, rfl, rfl, rfl, rfl, rfl, rfl, rfl, rfl, rfl, rfl, rfl, rfl, rfl, rfl, rfl, rfl, rfl, rfl⟩) fun a b h => by simpa using h

@[simp] theorem releaseItems_frame (i : Nat) (s : State) :
    (releaseItems i s).pending = s.pending ∧ (releaseItems i s).free = s.free
      ∧ (releaseItems i s).slc.settings = s.slc.settings ∧ (releaseItems i s).slc.latched = s.slc.latched
      ∧ (releaseItems i s).slc.enables = s.slc.enables ∧ (releaseItems i s).slc.places = s.slc.places
      ∧ (releaseItems i s).slc.link = s.slc.link ∧ (releaseItems i s).slc.acked = s.slc.acked
      ∧ (releaseItems i s).slc.receiver = s.slc.receiver ∧ (releaseItems i s).slc.startCause = s.slc.startCause
      ∧ (releaseItems i s).slc.linkErrors = s.slc.linkErrors ∧ (releaseItems i s).slc.breaks = s.slc.breaks
      ∧ (releaseItems i s).slc.sending = s.slc.sending ∧ (releaseItems i s).slc.sleepReq = s.slc.sleepReq
      ∧ (releaseItems i s).slc.owed = s.slc.owed ∧ (releaseItems i s).slc.wakeOut = s.slc.wakeOut
      ∧ (releaseItems i s).bck = s.bck ∧ (releaseItems i s).rtu.orders = s.rtu.orders
      ∧ (releaseItems i s).rtu.current = s.rtu.current ∧ (releaseItems i s).rtu.nested = s.rtu.nested
      ∧ (releaseItems i s).rtu.walk = s.rtu.walk ∧ (releaseItems i s).rtu.release = s.rtu.release
      ∧ (releaseItems i s).rtu.deferred = s.rtu.deferred ∧ (releaseItems i s).rtu.lastBatch = s.rtu.lastBatch
      ∧ (releaseItems i s).grants = s.grants ∧ (releaseItems i s).rpb = s.rpb ∧ (releaseItems i s).bxp = s.bxp
      ∧ (releaseItems i s).nwu = s.nwu ∧ (releaseItems i s).tiu = s.tiu := by
  unfold releaseItems
  simp

@[simp] theorem abortParts_frame (i : Nat) (s : State) :
    (abortParts i s).pending = s.pending ∧ (abortParts i s).free = s.free
      ∧ (abortParts i s).slc.settings = s.slc.settings ∧ (abortParts i s).slc.latched = s.slc.latched
      ∧ (abortParts i s).slc.enables = s.slc.enables ∧ (abortParts i s).slc.places = s.slc.places
      ∧ (abortParts i s).slc.link = s.slc.link ∧ (abortParts i s).slc.acked = s.slc.acked
      ∧ (abortParts i s).slc.receiver = s.slc.receiver ∧ (abortParts i s).slc.startCause = s.slc.startCause
      ∧ (abortParts i s).slc.linkErrors = s.slc.linkErrors ∧ (abortParts i s).slc.breaks = s.slc.breaks
      ∧ (abortParts i s).slc.sending = s.slc.sending ∧ (abortParts i s).slc.sleepReq = s.slc.sleepReq
      ∧ (abortParts i s).slc.owed = s.slc.owed ∧ (abortParts i s).slc.wakeOut = s.slc.wakeOut
      ∧ (abortParts i s).bck = s.bck ∧ (abortParts i s).rtu.release = s.rtu.release
      ∧ (abortParts i s).rtu.deferred = s.rtu.deferred ∧ (abortParts i s).rtu.lastBatch = s.rtu.lastBatch
      ∧ (abortParts i s).grants = s.grants ∧ (abortParts i s).rpb = s.rpb ∧ (abortParts i s).bxp = s.bxp
      ∧ (abortParts i s).nwu = s.nwu ∧ (abortParts i s).tiu = s.tiu := by
  generalize ht : abortParts i s = t
  unfold abortParts at ht
  (try dsimp only at ht)
  (repeat' split at ht) <;> subst ht <;> simp_all

@[simp] theorem abortStream_frame (i : Nat) (s : State) :
    (abortStream i s).pending = s.pending ∧ (abortStream i s).free = s.free
      ∧ (abortStream i s).slc.settings = s.slc.settings ∧ (abortStream i s).slc.latched = s.slc.latched
      ∧ (abortStream i s).slc.enables = s.slc.enables ∧ (abortStream i s).slc.places = s.slc.places
      ∧ (abortStream i s).slc.link = s.slc.link ∧ (abortStream i s).slc.acked = s.slc.acked
      ∧ (abortStream i s).slc.receiver = s.slc.receiver ∧ (abortStream i s).slc.startCause = s.slc.startCause
      ∧ (abortStream i s).slc.linkErrors = s.slc.linkErrors ∧ (abortStream i s).slc.breaks = s.slc.breaks
      ∧ (abortStream i s).slc.sending = s.slc.sending ∧ (abortStream i s).slc.sleepReq = s.slc.sleepReq
      ∧ (abortStream i s).slc.owed = s.slc.owed ∧ (abortStream i s).slc.wakeOut = s.slc.wakeOut
      ∧ (abortStream i s).bck = s.bck ∧ (abortStream i s).rtu.release = s.rtu.release
      ∧ (abortStream i s).rtu.deferred = s.rtu.deferred ∧ (abortStream i s).rtu.lastBatch = s.rtu.lastBatch
      ∧ (abortStream i s).grants = s.grants ∧ (abortStream i s).rpb = s.rpb ∧ (abortStream i s).bxp = s.bxp
      ∧ (abortStream i s).nwu = s.nwu ∧ (abortStream i s).tiu = s.tiu := by
  unfold abortStream
  simp_all

@[simp] theorem sweepGrants_frame (s : State) :
    (sweepGrants s).pending = s.pending ∧ (sweepGrants s).free = s.free ∧ (sweepGrants s).slc = s.slc
      ∧ (sweepGrants s).bck = s.bck ∧ (sweepGrants s).clients = s.clients ∧ (sweepGrants s).streams = s.streams
      ∧ (sweepGrants s).chunks = s.chunks ∧ (sweepGrants s).oct = s.oct ∧ (sweepGrants s).rtu = s.rtu
      ∧ (sweepGrants s).rpb = s.rpb ∧ (sweepGrants s).bpc = s.bpc ∧ (sweepGrants s).bxp = s.bxp
      ∧ (sweepGrants s).nwu = s.nwu ∧ (sweepGrants s).tiu = s.tiu := by
  unfold sweepGrants
  (repeat' split) <;> simp_all

@[simp] theorem removeAlbumGrants_frame (c : Nat) (s : State) :
    (removeAlbumGrants c s).pending = s.pending ∧ (removeAlbumGrants c s).free = s.free
      ∧ (removeAlbumGrants c s).slc = s.slc ∧ (removeAlbumGrants c s).bck = s.bck
      ∧ (removeAlbumGrants c s).clients = s.clients ∧ (removeAlbumGrants c s).streams = s.streams
      ∧ (removeAlbumGrants c s).chunks = s.chunks ∧ (removeAlbumGrants c s).oct = s.oct
      ∧ (removeAlbumGrants c s).rtu = s.rtu ∧ (removeAlbumGrants c s).rpb = s.rpb
      ∧ (removeAlbumGrants c s).bpc = s.bpc ∧ (removeAlbumGrants c s).bxp = s.bxp
      ∧ (removeAlbumGrants c s).nwu = s.nwu ∧ (removeAlbumGrants c s).tiu = s.tiu := by
  unfold removeAlbumGrants
  simp

@[simp] theorem removeClientGrants_frame (c : Nat) (s : State) :
    (removeClientGrants c s).pending = s.pending ∧ (removeClientGrants c s).free = s.free
      ∧ (removeClientGrants c s).slc = s.slc ∧ (removeClientGrants c s).bck = s.bck
      ∧ (removeClientGrants c s).clients = s.clients ∧ (removeClientGrants c s).streams = s.streams
      ∧ (removeClientGrants c s).chunks = s.chunks ∧ (removeClientGrants c s).oct = s.oct
      ∧ (removeClientGrants c s).rtu = s.rtu ∧ (removeClientGrants c s).rpb = s.rpb
      ∧ (removeClientGrants c s).bpc = s.bpc ∧ (removeClientGrants c s).bxp = s.bxp
      ∧ (removeClientGrants c s).nwu = s.nwu ∧ (removeClientGrants c s).tiu = s.tiu := by
  unfold removeClientGrants
  simp

@[simp] theorem planHold_frame (p i : Nat) (s : State) :
    (planHold p i s).2.pending = s.pending ∧ (planHold p i s).2.free = s.free ∧ (planHold p i s).2.slc = s.slc
      ∧ (planHold p i s).2.bck = s.bck ∧ (planHold p i s).2.clients = s.clients
      ∧ (planHold p i s).2.streams = s.streams ∧ (planHold p i s).2.chunks = s.chunks ∧ (planHold p i s).2.oct = s.oct
      ∧ (planHold p i s).2.rtu = s.rtu ∧ (planHold p i s).2.grants = s.grants
      ∧ (planHold p i s).2.rpb.epoch = s.rpb.epoch ∧ (planHold p i s).2.bxp = s.bxp ∧ (planHold p i s).2.nwu = s.nwu
      ∧ (planHold p i s).2.tiu = s.tiu := by
  generalize ht : planHold p i s = t
  unfold planHold at ht
  (try dsimp only at ht)
  (repeat' split at ht) <;> subst ht <;> simp_all

@[simp] theorem planHolds_frame (p : Nat) (x0 : List Nat) (x1 : Bool) (s : State) :
    (planHolds p x0 x1 s).2.pending = s.pending ∧ (planHolds p x0 x1 s).2.free = s.free
      ∧ (planHolds p x0 x1 s).2.slc = s.slc ∧ (planHolds p x0 x1 s).2.bck = s.bck
      ∧ (planHolds p x0 x1 s).2.clients = s.clients ∧ (planHolds p x0 x1 s).2.streams = s.streams
      ∧ (planHolds p x0 x1 s).2.chunks = s.chunks ∧ (planHolds p x0 x1 s).2.oct = s.oct
      ∧ (planHolds p x0 x1 s).2.rtu = s.rtu ∧ (planHolds p x0 x1 s).2.grants = s.grants
      ∧ (planHolds p x0 x1 s).2.rpb.epoch = s.rpb.epoch ∧ (planHolds p x0 x1 s).2.bxp = s.bxp
      ∧ (planHolds p x0 x1 s).2.nwu = s.nwu ∧ (planHolds p x0 x1 s).2.tiu = s.tiu := by
  induction x0 generalizing x1 s with
  | nil => simp [planHolds]
  | cons b bs ih =>
    simp only [planHolds]
    split
    · exact ih x1 s
    · have h := ih (x1 || !(planHold p b s).1) (planHold p b s).2
      simpa using h

@[simp] theorem scanEnd_frame (p : Nat) (s : State) :
    (scanEnd p s).pending = s.pending ∧ (scanEnd p s).free = s.free ∧ (scanEnd p s).slc = s.slc
      ∧ (scanEnd p s).bck = s.bck ∧ (scanEnd p s).clients = s.clients ∧ (scanEnd p s).streams = s.streams
      ∧ (scanEnd p s).chunks = s.chunks ∧ (scanEnd p s).oct = s.oct ∧ (scanEnd p s).rtu = s.rtu
      ∧ (scanEnd p s).grants = s.grants ∧ (scanEnd p s).rpb.epoch = s.rpb.epoch ∧ (scanEnd p s).bxp = s.bxp
      ∧ (scanEnd p s).nwu = s.nwu ∧ (scanEnd p s).tiu = s.tiu := by
  unfold scanEnd
  (try dsimp only)
  simp_all

@[simp] theorem scanRead_frame (p : Nat) (ref : Ref) (pos : Nat) (s : State) :
    (scanRead p ref pos s).pending = s.pending ∧ (scanRead p ref pos s).free = s.free
      ∧ (scanRead p ref pos s).slc = s.slc ∧ (scanRead p ref pos s).bck = s.bck
      ∧ (scanRead p ref pos s).clients = s.clients ∧ (scanRead p ref pos s).streams = s.streams
      ∧ (scanRead p ref pos s).chunks = s.chunks ∧ (scanRead p ref pos s).oct = s.oct
      ∧ (scanRead p ref pos s).rtu = s.rtu ∧ (scanRead p ref pos s).grants = s.grants
      ∧ (scanRead p ref pos s).rpb.epoch = s.rpb.epoch ∧ (scanRead p ref pos s).bpc = s.bpc
      ∧ (scanRead p ref pos s).bxp = s.bxp ∧ (scanRead p ref pos s).nwu = s.nwu ∧ (scanRead p ref pos s).tiu = s.tiu := by
  unfold scanRead
  simp

@[simp] theorem scanEndIfDone_frame (p : Nat) (s : State) :
    (scanEndIfDone p s).pending = s.pending ∧ (scanEndIfDone p s).free = s.free ∧ (scanEndIfDone p s).slc = s.slc
      ∧ (scanEndIfDone p s).bck = s.bck ∧ (scanEndIfDone p s).clients = s.clients
      ∧ (scanEndIfDone p s).streams = s.streams ∧ (scanEndIfDone p s).chunks = s.chunks
      ∧ (scanEndIfDone p s).oct = s.oct ∧ (scanEndIfDone p s).rtu = s.rtu ∧ (scanEndIfDone p s).grants = s.grants
      ∧ (scanEndIfDone p s).rpb.epoch = s.rpb.epoch ∧ (scanEndIfDone p s).bxp = s.bxp
      ∧ (scanEndIfDone p s).nwu = s.nwu ∧ (scanEndIfDone p s).tiu = s.tiu := by
  unfold scanEndIfDone
  (repeat' split) <;> simp_all

@[simp] theorem reportBayReady_frame (i : Nat) (s : State) :
    (reportBayReady i s).pending = s.pending ∧ (reportBayReady i s).free = s.free
      ∧ (reportBayReady i s).slc.settings = s.slc.settings ∧ (reportBayReady i s).slc.enables = s.slc.enables
      ∧ (reportBayReady i s).slc.places = s.slc.places ∧ (reportBayReady i s).slc.link = s.slc.link
      ∧ (reportBayReady i s).slc.acked = s.slc.acked ∧ (reportBayReady i s).slc.receiver = s.slc.receiver
      ∧ (reportBayReady i s).slc.startCause = s.slc.startCause
      ∧ (reportBayReady i s).slc.linkErrors = s.slc.linkErrors ∧ (reportBayReady i s).slc.breaks = s.slc.breaks
      ∧ (reportBayReady i s).slc.outgoing = s.slc.outgoing ∧ (reportBayReady i s).slc.sending = s.slc.sending
      ∧ (reportBayReady i s).slc.deferred = s.slc.deferred ∧ (reportBayReady i s).slc.sleepReq = s.slc.sleepReq
      ∧ (reportBayReady i s).slc.owed = s.slc.owed ∧ (reportBayReady i s).slc.wakeOut = s.slc.wakeOut
      ∧ (reportBayReady i s).bck = s.bck ∧ (reportBayReady i s).clients = s.clients
      ∧ (reportBayReady i s).streams = s.streams ∧ (reportBayReady i s).chunks = s.chunks
      ∧ (reportBayReady i s).oct = s.oct ∧ (reportBayReady i s).rtu = s.rtu ∧ (reportBayReady i s).grants = s.grants
      ∧ (reportBayReady i s).rpb.epoch = s.rpb.epoch ∧ (reportBayReady i s).bpc = s.bpc
      ∧ (reportBayReady i s).bxp = s.bxp ∧ (reportBayReady i s).nwu = s.nwu ∧ (reportBayReady i s).tiu = s.tiu := by
  generalize ht : reportBayReady i s = t
  unfold reportBayReady at ht
  (try dsimp only at ht)
  (repeat' split at ht) <;> subst ht <;> simp_all

@[simp] theorem reportBayLost_frame (i : Nat) (s : State) :
    (reportBayLost i s).pending = s.pending ∧ (reportBayLost i s).free = s.free ∧ (reportBayLost i s).slc = s.slc
      ∧ (reportBayLost i s).bck = s.bck ∧ (reportBayLost i s).clients = s.clients
      ∧ (reportBayLost i s).streams = s.streams ∧ (reportBayLost i s).chunks = s.chunks
      ∧ (reportBayLost i s).oct = s.oct ∧ (reportBayLost i s).rtu = s.rtu ∧ (reportBayLost i s).grants = s.grants
      ∧ (reportBayLost i s).rpb.epoch = s.rpb.epoch ∧ (reportBayLost i s).bpc = s.bpc
      ∧ (reportBayLost i s).bxp = s.bxp ∧ (reportBayLost i s).nwu = s.nwu ∧ (reportBayLost i s).tiu = s.tiu := by
  unfold reportBayLost
  simp

@[simp] theorem streamBayLost_frame (bay : Nat) (s : State) (i : Nat) :
    (streamBayLost bay s i).pending = s.pending ∧ (streamBayLost bay s i).free = s.free
      ∧ (streamBayLost bay s i).slc.settings = s.slc.settings ∧ (streamBayLost bay s i).slc.latched = s.slc.latched
      ∧ (streamBayLost bay s i).slc.enables = s.slc.enables ∧ (streamBayLost bay s i).slc.places = s.slc.places
      ∧ (streamBayLost bay s i).slc.link = s.slc.link ∧ (streamBayLost bay s i).slc.acked = s.slc.acked
      ∧ (streamBayLost bay s i).slc.receiver = s.slc.receiver
      ∧ (streamBayLost bay s i).slc.startCause = s.slc.startCause
      ∧ (streamBayLost bay s i).slc.linkErrors = s.slc.linkErrors ∧ (streamBayLost bay s i).slc.breaks = s.slc.breaks
      ∧ (streamBayLost bay s i).slc.sending = s.slc.sending ∧ (streamBayLost bay s i).slc.sleepReq = s.slc.sleepReq
      ∧ (streamBayLost bay s i).slc.owed = s.slc.owed ∧ (streamBayLost bay s i).slc.wakeOut = s.slc.wakeOut
      ∧ (streamBayLost bay s i).bck = s.bck ∧ (streamBayLost bay s i).clients = s.clients
      ∧ (streamBayLost bay s i).chunks = s.chunks ∧ (streamBayLost bay s i).oct = s.oct
      ∧ (streamBayLost bay s i).rtu = s.rtu ∧ (streamBayLost bay s i).grants = s.grants
      ∧ (streamBayLost bay s i).rpb = s.rpb ∧ (streamBayLost bay s i).bpc = s.bpc
      ∧ (streamBayLost bay s i).bxp = s.bxp ∧ (streamBayLost bay s i).nwu = s.nwu
      ∧ (streamBayLost bay s i).tiu = s.tiu := by
  generalize ht : streamBayLost bay s i = t
  unfold streamBayLost at ht
  (try dsimp only at ht)
  (repeat' split at ht) <;> subst ht <;> simp_all

@[simp] theorem lowerPlanHolds_frame (n : Nat) (s : State) :
    (lowerPlanHolds n s).pending = s.pending ∧ (lowerPlanHolds n s).free = s.free ∧ (lowerPlanHolds n s).slc = s.slc
      ∧ (lowerPlanHolds n s).bck = s.bck ∧ (lowerPlanHolds n s).clients = s.clients
      ∧ (lowerPlanHolds n s).streams = s.streams ∧ (lowerPlanHolds n s).chunks = s.chunks
      ∧ (lowerPlanHolds n s).oct.colls = s.oct.colls ∧ (lowerPlanHolds n s).oct.freePages = s.oct.freePages
      ∧ (lowerPlanHolds n s).rtu.orders = s.rtu.orders ∧ (lowerPlanHolds n s).rtu.release = s.rtu.release
      ∧ (lowerPlanHolds n s).rtu.deferred = s.rtu.deferred ∧ (lowerPlanHolds n s).rtu.reserved = s.rtu.reserved
      ∧ (lowerPlanHolds n s).rtu.lastBatch = s.rtu.lastBatch ∧ (lowerPlanHolds n s).grants = s.grants
      ∧ (lowerPlanHolds n s).rpb = s.rpb ∧ (lowerPlanHolds n s).bpc = s.bpc ∧ (lowerPlanHolds n s).bxp = s.bxp
      ∧ (lowerPlanHolds n s).nwu = s.nwu ∧ (lowerPlanHolds n s).tiu = s.tiu := by
  unfold lowerPlanHolds
  simp

@[simp] theorem closePlan_frame (p : Nat) (s : State) :
    (closePlan p s).pending = s.pending ∧ (closePlan p s).free = s.free ∧ (closePlan p s).slc = s.slc
      ∧ (closePlan p s).bck = s.bck ∧ (closePlan p s).clients = s.clients ∧ (closePlan p s).streams = s.streams
      ∧ (closePlan p s).chunks = s.chunks ∧ (closePlan p s).oct.colls = s.oct.colls
      ∧ (closePlan p s).oct.freePages = s.oct.freePages ∧ (closePlan p s).rtu.orders = s.rtu.orders
      ∧ (closePlan p s).rtu.reserved = s.rtu.reserved ∧ (closePlan p s).rtu.lastBatch = s.rtu.lastBatch
      ∧ (closePlan p s).grants = s.grants ∧ (closePlan p s).rpb.epoch = s.rpb.epoch ∧ (closePlan p s).bxp = s.bxp
      ∧ (closePlan p s).nwu = s.nwu ∧ (closePlan p s).tiu = s.tiu := by
  generalize ht : closePlan p s = t
  unfold closePlan at ht
  (try dsimp only at ht)
  subst ht <;> simp_all

@[simp] theorem abortAllStreams_frame (s : State) :
    (abortAllStreams s).pending = s.pending ∧ (abortAllStreams s).free = s.free
      ∧ (abortAllStreams s).slc.settings = s.slc.settings ∧ (abortAllStreams s).slc.latched = s.slc.latched
      ∧ (abortAllStreams s).slc.enables = s.slc.enables ∧ (abortAllStreams s).slc.places = s.slc.places
      ∧ (abortAllStreams s).slc.link = s.slc.link ∧ (abortAllStreams s).slc.acked = s.slc.acked
      ∧ (abortAllStreams s).slc.receiver = s.slc.receiver ∧ (abortAllStreams s).slc.startCause = s.slc.startCause
      ∧ (abortAllStreams s).slc.linkErrors = s.slc.linkErrors ∧ (abortAllStreams s).slc.breaks = s.slc.breaks
      ∧ (abortAllStreams s).slc.sending = s.slc.sending ∧ (abortAllStreams s).slc.sleepReq = s.slc.sleepReq
      ∧ (abortAllStreams s).slc.owed = s.slc.owed ∧ (abortAllStreams s).slc.wakeOut = s.slc.wakeOut
      ∧ (abortAllStreams s).bck = s.bck ∧ (abortAllStreams s).rtu.release = s.rtu.release
      ∧ (abortAllStreams s).rtu.deferred = s.rtu.deferred ∧ (abortAllStreams s).rtu.lastBatch = s.rtu.lastBatch
      ∧ (abortAllStreams s).grants = s.grants ∧ (abortAllStreams s).rpb = s.rpb ∧ (abortAllStreams s).bxp = s.bxp
      ∧ (abortAllStreams s).nwu = s.nwu ∧ (abortAllStreams s).tiu = s.tiu := by
  unfold abortAllStreams
  refine foldl_keeps (fun t : State =>
      t.pending = s.pending ∧ t.free = s.free ∧ t.slc.settings = s.slc.settings ∧ t.slc.latched = s.slc.latched
        ∧ t.slc.enables = s.slc.enables ∧ t.slc.places = s.slc.places ∧ t.slc.link = s.slc.link
        ∧ t.slc.acked = s.slc.acked ∧ t.slc.receiver = s.slc.receiver ∧ t.slc.startCause = s.slc.startCause
        ∧ t.slc.linkErrors = s.slc.linkErrors ∧ t.slc.breaks = s.slc.breaks ∧ t.slc.sending = s.slc.sending
        ∧ t.slc.sleepReq = s.slc.sleepReq ∧ t.slc.owed = s.slc.owed ∧ t.slc.wakeOut = s.slc.wakeOut ∧ t.bck = s.bck
        ∧ t.rtu.release = s.rtu.release ∧ t.rtu.deferred = s.rtu.deferred ∧ t.rtu.lastBatch = s.rtu.lastBatch
        ∧ t.grants = s.grants ∧ t.rpb = s.rpb ∧ t.bxp = s.bxp ∧ t.nwu = s.nwu ∧ t.tiu = s.tiu)
    _ _ _ (⟨rfl, rfl, rfl, rfl, rfl, rfl, rfl, rfl, rfl, rfl, rfl, rfl, rfl, rfl, rfl, rfl, rfl, rfl, rfl, rfl, rfl, rfl, rfl, rfl, rfl⟩) fun a b h => ?_
  (try split) <;> simpa using h

@[simp] theorem closeAllPlans_frame (s : State) :
    (closeAllPlans s).pending = s.pending ∧ (closeAllPlans s).free = s.free ∧ (closeAllPlans s).slc = s.slc
      ∧ (closeAllPlans s).bck = s.bck ∧ (closeAllPlans s).clients = s.clients ∧ (closeAllPlans s).streams = s.streams
      ∧ (closeAllPlans s).chunks = s.chunks ∧ (closeAllPlans s).oct.colls = s.oct.colls
      ∧ (closeAllPlans s).oct.freePages = s.oct.freePages ∧ (closeAllPlans s).rtu.orders = s.rtu.orders
      ∧ (closeAllPlans s).rtu.reserved = s.rtu.reserved ∧ (closeAllPlans s).rtu.lastBatch = s.rtu.lastBatch
      ∧ (closeAllPlans s).grants = s.grants ∧ (closeAllPlans s).rpb.epoch = s.rpb.epoch
      ∧ (closeAllPlans s).bxp = s.bxp ∧ (closeAllPlans s).nwu = s.nwu ∧ (closeAllPlans s).tiu = s.tiu := by
  unfold closeAllPlans
  refine foldl_keeps (fun t : State =>
      t.pending = s.pending ∧ t.free = s.free ∧ t.slc = s.slc ∧ t.bck = s.bck ∧ t.clients = s.clients
        ∧ t.streams = s.streams ∧ t.chunks = s.chunks ∧ t.oct.colls = s.oct.colls ∧ t.oct.freePages = s.oct.freePages
        ∧ t.rtu.orders = s.rtu.orders ∧ t.rtu.reserved = s.rtu.reserved ∧ t.rtu.lastBatch = s.rtu.lastBatch
        ∧ t.grants = s.grants ∧ t.rpb.epoch = s.rpb.epoch ∧ t.bxp = s.bxp ∧ t.nwu = s.nwu ∧ t.tiu = s.tiu)
    _ _ _ (⟨rfl, rfl, rfl, rfl, rfl, rfl, rfl, rfl, rfl, rfl, rfl, rfl, rfl, rfl, rfl, rfl, rfl⟩) fun a b h => ?_
  (try split) <;> simpa using h

@[simp] theorem clearManualHolds_frame (s : State) :
    (clearManualHolds s).pending = s.pending ∧ (clearManualHolds s).free = s.free ∧ (clearManualHolds s).slc = s.slc
      ∧ (clearManualHolds s).bck = s.bck ∧ (clearManualHolds s).clients = s.clients
      ∧ (clearManualHolds s).streams = s.streams ∧ (clearManualHolds s).chunks = s.chunks
      ∧ (clearManualHolds s).oct = s.oct ∧ (clearManualHolds s).rtu = s.rtu ∧ (clearManualHolds s).grants = s.grants
      ∧ (clearManualHolds s).rpb = s.rpb ∧ (clearManualHolds s).bxp = s.bxp ∧ (clearManualHolds s).nwu = s.nwu
      ∧ (clearManualHolds s).tiu = s.tiu := by
  unfold clearManualHolds
  refine foldl_keeps (fun t : State =>
      t.pending = s.pending ∧ t.free = s.free ∧ t.slc = s.slc ∧ t.bck = s.bck ∧ t.clients = s.clients
        ∧ t.streams = s.streams ∧ t.chunks = s.chunks ∧ t.oct = s.oct ∧ t.rtu = s.rtu ∧ t.grants = s.grants
        ∧ t.rpb = s.rpb ∧ t.bxp = s.bxp ∧ t.nwu = s.nwu ∧ t.tiu = s.tiu)
    _ _ _ (⟨rfl, rfl, rfl, rfl, rfl, rfl, rfl, rfl, rfl, rfl, rfl, rfl, rfl, rfl⟩) fun a b h => ?_
  simpa using h

@[simp] theorem resetLink_frame (cause : StartCause) (s : State) :
    (resetLink cause s).pending = s.pending ∧ (resetLink cause s).free = s.free
      ∧ (resetLink cause s).slc.settings = s.slc.settings ∧ (resetLink cause s).slc.latched = s.slc.latched
      ∧ (resetLink cause s).slc.enables = s.slc.enables ∧ (resetLink cause s).slc.acked = s.slc.acked
      ∧ (resetLink cause s).slc.linkErrors = s.slc.linkErrors ∧ (resetLink cause s).slc.breaks = s.slc.breaks
      ∧ (resetLink cause s).slc.wakeOut = s.slc.wakeOut ∧ (resetLink cause s).bck = s.bck
      ∧ (resetLink cause s).clients = s.clients ∧ (resetLink cause s).streams = s.streams
      ∧ (resetLink cause s).chunks = s.chunks ∧ (resetLink cause s).oct = s.oct ∧ (resetLink cause s).rtu = s.rtu
      ∧ (resetLink cause s).grants = s.grants ∧ (resetLink cause s).rpb = s.rpb ∧ (resetLink cause s).bpc = s.bpc
      ∧ (resetLink cause s).bxp = s.bxp ∧ (resetLink cause s).nwu = s.nwu ∧ (resetLink cause s).tiu = s.tiu := by
  unfold resetLink
  simp

@[simp] theorem resetBlocks_frame (s : State) :
    (resetBlocks s).pending = s.pending ∧ (resetBlocks s).free = s.free
      ∧ (resetBlocks s).slc.settings = s.slc.settings ∧ (resetBlocks s).slc.latched = s.slc.latched
      ∧ (resetBlocks s).slc.enables = s.slc.enables ∧ (resetBlocks s).slc.places = s.slc.places
      ∧ (resetBlocks s).slc.link = s.slc.link ∧ (resetBlocks s).slc.acked = s.slc.acked
      ∧ (resetBlocks s).slc.receiver = s.slc.receiver ∧ (resetBlocks s).slc.startCause = s.slc.startCause
      ∧ (resetBlocks s).slc.linkErrors = s.slc.linkErrors ∧ (resetBlocks s).slc.breaks = s.slc.breaks
      ∧ (resetBlocks s).slc.sending = s.slc.sending ∧ (resetBlocks s).slc.sleepReq = s.slc.sleepReq
      ∧ (resetBlocks s).slc.owed = s.slc.owed ∧ (resetBlocks s).slc.wakeOut = s.slc.wakeOut
      ∧ (resetBlocks s).bck = s.bck ∧ (resetBlocks s).rtu.lastBatch = s.rtu.lastBatch
      ∧ (resetBlocks s).grants = s.grants ∧ (resetBlocks s).rpb.epoch = s.rpb.epoch ∧ (resetBlocks s).bxp = s.bxp
      ∧ (resetBlocks s).nwu.mode = s.nwu.mode ∧ (resetBlocks s).nwu.transmit = s.nwu.transmit
      ∧ (resetBlocks s).nwu.onWire = s.nwu.onWire ∧ (resetBlocks s).nwu.templates = s.nwu.templates
      ∧ (resetBlocks s).tiu = s.tiu := by
  unfold resetBlocks
  (try dsimp only)
  simp_all

@[simp] theorem resetPower_frame (s : State) :
    (resetPower s).pending = s.pending ∧ (resetPower s).free = s.free ∧ (resetPower s).slc.settings = s.slc.settings
      ∧ (resetPower s).slc.enables = s.slc.enables ∧ (resetPower s).slc.places = s.slc.places
      ∧ (resetPower s).slc.acked = s.slc.acked ∧ (resetPower s).slc.receiver = s.slc.receiver
      ∧ (resetPower s).slc.startCause = s.slc.startCause ∧ (resetPower s).slc.linkErrors = s.slc.linkErrors
      ∧ (resetPower s).slc.breaks = s.slc.breaks ∧ (resetPower s).slc.sending = s.slc.sending
      ∧ (resetPower s).slc.deferred = s.slc.deferred ∧ (resetPower s).bck = s.bck ∧ (resetPower s).streams = s.streams
      ∧ (resetPower s).chunks = s.chunks ∧ (resetPower s).oct = s.oct ∧ (resetPower s).rtu = s.rtu
      ∧ (resetPower s).grants = s.grants ∧ (resetPower s).rpb = s.rpb
      ∧ (resetPower s).bxp.returnStandby = s.bxp.returnStandby ∧ (resetPower s).bxp.cause = s.bxp.cause
      ∧ (resetPower s).bxp.failures = s.bxp.failures ∧ (resetPower s).bxp.phase = s.bxp.phase
      ∧ (resetPower s).bxp.sleepAcked = s.bxp.sleepAcked ∧ (resetPower s).bxp.due = s.bxp.due
      ∧ (resetPower s).nwu.transmit = s.nwu.transmit ∧ (resetPower s).nwu.onWire = s.nwu.onWire
      ∧ (resetPower s).nwu.templates = s.nwu.templates ∧ (resetPower s).tiu = s.tiu := by
  unfold resetPower
  (repeat' split) <;> simp_all

@[simp] theorem linkReset_frame (cause : StartCause) (s : State) :
    (linkReset cause s).pending = s.pending ∧ (linkReset cause s).free = s.free
      ∧ (linkReset cause s).slc.settings = s.slc.settings ∧ (linkReset cause s).slc.enables = s.slc.enables
      ∧ (linkReset cause s).slc.acked = s.slc.acked ∧ (linkReset cause s).slc.linkErrors = s.slc.linkErrors
      ∧ (linkReset cause s).slc.breaks = s.slc.breaks ∧ (linkReset cause s).bck = s.bck
      ∧ (linkReset cause s).rtu.lastBatch = s.rtu.lastBatch ∧ (linkReset cause s).grants = s.grants
      ∧ (linkReset cause s).rpb.epoch = s.rpb.epoch ∧ (linkReset cause s).bxp.returnStandby = s.bxp.returnStandby
      ∧ (linkReset cause s).bxp.cause = s.bxp.cause ∧ (linkReset cause s).bxp.failures = s.bxp.failures
      ∧ (linkReset cause s).bxp.phase = s.bxp.phase ∧ (linkReset cause s).bxp.sleepAcked = s.bxp.sleepAcked
      ∧ (linkReset cause s).bxp.due = s.bxp.due ∧ (linkReset cause s).nwu.transmit = s.nwu.transmit
      ∧ (linkReset cause s).nwu.onWire = s.nwu.onWire ∧ (linkReset cause s).nwu.templates = s.nwu.templates
      ∧ (linkReset cause s).tiu = s.tiu := by
  unfold linkReset
  simp_all

@[simp] theorem clockTo_frame (t : Nat) (minute : Bool) (s : State) :
    (clockTo t minute s).pending = s.pending ∧ (clockTo t minute s).free = s.free ∧ (clockTo t minute s).slc = s.slc
      ∧ (clockTo t minute s).bck.clockSet = s.bck.clockSet ∧ (clockTo t minute s).clients = s.clients
      ∧ (clockTo t minute s).streams = s.streams ∧ (clockTo t minute s).chunks = s.chunks
      ∧ (clockTo t minute s).oct = s.oct ∧ (clockTo t minute s).rtu = s.rtu ∧ (clockTo t minute s).rpb = s.rpb
      ∧ (clockTo t minute s).bpc = s.bpc ∧ (clockTo t minute s).bxp = s.bxp ∧ (clockTo t minute s).nwu = s.nwu
      ∧ (clockTo t minute s).tiu = s.tiu := by
  unfold clockTo
  (try dsimp only)
  (repeat' split) <;> simp_all

@[simp] theorem answerPlace_frame (p : Place) (st : Status) (s : State) :
    (answerPlace p st s).pending = s.pending
      ∧ (answerPlace p st s).slc.settings = s.slc.settings ∧ (answerPlace p st s).slc.latched = s.slc.latched
      ∧ (answerPlace p st s).slc.enables = s.slc.enables ∧ (answerPlace p st s).slc.link = s.slc.link
      ∧ (answerPlace p st s).slc.acked = s.slc.acked ∧ (answerPlace p st s).slc.receiver = s.slc.receiver
      ∧ (answerPlace p st s).slc.startCause = s.slc.startCause
      ∧ (answerPlace p st s).slc.linkErrors = s.slc.linkErrors ∧ (answerPlace p st s).slc.breaks = s.slc.breaks
      ∧ (answerPlace p st s).slc.sending = s.slc.sending ∧ (answerPlace p st s).slc.deferred = s.slc.deferred
      ∧ (answerPlace p st s).slc.sleepReq = s.slc.sleepReq ∧ (answerPlace p st s).slc.owed = s.slc.owed
      ∧ (answerPlace p st s).slc.wakeOut = s.slc.wakeOut ∧ (answerPlace p st s).bck = s.bck
      ∧ (answerPlace p st s).clients = s.clients ∧ (answerPlace p st s).streams = s.streams
      ∧ (answerPlace p st s).chunks = s.chunks ∧ (answerPlace p st s).oct = s.oct ∧ (answerPlace p st s).rtu = s.rtu
      ∧ (answerPlace p st s).grants = s.grants ∧ (answerPlace p st s).rpb = s.rpb ∧ (answerPlace p st s).bpc = s.bpc
      ∧ (answerPlace p st s).bxp = s.bxp ∧ (answerPlace p st s).nwu = s.nwu ∧ (answerPlace p st s).tiu = s.tiu := by
  unfold answerPlace
  simp

@[simp] theorem route_frame (p : Place) (body : Body) (s : State) :
    (route p body s).pending = s.pending
      ∧ (route p body s).slc.settings = s.slc.settings ∧ (route p body s).slc.latched = s.slc.latched
      ∧ (route p body s).slc.enables = s.slc.enables ∧ (route p body s).slc.link = s.slc.link
      ∧ (route p body s).slc.acked = s.slc.acked ∧ (route p body s).slc.receiver = s.slc.receiver
      ∧ (route p body s).slc.startCause = s.slc.startCause ∧ (route p body s).slc.linkErrors = s.slc.linkErrors
      ∧ (route p body s).slc.breaks = s.slc.breaks ∧ (route p body s).slc.sending = s.slc.sending
      ∧ (route p body s).slc.deferred = s.slc.deferred ∧ (route p body s).slc.sleepReq = s.slc.sleepReq
      ∧ (route p body s).slc.owed = s.slc.owed ∧ (route p body s).slc.wakeOut = s.slc.wakeOut
      ∧ (route p body s).bck = s.bck ∧ (route p body s).clients = s.clients ∧ (route p body s).streams = s.streams
      ∧ (route p body s).chunks = s.chunks ∧ (route p body s).oct = s.oct ∧ (route p body s).rtu = s.rtu
      ∧ (route p body s).grants = s.grants ∧ (route p body s).rpb = s.rpb ∧ (route p body s).bpc = s.bpc
      ∧ (route p body s).bxp = s.bxp ∧ (route p body s).nwu = s.nwu ∧ (route p body s).tiu = s.tiu := by
  generalize ht : route p body s = t
  unfold route at ht
  (try dsimp only at ht)
  (repeat' split at ht) <;> subst ht <;> simp_all

@[simp] theorem acceptHeader_frame (kind tag : Byte) (aux : Half) (length : Nat) (s : State) :
    (acceptHeader kind tag aux length s).pending = s.pending
      ∧ (acceptHeader kind tag aux length s).slc.settings = s.slc.settings
      ∧ (acceptHeader kind tag aux length s).slc.latched = s.slc.latched
      ∧ (acceptHeader kind tag aux length s).slc.enables = s.slc.enables
      ∧ (acceptHeader kind tag aux length s).slc.link = s.slc.link
      ∧ (acceptHeader kind tag aux length s).slc.acked = s.slc.acked
      ∧ (acceptHeader kind tag aux length s).slc.startCause = s.slc.startCause
      ∧ (acceptHeader kind tag aux length s).slc.linkErrors = s.slc.linkErrors
      ∧ (acceptHeader kind tag aux length s).slc.breaks = s.slc.breaks
      ∧ (acceptHeader kind tag aux length s).slc.sending = s.slc.sending
      ∧ (acceptHeader kind tag aux length s).slc.deferred = s.slc.deferred
      ∧ (acceptHeader kind tag aux length s).slc.sleepReq = s.slc.sleepReq
      ∧ (acceptHeader kind tag aux length s).slc.owed = s.slc.owed
      ∧ (acceptHeader kind tag aux length s).slc.wakeOut = s.slc.wakeOut
      ∧ (acceptHeader kind tag aux length s).bck = s.bck ∧ (acceptHeader kind tag aux length s).clients = s.clients
      ∧ (acceptHeader kind tag aux length s).streams = s.streams
      ∧ (acceptHeader kind tag aux length s).chunks = s.chunks ∧ (acceptHeader kind tag aux length s).oct = s.oct
      ∧ (acceptHeader kind tag aux length s).rtu = s.rtu ∧ (acceptHeader kind tag aux length s).grants = s.grants
      ∧ (acceptHeader kind tag aux length s).rpb = s.rpb ∧ (acceptHeader kind tag aux length s).bpc = s.bpc
      ∧ (acceptHeader kind tag aux length s).bxp = s.bxp ∧ (acceptHeader kind tag aux length s).nwu = s.nwu
      ∧ (acceptHeader kind tag aux length s).tiu = s.tiu := by
  generalize ht : acceptHeader kind tag aux length s = t
  unfold acceptHeader at ht
  (try dsimp only at ht)
  (repeat' split at ht) <;> subst ht <;> simp_all

@[simp] theorem rejectHeader_frame (s : State) :
    (rejectHeader s).pending = s.pending ∧ (rejectHeader s).free = s.free
      ∧ (rejectHeader s).slc.settings = s.slc.settings ∧ (rejectHeader s).slc.latched = s.slc.latched
      ∧ (rejectHeader s).slc.enables = s.slc.enables ∧ (rejectHeader s).slc.places = s.slc.places
      ∧ (rejectHeader s).slc.link = s.slc.link ∧ (rejectHeader s).slc.acked = s.slc.acked
      ∧ (rejectHeader s).slc.startCause = s.slc.startCause ∧ (rejectHeader s).slc.breaks = s.slc.breaks
      ∧ (rejectHeader s).slc.outgoing = s.slc.outgoing ∧ (rejectHeader s).slc.sending = s.slc.sending
      ∧ (rejectHeader s).slc.deferred = s.slc.deferred ∧ (rejectHeader s).slc.sleepReq = s.slc.sleepReq
      ∧ (rejectHeader s).slc.owed = s.slc.owed ∧ (rejectHeader s).slc.wakeOut = s.slc.wakeOut
      ∧ (rejectHeader s).bck = s.bck ∧ (rejectHeader s).clients = s.clients ∧ (rejectHeader s).streams = s.streams
      ∧ (rejectHeader s).chunks = s.chunks ∧ (rejectHeader s).oct = s.oct ∧ (rejectHeader s).rtu = s.rtu
      ∧ (rejectHeader s).grants = s.grants ∧ (rejectHeader s).rpb = s.rpb ∧ (rejectHeader s).bpc = s.bpc
      ∧ (rejectHeader s).bxp = s.bxp ∧ (rejectHeader s).nwu = s.nwu ∧ (rejectHeader s).tiu = s.tiu := by
  unfold rejectHeader
  simp

@[simp] theorem decideHeader_frame (header : HeaderArrival) (underHold : Bool) (s : State) :
    (decideHeader header underHold s).pending = s.pending
      ∧ (decideHeader header underHold s).slc.settings = s.slc.settings
      ∧ (decideHeader header underHold s).slc.latched = s.slc.latched
      ∧ (decideHeader header underHold s).slc.enables = s.slc.enables
      ∧ (decideHeader header underHold s).slc.link = s.slc.link
      ∧ (decideHeader header underHold s).slc.acked = s.slc.acked
      ∧ (decideHeader header underHold s).slc.startCause = s.slc.startCause
      ∧ (decideHeader header underHold s).slc.breaks = s.slc.breaks
      ∧ (decideHeader header underHold s).slc.sending = s.slc.sending
      ∧ (decideHeader header underHold s).slc.deferred = s.slc.deferred
      ∧ (decideHeader header underHold s).slc.sleepReq = s.slc.sleepReq
      ∧ (decideHeader header underHold s).slc.owed = s.slc.owed
      ∧ (decideHeader header underHold s).slc.wakeOut = s.slc.wakeOut ∧ (decideHeader header underHold s).bck = s.bck
      ∧ (decideHeader header underHold s).clients = s.clients ∧ (decideHeader header underHold s).streams = s.streams
      ∧ (decideHeader header underHold s).chunks = s.chunks ∧ (decideHeader header underHold s).oct = s.oct
      ∧ (decideHeader header underHold s).rtu = s.rtu ∧ (decideHeader header underHold s).grants = s.grants
      ∧ (decideHeader header underHold s).rpb = s.rpb ∧ (decideHeader header underHold s).bpc = s.bpc
      ∧ (decideHeader header underHold s).bxp = s.bxp ∧ (decideHeader header underHold s).nwu = s.nwu
      ∧ (decideHeader header underHold s).tiu = s.tiu := by
  generalize ht : decideHeader header underHold s = t
  unfold decideHeader at ht
  (try dsimp only at ht)
  (repeat' split at ht) <;> subst ht <;> simp_all

@[simp] theorem wakeForHeader_frame (s : State) :
    (wakeForHeader s).pending = s.pending ∧ (wakeForHeader s).free = s.free
      ∧ (wakeForHeader s).slc.settings = s.slc.settings ∧ (wakeForHeader s).slc.latched = s.slc.latched
      ∧ (wakeForHeader s).slc.enables = s.slc.enables ∧ (wakeForHeader s).slc.places = s.slc.places
      ∧ (wakeForHeader s).slc.acked = s.slc.acked ∧ (wakeForHeader s).slc.receiver = s.slc.receiver
      ∧ (wakeForHeader s).slc.startCause = s.slc.startCause ∧ (wakeForHeader s).slc.linkErrors = s.slc.linkErrors
      ∧ (wakeForHeader s).slc.breaks = s.slc.breaks ∧ (wakeForHeader s).slc.sending = s.slc.sending
      ∧ (wakeForHeader s).slc.deferred = s.slc.deferred ∧ (wakeForHeader s).slc.sleepReq = s.slc.sleepReq
      ∧ (wakeForHeader s).slc.wakeOut = s.slc.wakeOut ∧ (wakeForHeader s).bck = s.bck
      ∧ (wakeForHeader s).clients = s.clients ∧ (wakeForHeader s).streams = s.streams
      ∧ (wakeForHeader s).chunks = s.chunks ∧ (wakeForHeader s).oct = s.oct ∧ (wakeForHeader s).rtu = s.rtu
      ∧ (wakeForHeader s).grants = s.grants ∧ (wakeForHeader s).rpb = s.rpb ∧ (wakeForHeader s).bpc = s.bpc
      ∧ (wakeForHeader s).bxp = s.bxp ∧ (wakeForHeader s).nwu = s.nwu ∧ (wakeForHeader s).tiu = s.tiu := by
  unfold wakeForHeader
  (repeat' split) <;> simp_all

@[simp] theorem headerArrives_frame (header : HeaderArrival) (underHold : Bool) (s : State) :
    (headerArrives header underHold s).pending = s.pending
      ∧ (headerArrives header underHold s).slc.settings = s.slc.settings
      ∧ (headerArrives header underHold s).slc.latched = s.slc.latched
      ∧ (headerArrives header underHold s).slc.enables = s.slc.enables
      ∧ (headerArrives header underHold s).slc.acked = s.slc.acked
      ∧ (headerArrives header underHold s).slc.startCause = s.slc.startCause
      ∧ (headerArrives header underHold s).slc.breaks = s.slc.breaks
      ∧ (headerArrives header underHold s).slc.sending = s.slc.sending
      ∧ (headerArrives header underHold s).slc.deferred = s.slc.deferred
      ∧ (headerArrives header underHold s).slc.sleepReq = s.slc.sleepReq
      ∧ (headerArrives header underHold s).slc.wakeOut = s.slc.wakeOut
      ∧ (headerArrives header underHold s).bck = s.bck ∧ (headerArrives header underHold s).clients = s.clients
      ∧ (headerArrives header underHold s).streams = s.streams ∧ (headerArrives header underHold s).chunks = s.chunks
      ∧ (headerArrives header underHold s).oct = s.oct ∧ (headerArrives header underHold s).rtu = s.rtu
      ∧ (headerArrives header underHold s).grants = s.grants ∧ (headerArrives header underHold s).rpb = s.rpb
      ∧ (headerArrives header underHold s).bpc = s.bpc ∧ (headerArrives header underHold s).bxp = s.bxp
      ∧ (headerArrives header underHold s).nwu = s.nwu ∧ (headerArrives header underHold s).tiu = s.tiu := by
  unfold headerArrives
  (repeat' split) <;> simp_all

@[simp] theorem receiverQuiet_frame (s : State) :
    (receiverQuiet s).pending = s.pending ∧ (receiverQuiet s).free = s.free
      ∧ (receiverQuiet s).slc.settings = s.slc.settings ∧ (receiverQuiet s).slc.latched = s.slc.latched
      ∧ (receiverQuiet s).slc.enables = s.slc.enables ∧ (receiverQuiet s).slc.places = s.slc.places
      ∧ (receiverQuiet s).slc.link = s.slc.link ∧ (receiverQuiet s).slc.acked = s.slc.acked
      ∧ (receiverQuiet s).slc.startCause = s.slc.startCause ∧ (receiverQuiet s).slc.linkErrors = s.slc.linkErrors
      ∧ (receiverQuiet s).slc.breaks = s.slc.breaks ∧ (receiverQuiet s).slc.outgoing = s.slc.outgoing
      ∧ (receiverQuiet s).slc.sending = s.slc.sending ∧ (receiverQuiet s).slc.deferred = s.slc.deferred
      ∧ (receiverQuiet s).slc.sleepReq = s.slc.sleepReq ∧ (receiverQuiet s).slc.owed = s.slc.owed
      ∧ (receiverQuiet s).slc.wakeOut = s.slc.wakeOut ∧ (receiverQuiet s).bck = s.bck
      ∧ (receiverQuiet s).clients = s.clients ∧ (receiverQuiet s).streams = s.streams
      ∧ (receiverQuiet s).chunks = s.chunks ∧ (receiverQuiet s).oct = s.oct ∧ (receiverQuiet s).rtu = s.rtu
      ∧ (receiverQuiet s).grants = s.grants ∧ (receiverQuiet s).rpb = s.rpb ∧ (receiverQuiet s).bpc = s.bpc
      ∧ (receiverQuiet s).bxp = s.bxp ∧ (receiverQuiet s).nwu = s.nwu ∧ (receiverQuiet s).tiu = s.tiu := by
  unfold receiverQuiet
  simp

@[simp] theorem completePacket_frame (payload : List Byte) (check : Half) (s : State) :
    (completePacket payload check s).pending = s.pending
      ∧ (completePacket payload check s).slc.settings = s.slc.settings
      ∧ (completePacket payload check s).slc.latched = s.slc.latched
      ∧ (completePacket payload check s).slc.enables = s.slc.enables
      ∧ (completePacket payload check s).slc.link = s.slc.link
      ∧ (completePacket payload check s).slc.acked = s.slc.acked
      ∧ (completePacket payload check s).slc.startCause = s.slc.startCause
      ∧ (completePacket payload check s).slc.linkErrors = s.slc.linkErrors
      ∧ (completePacket payload check s).slc.breaks = s.slc.breaks
      ∧ (completePacket payload check s).slc.sending = s.slc.sending
      ∧ (completePacket payload check s).slc.deferred = s.slc.deferred
      ∧ (completePacket payload check s).slc.sleepReq = s.slc.sleepReq
      ∧ (completePacket payload check s).slc.owed = s.slc.owed
      ∧ (completePacket payload check s).slc.wakeOut = s.slc.wakeOut ∧ (completePacket payload check s).bck = s.bck
      ∧ (completePacket payload check s).clients = s.clients ∧ (completePacket payload check s).streams = s.streams
      ∧ (completePacket payload check s).chunks = s.chunks ∧ (completePacket payload check s).oct = s.oct
      ∧ (completePacket payload check s).rtu = s.rtu ∧ (completePacket payload check s).grants = s.grants
      ∧ (completePacket payload check s).rpb = s.rpb ∧ (completePacket payload check s).bpc = s.bpc
      ∧ (completePacket payload check s).bxp = s.bxp ∧ (completePacket payload check s).nwu = s.nwu
      ∧ (completePacket payload check s).tiu = s.tiu := by
  unfold completePacket
  (repeat' split) <;> simp_all

@[simp] theorem breakPacket_frame (s : State) :
    (breakPacket s).pending = s.pending ∧ (breakPacket s).free = s.free
      ∧ (breakPacket s).slc.settings = s.slc.settings ∧ (breakPacket s).slc.latched = s.slc.latched
      ∧ (breakPacket s).slc.enables = s.slc.enables ∧ (breakPacket s).slc.link = s.slc.link
      ∧ (breakPacket s).slc.acked = s.slc.acked ∧ (breakPacket s).slc.startCause = s.slc.startCause
      ∧ (breakPacket s).slc.linkErrors = s.slc.linkErrors ∧ (breakPacket s).slc.outgoing = s.slc.outgoing
      ∧ (breakPacket s).slc.sending = s.slc.sending ∧ (breakPacket s).slc.deferred = s.slc.deferred
      ∧ (breakPacket s).slc.sleepReq = s.slc.sleepReq ∧ (breakPacket s).slc.owed = s.slc.owed
      ∧ (breakPacket s).slc.wakeOut = s.slc.wakeOut ∧ (breakPacket s).bck = s.bck
      ∧ (breakPacket s).clients = s.clients ∧ (breakPacket s).streams = s.streams ∧ (breakPacket s).chunks = s.chunks
      ∧ (breakPacket s).oct = s.oct ∧ (breakPacket s).rtu = s.rtu ∧ (breakPacket s).grants = s.grants
      ∧ (breakPacket s).rpb = s.rpb ∧ (breakPacket s).bpc = s.bpc ∧ (breakPacket s).bxp = s.bxp
      ∧ (breakPacket s).nwu = s.nwu ∧ (breakPacket s).tiu = s.tiu := by
  generalize ht : breakPacket s = t
  unfold breakPacket at ht
  (try dsimp only at ht)
  (repeat' split at ht) <;> subst ht <;> simp_all

@[simp] theorem completeBatch_frame (payload : List Byte) (s : State) :
    (completeBatch payload s).pending = s.pending
      ∧ (completeBatch payload s).slc.settings = s.slc.settings
      ∧ (completeBatch payload s).slc.latched = s.slc.latched ∧ (completeBatch payload s).slc.enables = s.slc.enables
      ∧ (completeBatch payload s).slc.link = s.slc.link ∧ (completeBatch payload s).slc.acked = s.slc.acked
      ∧ (completeBatch payload s).slc.startCause = s.slc.startCause
      ∧ (completeBatch payload s).slc.linkErrors = s.slc.linkErrors
      ∧ (completeBatch payload s).slc.breaks = s.slc.breaks ∧ (completeBatch payload s).slc.sending = s.slc.sending
      ∧ (completeBatch payload s).slc.deferred = s.slc.deferred
      ∧ (completeBatch payload s).slc.sleepReq = s.slc.sleepReq ∧ (completeBatch payload s).slc.owed = s.slc.owed
      ∧ (completeBatch payload s).slc.wakeOut = s.slc.wakeOut ∧ (completeBatch payload s).bck = s.bck
      ∧ (completeBatch payload s).clients = s.clients ∧ (completeBatch payload s).streams = s.streams
      ∧ (completeBatch payload s).chunks = s.chunks ∧ (completeBatch payload s).oct = s.oct
      ∧ (completeBatch payload s).rtu = s.rtu ∧ (completeBatch payload s).grants = s.grants
      ∧ (completeBatch payload s).rpb = s.rpb ∧ (completeBatch payload s).bpc = s.bpc
      ∧ (completeBatch payload s).bxp = s.bxp ∧ (completeBatch payload s).nwu = s.nwu
      ∧ (completeBatch payload s).tiu = s.tiu := by
  unfold completeBatch
  (repeat' split) <;> simp_all

@[simp] theorem breakBatch_frame (received : List Byte) (s : State) :
    (breakBatch received s).pending = s.pending
      ∧ (breakBatch received s).slc.settings = s.slc.settings ∧ (breakBatch received s).slc.latched = s.slc.latched
      ∧ (breakBatch received s).slc.enables = s.slc.enables ∧ (breakBatch received s).slc.link = s.slc.link
      ∧ (breakBatch received s).slc.acked = s.slc.acked ∧ (breakBatch received s).slc.startCause = s.slc.startCause
      ∧ (breakBatch received s).slc.linkErrors = s.slc.linkErrors
      ∧ (breakBatch received s).slc.sending = s.slc.sending ∧ (breakBatch received s).slc.deferred = s.slc.deferred
      ∧ (breakBatch received s).slc.sleepReq = s.slc.sleepReq ∧ (breakBatch received s).slc.owed = s.slc.owed
      ∧ (breakBatch received s).slc.wakeOut = s.slc.wakeOut ∧ (breakBatch received s).bck = s.bck
      ∧ (breakBatch received s).clients = s.clients ∧ (breakBatch received s).streams = s.streams
      ∧ (breakBatch received s).chunks = s.chunks ∧ (breakBatch received s).oct = s.oct
      ∧ (breakBatch received s).rtu = s.rtu ∧ (breakBatch received s).grants = s.grants
      ∧ (breakBatch received s).rpb = s.rpb ∧ (breakBatch received s).bpc = s.bpc
      ∧ (breakBatch received s).bxp = s.bxp ∧ (breakBatch received s).nwu = s.nwu
      ∧ (breakBatch received s).tiu = s.tiu := by
  generalize ht : breakBatch received s = t
  unfold breakBatch at ht
  (try dsimp only at ht)
  (repeat' split at ht) <;> subst ht <;> simp_all

@[simp] theorem endDiscard_frame (s : State) :
    (endDiscard s).pending = s.pending ∧ (endDiscard s).free = s.free ∧ (endDiscard s).slc.settings = s.slc.settings
      ∧ (endDiscard s).slc.latched = s.slc.latched ∧ (endDiscard s).slc.enables = s.slc.enables
      ∧ (endDiscard s).slc.places = s.slc.places ∧ (endDiscard s).slc.link = s.slc.link
      ∧ (endDiscard s).slc.acked = s.slc.acked ∧ (endDiscard s).slc.startCause = s.slc.startCause
      ∧ (endDiscard s).slc.linkErrors = s.slc.linkErrors ∧ (endDiscard s).slc.breaks = s.slc.breaks
      ∧ (endDiscard s).slc.outgoing = s.slc.outgoing ∧ (endDiscard s).slc.sending = s.slc.sending
      ∧ (endDiscard s).slc.deferred = s.slc.deferred ∧ (endDiscard s).slc.sleepReq = s.slc.sleepReq
      ∧ (endDiscard s).slc.owed = s.slc.owed ∧ (endDiscard s).slc.wakeOut = s.slc.wakeOut ∧ (endDiscard s).bck = s.bck
      ∧ (endDiscard s).clients = s.clients ∧ (endDiscard s).streams = s.streams ∧ (endDiscard s).chunks = s.chunks
      ∧ (endDiscard s).oct = s.oct ∧ (endDiscard s).rtu = s.rtu ∧ (endDiscard s).grants = s.grants
      ∧ (endDiscard s).rpb = s.rpb ∧ (endDiscard s).bpc = s.bpc ∧ (endDiscard s).bxp = s.bxp
      ∧ (endDiscard s).nwu = s.nwu ∧ (endDiscard s).tiu = s.tiu := by
  unfold endDiscard
  (repeat' split) <;> simp_all

@[simp] theorem startSending_frame (s : State) :
    (startSending s).pending = s.pending ∧ (startSending s).free = s.free
      ∧ (startSending s).slc.settings = s.slc.settings ∧ (startSending s).slc.latched = s.slc.latched
      ∧ (startSending s).slc.enables = s.slc.enables ∧ (startSending s).slc.places = s.slc.places
      ∧ (startSending s).slc.link = s.slc.link ∧ (startSending s).slc.acked = s.slc.acked
      ∧ (startSending s).slc.receiver = s.slc.receiver ∧ (startSending s).slc.startCause = s.slc.startCause
      ∧ (startSending s).slc.linkErrors = s.slc.linkErrors ∧ (startSending s).slc.breaks = s.slc.breaks
      ∧ (startSending s).slc.deferred = s.slc.deferred ∧ (startSending s).slc.sleepReq = s.slc.sleepReq
      ∧ (startSending s).slc.owed = s.slc.owed ∧ (startSending s).slc.wakeOut = s.slc.wakeOut
      ∧ (startSending s).bck = s.bck ∧ (startSending s).clients = s.clients ∧ (startSending s).streams = s.streams
      ∧ (startSending s).chunks = s.chunks ∧ (startSending s).oct = s.oct ∧ (startSending s).rtu = s.rtu
      ∧ (startSending s).grants = s.grants ∧ (startSending s).rpb = s.rpb ∧ (startSending s).bpc = s.bpc
      ∧ (startSending s).bxp = s.bxp ∧ (startSending s).nwu.mode = s.nwu.mode
      ∧ (startSending s).nwu.transmit = s.nwu.transmit ∧ (startSending s).nwu.onWire = s.nwu.onWire
      ∧ (startSending s).nwu.templates = s.nwu.templates ∧ (startSending s).tiu = s.tiu := by
  generalize ht : startSending s = t
  unfold startSending at ht
  (try dsimp only at ht)
  (repeat' split at ht) <;> subst ht <;> simp_all

@[simp] theorem transmit_frame (s : State) :
    (transmit s).pending = s.pending ∧ (transmit s).free = s.free ∧ (transmit s).slc.settings = s.slc.settings
      ∧ (transmit s).slc.latched = s.slc.latched ∧ (transmit s).slc.enables = s.slc.enables
      ∧ (transmit s).slc.places = s.slc.places ∧ (transmit s).slc.acked = s.slc.acked
      ∧ (transmit s).slc.receiver = s.slc.receiver ∧ (transmit s).slc.startCause = s.slc.startCause
      ∧ (transmit s).slc.linkErrors = s.slc.linkErrors ∧ (transmit s).slc.breaks = s.slc.breaks
      ∧ (transmit s).slc.deferred = s.slc.deferred ∧ (transmit s).slc.sleepReq = s.slc.sleepReq
      ∧ (transmit s).bck = s.bck ∧ (transmit s).clients = s.clients ∧ (transmit s).streams = s.streams
      ∧ (transmit s).chunks = s.chunks ∧ (transmit s).oct = s.oct ∧ (transmit s).rtu = s.rtu
      ∧ (transmit s).grants = s.grants ∧ (transmit s).rpb = s.rpb ∧ (transmit s).bpc = s.bpc
      ∧ (transmit s).bxp = s.bxp ∧ (transmit s).nwu.mode = s.nwu.mode ∧ (transmit s).nwu.transmit = s.nwu.transmit
      ∧ (transmit s).nwu.onWire = s.nwu.onWire ∧ (transmit s).nwu.templates = s.nwu.templates
      ∧ (transmit s).tiu = s.tiu := by
  unfold transmit
  (repeat' split) <;> simp_all

@[simp] theorem endSending_frame (s : State) :
    (endSending s).pending = s.pending ∧ (endSending s).free = s.free ∧ (endSending s).slc.settings = s.slc.settings
      ∧ (endSending s).slc.latched = s.slc.latched ∧ (endSending s).slc.enables = s.slc.enables
      ∧ (endSending s).slc.link = s.slc.link ∧ (endSending s).slc.acked = s.slc.acked
      ∧ (endSending s).slc.receiver = s.slc.receiver ∧ (endSending s).slc.startCause = s.slc.startCause
      ∧ (endSending s).slc.linkErrors = s.slc.linkErrors ∧ (endSending s).slc.breaks = s.slc.breaks
      ∧ (endSending s).slc.outgoing = s.slc.outgoing ∧ (endSending s).slc.deferred = s.slc.deferred
      ∧ (endSending s).slc.sleepReq = s.slc.sleepReq ∧ (endSending s).slc.owed = s.slc.owed
      ∧ (endSending s).slc.wakeOut = s.slc.wakeOut ∧ (endSending s).bck = s.bck ∧ (endSending s).clients = s.clients
      ∧ (endSending s).streams = s.streams ∧ (endSending s).chunks = s.chunks ∧ (endSending s).oct = s.oct
      ∧ (endSending s).rtu = s.rtu ∧ (endSending s).grants = s.grants ∧ (endSending s).rpb = s.rpb
      ∧ (endSending s).bpc = s.bpc ∧ (endSending s).bxp = s.bxp ∧ (endSending s).nwu = s.nwu
      ∧ (endSending s).tiu = s.tiu := by
  generalize ht : endSending s = t
  unfold endSending at ht
  (try dsimp only at ht)
  (repeat' split at ht) <;> subst ht <;> simp_all

@[simp] theorem beginTraining_frame (s : State) :
    (beginTraining s).pending = s.pending ∧ (beginTraining s).free = s.free
      ∧ (beginTraining s).slc.settings = s.slc.settings ∧ (beginTraining s).slc.latched = s.slc.latched
      ∧ (beginTraining s).slc.enables = s.slc.enables ∧ (beginTraining s).slc.places = s.slc.places
      ∧ (beginTraining s).slc.acked = s.slc.acked ∧ (beginTraining s).slc.receiver = s.slc.receiver
      ∧ (beginTraining s).slc.linkErrors = s.slc.linkErrors ∧ (beginTraining s).slc.breaks = s.slc.breaks
      ∧ (beginTraining s).slc.outgoing = s.slc.outgoing ∧ (beginTraining s).slc.sending = s.slc.sending
      ∧ (beginTraining s).slc.deferred = s.slc.deferred ∧ (beginTraining s).slc.sleepReq = s.slc.sleepReq
      ∧ (beginTraining s).slc.owed = s.slc.owed ∧ (beginTraining s).slc.wakeOut = s.slc.wakeOut
      ∧ (beginTraining s).bck = s.bck ∧ (beginTraining s).clients = s.clients ∧ (beginTraining s).streams = s.streams
      ∧ (beginTraining s).chunks = s.chunks ∧ (beginTraining s).oct = s.oct ∧ (beginTraining s).rtu = s.rtu
      ∧ (beginTraining s).grants = s.grants ∧ (beginTraining s).rpb = s.rpb ∧ (beginTraining s).bpc = s.bpc
      ∧ (beginTraining s).bxp = s.bxp ∧ (beginTraining s).nwu = s.nwu ∧ (beginTraining s).tiu = s.tiu := by
  generalize ht : beginTraining s = t
  unfold beginTraining at ht
  (try dsimp only at ht)
  (repeat' split at ht) <;> subst ht <;> simp_all

@[simp] theorem wakeComplete_frame (s : State) :
    (wakeComplete s).pending = s.pending ∧ (wakeComplete s).free = s.free ∧ (wakeComplete s).slc = s.slc
      ∧ (wakeComplete s).bck = s.bck ∧ (wakeComplete s).streams = s.streams ∧ (wakeComplete s).chunks = s.chunks
      ∧ (wakeComplete s).oct = s.oct ∧ (wakeComplete s).rtu = s.rtu ∧ (wakeComplete s).grants = s.grants
      ∧ (wakeComplete s).rpb = s.rpb ∧ (wakeComplete s).bpc = s.bpc
      ∧ (wakeComplete s).bxp.returnStandby = s.bxp.returnStandby ∧ (wakeComplete s).bxp.cause = s.bxp.cause
      ∧ (wakeComplete s).bxp.failures = s.bxp.failures ∧ (wakeComplete s).bxp.phase = s.bxp.phase
      ∧ (wakeComplete s).bxp.sleepAcked = s.bxp.sleepAcked ∧ (wakeComplete s).bxp.lastFailure = s.bxp.lastFailure
      ∧ (wakeComplete s).bxp.due = s.bxp.due ∧ (wakeComplete s).nwu.transmit = s.nwu.transmit
      ∧ (wakeComplete s).nwu.onWire = s.nwu.onWire ∧ (wakeComplete s).nwu.templates = s.nwu.templates
      ∧ (wakeComplete s).tiu = s.tiu := by
  unfold wakeComplete
  (repeat' split) <;> simp_all

@[simp] theorem completeTraining_frame (s : State) :
    (completeTraining s).pending = s.pending ∧ (completeTraining s).free = s.free
      ∧ (completeTraining s).slc.settings = s.slc.settings ∧ (completeTraining s).slc.latched = s.slc.latched
      ∧ (completeTraining s).slc.enables = s.slc.enables ∧ (completeTraining s).slc.places = s.slc.places
      ∧ (completeTraining s).slc.receiver = s.slc.receiver ∧ (completeTraining s).slc.startCause = s.slc.startCause
      ∧ (completeTraining s).slc.linkErrors = s.slc.linkErrors ∧ (completeTraining s).slc.breaks = s.slc.breaks
      ∧ (completeTraining s).slc.sending = s.slc.sending ∧ (completeTraining s).slc.deferred = s.slc.deferred
      ∧ (completeTraining s).slc.sleepReq = s.slc.sleepReq ∧ (completeTraining s).slc.wakeOut = s.slc.wakeOut
      ∧ (completeTraining s).bck = s.bck ∧ (completeTraining s).streams = s.streams
      ∧ (completeTraining s).chunks = s.chunks ∧ (completeTraining s).oct = s.oct ∧ (completeTraining s).rtu = s.rtu
      ∧ (completeTraining s).grants = s.grants ∧ (completeTraining s).rpb = s.rpb ∧ (completeTraining s).bpc = s.bpc
      ∧ (completeTraining s).bxp.returnStandby = s.bxp.returnStandby ∧ (completeTraining s).bxp.cause = s.bxp.cause
      ∧ (completeTraining s).bxp.failures = s.bxp.failures ∧ (completeTraining s).bxp.phase = s.bxp.phase
      ∧ (completeTraining s).bxp.sleepAcked = s.bxp.sleepAcked
      ∧ (completeTraining s).bxp.lastFailure = s.bxp.lastFailure ∧ (completeTraining s).bxp.due = s.bxp.due
      ∧ (completeTraining s).nwu.transmit = s.nwu.transmit ∧ (completeTraining s).nwu.onWire = s.nwu.onWire
      ∧ (completeTraining s).nwu.templates = s.nwu.templates ∧ (completeTraining s).tiu = s.tiu := by
  unfold completeTraining
  (try dsimp only)
  (repeat' split) <;> simp_all

@[simp] theorem loseTraining_frame (s : State) :
    (loseTraining s).pending = s.pending ∧ (loseTraining s).free = s.free
      ∧ (loseTraining s).slc.settings = s.slc.settings ∧ (loseTraining s).slc.enables = s.slc.enables
      ∧ (loseTraining s).slc.acked = s.slc.acked ∧ (loseTraining s).slc.linkErrors = s.slc.linkErrors
      ∧ (loseTraining s).slc.breaks = s.slc.breaks ∧ (loseTraining s).bck = s.bck
      ∧ (loseTraining s).rtu.lastBatch = s.rtu.lastBatch ∧ (loseTraining s).grants = s.grants
      ∧ (loseTraining s).rpb.epoch = s.rpb.epoch ∧ (loseTraining s).bxp.returnStandby = s.bxp.returnStandby
      ∧ (loseTraining s).bxp.cause = s.bxp.cause ∧ (loseTraining s).bxp.failures = s.bxp.failures
      ∧ (loseTraining s).bxp.phase = s.bxp.phase ∧ (loseTraining s).bxp.sleepAcked = s.bxp.sleepAcked
      ∧ (loseTraining s).bxp.due = s.bxp.due ∧ (loseTraining s).nwu.transmit = s.nwu.transmit
      ∧ (loseTraining s).nwu.onWire = s.nwu.onWire ∧ (loseTraining s).nwu.templates = s.nwu.templates
      ∧ (loseTraining s).tiu = s.tiu := by
  unfold loseTraining
  (repeat' split) <;> simp_all

@[simp] theorem idleSignal_frame (s : State) :
    (idleSignal s).pending = s.pending ∧ (idleSignal s).free = s.free ∧ (idleSignal s).slc.settings = s.slc.settings
      ∧ (idleSignal s).slc.latched = s.slc.latched ∧ (idleSignal s).slc.enables = s.slc.enables
      ∧ (idleSignal s).slc.places = s.slc.places ∧ (idleSignal s).slc.acked = s.slc.acked
      ∧ (idleSignal s).slc.receiver = s.slc.receiver ∧ (idleSignal s).slc.startCause = s.slc.startCause
      ∧ (idleSignal s).slc.linkErrors = s.slc.linkErrors ∧ (idleSignal s).slc.breaks = s.slc.breaks
      ∧ (idleSignal s).slc.outgoing = s.slc.outgoing ∧ (idleSignal s).slc.sending = s.slc.sending
      ∧ (idleSignal s).slc.deferred = s.slc.deferred ∧ (idleSignal s).slc.sleepReq = s.slc.sleepReq
      ∧ (idleSignal s).slc.owed = s.slc.owed ∧ (idleSignal s).slc.wakeOut = s.slc.wakeOut ∧ (idleSignal s).bck = s.bck
      ∧ (idleSignal s).clients = s.clients ∧ (idleSignal s).streams = s.streams ∧ (idleSignal s).chunks = s.chunks
      ∧ (idleSignal s).oct = s.oct ∧ (idleSignal s).rtu = s.rtu ∧ (idleSignal s).grants = s.grants
      ∧ (idleSignal s).rpb = s.rpb ∧ (idleSignal s).bpc = s.bpc ∧ (idleSignal s).bxp = s.bxp
      ∧ (idleSignal s).nwu = s.nwu ∧ (idleSignal s).tiu = s.tiu := by
  generalize ht : idleSignal s = t
  unfold idleSignal at ht
  (try dsimp only at ht)
  (repeat' split at ht) <;> subst ht <;> simp_all

@[simp] theorem wakeSignal_frame (s : State) :
    (wakeSignal s).pending = s.pending ∧ (wakeSignal s).free = s.free ∧ (wakeSignal s).slc.settings = s.slc.settings
      ∧ (wakeSignal s).slc.latched = s.slc.latched ∧ (wakeSignal s).slc.enables = s.slc.enables
      ∧ (wakeSignal s).slc.places = s.slc.places ∧ (wakeSignal s).slc.acked = s.slc.acked
      ∧ (wakeSignal s).slc.receiver = s.slc.receiver ∧ (wakeSignal s).slc.startCause = s.slc.startCause
      ∧ (wakeSignal s).slc.linkErrors = s.slc.linkErrors ∧ (wakeSignal s).slc.breaks = s.slc.breaks
      ∧ (wakeSignal s).slc.sending = s.slc.sending ∧ (wakeSignal s).slc.deferred = s.slc.deferred
      ∧ (wakeSignal s).slc.sleepReq = s.slc.sleepReq ∧ (wakeSignal s).slc.wakeOut = s.slc.wakeOut
      ∧ (wakeSignal s).bck = s.bck ∧ (wakeSignal s).clients = s.clients ∧ (wakeSignal s).streams = s.streams
      ∧ (wakeSignal s).chunks = s.chunks ∧ (wakeSignal s).oct = s.oct ∧ (wakeSignal s).rtu = s.rtu
      ∧ (wakeSignal s).grants = s.grants ∧ (wakeSignal s).rpb = s.rpb ∧ (wakeSignal s).bpc = s.bpc
      ∧ (wakeSignal s).bxp = s.bxp ∧ (wakeSignal s).nwu = s.nwu ∧ (wakeSignal s).tiu = s.tiu := by
  unfold wakeSignal
  (repeat' split) <;> simp_all

@[simp] theorem sleepAckReport_frame (s : State) :
    (sleepAckReport s).pending = s.pending ∧ (sleepAckReport s).free = s.free
      ∧ (sleepAckReport s).slc.settings = s.slc.settings ∧ (sleepAckReport s).slc.latched = s.slc.latched
      ∧ (sleepAckReport s).slc.enables = s.slc.enables ∧ (sleepAckReport s).slc.acked = s.slc.acked
      ∧ (sleepAckReport s).slc.startCause = s.slc.startCause ∧ (sleepAckReport s).slc.linkErrors = s.slc.linkErrors
      ∧ (sleepAckReport s).slc.breaks = s.slc.breaks ∧ (sleepAckReport s).slc.wakeOut = s.slc.wakeOut
      ∧ (sleepAckReport s).bck = s.bck ∧ (sleepAckReport s).clients = s.clients
      ∧ (sleepAckReport s).streams = s.streams ∧ (sleepAckReport s).chunks = s.chunks ∧ (sleepAckReport s).oct = s.oct
      ∧ (sleepAckReport s).rtu = s.rtu ∧ (sleepAckReport s).grants = s.grants ∧ (sleepAckReport s).rpb = s.rpb
      ∧ (sleepAckReport s).bpc.bays = s.bpc.bays ∧ (sleepAckReport s).bpc.queue = s.bpc.queue
      ∧ (sleepAckReport s).bxp.cause = s.bxp.cause ∧ (sleepAckReport s).bxp.failures = s.bxp.failures
      ∧ (sleepAckReport s).bxp.phase = s.bxp.phase ∧ (sleepAckReport s).bxp.lastFailure = s.bxp.lastFailure
      ∧ (sleepAckReport s).bxp.due = s.bxp.due ∧ (sleepAckReport s).nwu.mode = s.nwu.mode
      ∧ (sleepAckReport s).nwu.transmit = s.nwu.transmit ∧ (sleepAckReport s).nwu.onWire = s.nwu.onWire
      ∧ (sleepAckReport s).nwu.templates = s.nwu.templates ∧ (sleepAckReport s).tiu = s.tiu := by
  unfold sleepAckReport
  (try dsimp only)
  (repeat' split) <;> simp_all

@[simp] theorem ackSignal_frame (s : State) :
    (ackSignal s).pending = s.pending ∧ (ackSignal s).free = s.free ∧ (ackSignal s).slc.settings = s.slc.settings
      ∧ (ackSignal s).slc.latched = s.slc.latched ∧ (ackSignal s).slc.enables = s.slc.enables
      ∧ (ackSignal s).slc.acked = s.slc.acked ∧ (ackSignal s).slc.startCause = s.slc.startCause
      ∧ (ackSignal s).slc.linkErrors = s.slc.linkErrors ∧ (ackSignal s).slc.breaks = s.slc.breaks
      ∧ (ackSignal s).slc.wakeOut = s.slc.wakeOut ∧ (ackSignal s).bck = s.bck ∧ (ackSignal s).clients = s.clients
      ∧ (ackSignal s).streams = s.streams ∧ (ackSignal s).chunks = s.chunks ∧ (ackSignal s).oct = s.oct
      ∧ (ackSignal s).rtu = s.rtu ∧ (ackSignal s).grants = s.grants ∧ (ackSignal s).rpb = s.rpb
      ∧ (ackSignal s).bpc.bays = s.bpc.bays ∧ (ackSignal s).bpc.queue = s.bpc.queue
      ∧ (ackSignal s).bxp.cause = s.bxp.cause ∧ (ackSignal s).bxp.failures = s.bxp.failures
      ∧ (ackSignal s).bxp.phase = s.bxp.phase ∧ (ackSignal s).bxp.lastFailure = s.bxp.lastFailure
      ∧ (ackSignal s).bxp.due = s.bxp.due ∧ (ackSignal s).nwu.mode = s.nwu.mode
      ∧ (ackSignal s).nwu.transmit = s.nwu.transmit ∧ (ackSignal s).nwu.onWire = s.nwu.onWire
      ∧ (ackSignal s).nwu.templates = s.nwu.templates ∧ (ackSignal s).tiu = s.tiu := by
  unfold ackSignal
  (try dsimp only)
  (repeat' split) <;> simp_all

@[simp] theorem resetSignal_frame (s : State) :
    (resetSignal s).pending = s.pending ∧ (resetSignal s).free = s.free
      ∧ (resetSignal s).slc.settings = s.slc.settings ∧ (resetSignal s).slc.enables = s.slc.enables
      ∧ (resetSignal s).slc.acked = s.slc.acked ∧ (resetSignal s).slc.linkErrors = s.slc.linkErrors
      ∧ (resetSignal s).slc.breaks = s.slc.breaks ∧ (resetSignal s).bck = s.bck
      ∧ (resetSignal s).rtu.lastBatch = s.rtu.lastBatch ∧ (resetSignal s).grants = s.grants
      ∧ (resetSignal s).rpb.epoch = s.rpb.epoch ∧ (resetSignal s).bxp.returnStandby = s.bxp.returnStandby
      ∧ (resetSignal s).bxp.cause = s.bxp.cause ∧ (resetSignal s).bxp.failures = s.bxp.failures
      ∧ (resetSignal s).bxp.phase = s.bxp.phase ∧ (resetSignal s).bxp.sleepAcked = s.bxp.sleepAcked
      ∧ (resetSignal s).bxp.due = s.bxp.due ∧ (resetSignal s).nwu.transmit = s.nwu.transmit
      ∧ (resetSignal s).nwu.onWire = s.nwu.onWire ∧ (resetSignal s).nwu.templates = s.nwu.templates
      ∧ (resetSignal s).tiu = s.tiu := by
  unfold resetSignal
  (repeat' split) <;> simp_all

@[simp] theorem linkStatusTaken_frame (clear : Bool) (r : Request) (s : State) :
    (linkStatusTaken clear r s).pending = s.pending ∧ (linkStatusTaken clear r s).free = s.free
      ∧ (linkStatusTaken clear r s).slc.settings = s.slc.settings
      ∧ (linkStatusTaken clear r s).slc.latched = s.slc.latched
      ∧ (linkStatusTaken clear r s).slc.enables = s.slc.enables ∧ (linkStatusTaken clear r s).slc.link = s.slc.link
      ∧ (linkStatusTaken clear r s).slc.receiver = s.slc.receiver
      ∧ (linkStatusTaken clear r s).slc.startCause = s.slc.startCause
      ∧ (linkStatusTaken clear r s).slc.sending = s.slc.sending
      ∧ (linkStatusTaken clear r s).slc.deferred = s.slc.deferred
      ∧ (linkStatusTaken clear r s).slc.sleepReq = s.slc.sleepReq ∧ (linkStatusTaken clear r s).slc.owed = s.slc.owed
      ∧ (linkStatusTaken clear r s).slc.wakeOut = s.slc.wakeOut ∧ (linkStatusTaken clear r s).bck = s.bck
      ∧ (linkStatusTaken clear r s).clients = s.clients ∧ (linkStatusTaken clear r s).streams = s.streams
      ∧ (linkStatusTaken clear r s).chunks = s.chunks ∧ (linkStatusTaken clear r s).oct = s.oct
      ∧ (linkStatusTaken clear r s).rtu = s.rtu ∧ (linkStatusTaken clear r s).grants = s.grants
      ∧ (linkStatusTaken clear r s).rpb = s.rpb ∧ (linkStatusTaken clear r s).bpc = s.bpc
      ∧ (linkStatusTaken clear r s).bxp = s.bxp ∧ (linkStatusTaken clear r s).nwu = s.nwu
      ∧ (linkStatusTaken clear r s).tiu = s.tiu := by
  generalize ht : linkStatusTaken clear r s = t
  unfold linkStatusTaken at ht
  (try dsimp only at ht)
  (repeat' split at ht) <;> subst ht <;> simp_all

@[simp] theorem replaceSettings_frame (x : Settings) (s : State) :
    (replaceSettings x s).pending = s.pending ∧ (replaceSettings x s).free = s.free
      ∧ (replaceSettings x s).slc.latched = s.slc.latched ∧ (replaceSettings x s).slc.enables = s.slc.enables
      ∧ (replaceSettings x s).slc.places = s.slc.places ∧ (replaceSettings x s).slc.link = s.slc.link
      ∧ (replaceSettings x s).slc.acked = s.slc.acked ∧ (replaceSettings x s).slc.receiver = s.slc.receiver
      ∧ (replaceSettings x s).slc.startCause = s.slc.startCause
      ∧ (replaceSettings x s).slc.linkErrors = s.slc.linkErrors ∧ (replaceSettings x s).slc.breaks = s.slc.breaks
      ∧ (replaceSettings x s).slc.outgoing = s.slc.outgoing ∧ (replaceSettings x s).slc.sending = s.slc.sending
      ∧ (replaceSettings x s).slc.deferred = s.slc.deferred ∧ (replaceSettings x s).slc.sleepReq = s.slc.sleepReq
      ∧ (replaceSettings x s).slc.owed = s.slc.owed ∧ (replaceSettings x s).slc.wakeOut = s.slc.wakeOut
      ∧ (replaceSettings x s).bck = s.bck ∧ (replaceSettings x s).clients = s.clients
      ∧ (replaceSettings x s).streams = s.streams ∧ (replaceSettings x s).chunks = s.chunks
      ∧ (replaceSettings x s).oct = s.oct ∧ (replaceSettings x s).rtu = s.rtu
      ∧ (replaceSettings x s).grants = s.grants ∧ (replaceSettings x s).rpb = s.rpb
      ∧ (replaceSettings x s).bxp = s.bxp ∧ (replaceSettings x s).nwu = s.nwu ∧ (replaceSettings x s).tiu = s.tiu := by
  generalize ht : replaceSettings x s = t
  unfold replaceSettings at ht
  (try dsimp only at ht)
  (repeat' split at ht) <;> subst ht <;> simp_all

@[simp] theorem secondPasses_frame (sense : Vector Bool 4) (s : State) :
    (secondPasses sense s).pending = s.pending ∧ (secondPasses sense s).free = s.free
      ∧ (secondPasses sense s).slc.settings = s.slc.settings ∧ (secondPasses sense s).slc.enables = s.slc.enables
      ∧ (secondPasses sense s).slc.places = s.slc.places ∧ (secondPasses sense s).slc.acked = s.slc.acked
      ∧ (secondPasses sense s).slc.receiver = s.slc.receiver
      ∧ (secondPasses sense s).slc.startCause = s.slc.startCause
      ∧ (secondPasses sense s).slc.linkErrors = s.slc.linkErrors ∧ (secondPasses sense s).slc.breaks = s.slc.breaks
      ∧ (secondPasses sense s).slc.sending = s.slc.sending ∧ (secondPasses sense s).slc.deferred = s.slc.deferred
      ∧ (secondPasses sense s).bck.clockSet = s.bck.clockSet ∧ (secondPasses sense s).streams = s.streams
      ∧ (secondPasses sense s).chunks = s.chunks ∧ (secondPasses sense s).oct = s.oct
      ∧ (secondPasses sense s).rtu = s.rtu ∧ (secondPasses sense s).rpb = s.rpb
      ∧ (secondPasses sense s).bxp.sleepAcked = s.bxp.sleepAcked
      ∧ (secondPasses sense s).nwu.transmit = s.nwu.transmit ∧ (secondPasses sense s).nwu.onWire = s.nwu.onWire
      ∧ (secondPasses sense s).nwu.templates = s.nwu.templates ∧ (secondPasses sense s).tiu = s.tiu := by
  unfold secondPasses
  simp

@[simp] theorem setClock_frame (t : Nat) (s : State) :
    (setClock t s).pending = s.pending ∧ (setClock t s).free = s.free ∧ (setClock t s).slc.settings = s.slc.settings
      ∧ (setClock t s).slc.enables = s.slc.enables ∧ (setClock t s).slc.places = s.slc.places
      ∧ (setClock t s).slc.acked = s.slc.acked ∧ (setClock t s).slc.receiver = s.slc.receiver
      ∧ (setClock t s).slc.startCause = s.slc.startCause ∧ (setClock t s).slc.linkErrors = s.slc.linkErrors
      ∧ (setClock t s).slc.breaks = s.slc.breaks ∧ (setClock t s).slc.sending = s.slc.sending
      ∧ (setClock t s).slc.deferred = s.slc.deferred ∧ (setClock t s).streams = s.streams
      ∧ (setClock t s).chunks = s.chunks ∧ (setClock t s).oct = s.oct ∧ (setClock t s).rtu = s.rtu
      ∧ (setClock t s).rpb = s.rpb ∧ (setClock t s).bxp.sleepAcked = s.bxp.sleepAcked
      ∧ (setClock t s).nwu.transmit = s.nwu.transmit ∧ (setClock t s).nwu.onWire = s.nwu.onWire
      ∧ (setClock t s).nwu.templates = s.nwu.templates ∧ (setClock t s).tiu = s.tiu := by
  unfold setClock
  simp

@[simp] theorem dropDueIf_frame (drop : Bool) (c : Nat) (s : State) :
    (dropDueIf drop c s).pending = s.pending ∧ (dropDueIf drop c s).free = s.free ∧ (dropDueIf drop c s).slc = s.slc
      ∧ (dropDueIf drop c s).bck = s.bck ∧ (dropDueIf drop c s).clients = s.clients
      ∧ (dropDueIf drop c s).streams = s.streams ∧ (dropDueIf drop c s).chunks = s.chunks
      ∧ (dropDueIf drop c s).oct = s.oct ∧ (dropDueIf drop c s).rtu = s.rtu ∧ (dropDueIf drop c s).grants = s.grants
      ∧ (dropDueIf drop c s).rpb = s.rpb ∧ (dropDueIf drop c s).bpc = s.bpc
      ∧ (dropDueIf drop c s).bxp.power = s.bxp.power ∧ (dropDueIf drop c s).bxp.returnStandby = s.bxp.returnStandby
      ∧ (dropDueIf drop c s).bxp.cause = s.bxp.cause ∧ (dropDueIf drop c s).bxp.failures = s.bxp.failures
      ∧ (dropDueIf drop c s).bxp.phase = s.bxp.phase ∧ (dropDueIf drop c s).bxp.timer = s.bxp.timer
      ∧ (dropDueIf drop c s).bxp.sleepAcked = s.bxp.sleepAcked
      ∧ (dropDueIf drop c s).bxp.lastFailure = s.bxp.lastFailure ∧ (dropDueIf drop c s).nwu = s.nwu
      ∧ (dropDueIf drop c s).tiu = s.tiu := by
  unfold dropDueIf
  (repeat' split) <;> simp_all

@[simp] theorem setClientRecord_frame (c : Nat) (p : List Byte) (s : State) :
    (setClientRecord c p s).pending = s.pending ∧ (setClientRecord c p s).free = s.free
      ∧ (setClientRecord c p s).slc = s.slc ∧ (setClientRecord c p s).bck = s.bck
      ∧ (setClientRecord c p s).streams = s.streams ∧ (setClientRecord c p s).chunks = s.chunks
      ∧ (setClientRecord c p s).oct = s.oct ∧ (setClientRecord c p s).rtu = s.rtu
      ∧ (setClientRecord c p s).grants = s.grants ∧ (setClientRecord c p s).rpb = s.rpb
      ∧ (setClientRecord c p s).bpc = s.bpc ∧ (setClientRecord c p s).bxp.power = s.bxp.power
      ∧ (setClientRecord c p s).bxp.returnStandby = s.bxp.returnStandby
      ∧ (setClientRecord c p s).bxp.cause = s.bxp.cause ∧ (setClientRecord c p s).bxp.failures = s.bxp.failures
      ∧ (setClientRecord c p s).bxp.phase = s.bxp.phase ∧ (setClientRecord c p s).bxp.timer = s.bxp.timer
      ∧ (setClientRecord c p s).bxp.sleepAcked = s.bxp.sleepAcked
      ∧ (setClientRecord c p s).bxp.lastFailure = s.bxp.lastFailure ∧ (setClientRecord c p s).nwu = s.nwu
      ∧ (setClientRecord c p s).tiu = s.tiu := by
  unfold setClientRecord
  simp

@[simp] theorem clientSetTaken_frame (r : Request) (s : State) :
    (clientSetTaken r s).pending = s.pending ∧ (clientSetTaken r s).free = s.free
      ∧ (clientSetTaken r s).slc.settings = s.slc.settings ∧ (clientSetTaken r s).slc.latched = s.slc.latched
      ∧ (clientSetTaken r s).slc.enables = s.slc.enables ∧ (clientSetTaken r s).slc.link = s.slc.link
      ∧ (clientSetTaken r s).slc.acked = s.slc.acked ∧ (clientSetTaken r s).slc.receiver = s.slc.receiver
      ∧ (clientSetTaken r s).slc.startCause = s.slc.startCause
      ∧ (clientSetTaken r s).slc.linkErrors = s.slc.linkErrors ∧ (clientSetTaken r s).slc.breaks = s.slc.breaks
      ∧ (clientSetTaken r s).slc.sending = s.slc.sending ∧ (clientSetTaken r s).slc.deferred = s.slc.deferred
      ∧ (clientSetTaken r s).slc.sleepReq = s.slc.sleepReq ∧ (clientSetTaken r s).slc.owed = s.slc.owed
      ∧ (clientSetTaken r s).slc.wakeOut = s.slc.wakeOut ∧ (clientSetTaken r s).bck = s.bck
      ∧ (clientSetTaken r s).streams = s.streams ∧ (clientSetTaken r s).chunks = s.chunks
      ∧ (clientSetTaken r s).oct = s.oct ∧ (clientSetTaken r s).rtu = s.rtu ∧ (clientSetTaken r s).grants = s.grants
      ∧ (clientSetTaken r s).rpb = s.rpb ∧ (clientSetTaken r s).bpc = s.bpc
      ∧ (clientSetTaken r s).bxp.power = s.bxp.power ∧ (clientSetTaken r s).bxp.returnStandby = s.bxp.returnStandby
      ∧ (clientSetTaken r s).bxp.cause = s.bxp.cause ∧ (clientSetTaken r s).bxp.failures = s.bxp.failures
      ∧ (clientSetTaken r s).bxp.phase = s.bxp.phase ∧ (clientSetTaken r s).bxp.timer = s.bxp.timer
      ∧ (clientSetTaken r s).bxp.sleepAcked = s.bxp.sleepAcked
      ∧ (clientSetTaken r s).bxp.lastFailure = s.bxp.lastFailure ∧ (clientSetTaken r s).nwu = s.nwu
      ∧ (clientSetTaken r s).tiu = s.tiu := by
  unfold clientSetTaken
  simp

@[simp] theorem retireClient_frame (c : Nat) (s : State) :
    (retireClient c s).pending = s.pending ∧ (retireClient c s).free = s.free ∧ (retireClient c s).slc = s.slc
      ∧ (retireClient c s).bck = s.bck ∧ (retireClient c s).streams = s.streams ∧ (retireClient c s).chunks = s.chunks
      ∧ (retireClient c s).oct = s.oct ∧ (retireClient c s).rtu = s.rtu ∧ (retireClient c s).rpb = s.rpb
      ∧ (retireClient c s).bpc = s.bpc ∧ (retireClient c s).bxp.power = s.bxp.power
      ∧ (retireClient c s).bxp.returnStandby = s.bxp.returnStandby ∧ (retireClient c s).bxp.cause = s.bxp.cause
      ∧ (retireClient c s).bxp.failures = s.bxp.failures ∧ (retireClient c s).bxp.phase = s.bxp.phase
      ∧ (retireClient c s).bxp.timer = s.bxp.timer ∧ (retireClient c s).bxp.sleepAcked = s.bxp.sleepAcked
      ∧ (retireClient c s).bxp.lastFailure = s.bxp.lastFailure ∧ (retireClient c s).nwu = s.nwu
      ∧ (retireClient c s).tiu = s.tiu := by
  unfold retireClient
  simp

@[simp] theorem writeSchedule_frame (c : Nat) (sch : Option Schedule) (s : State) :
    (writeSchedule c sch s).pending = s.pending ∧ (writeSchedule c sch s).free = s.free
      ∧ (writeSchedule c sch s).slc.settings = s.slc.settings ∧ (writeSchedule c sch s).slc.enables = s.slc.enables
      ∧ (writeSchedule c sch s).slc.places = s.slc.places ∧ (writeSchedule c sch s).slc.acked = s.slc.acked
      ∧ (writeSchedule c sch s).slc.receiver = s.slc.receiver
      ∧ (writeSchedule c sch s).slc.startCause = s.slc.startCause
      ∧ (writeSchedule c sch s).slc.linkErrors = s.slc.linkErrors ∧ (writeSchedule c sch s).slc.breaks = s.slc.breaks
      ∧ (writeSchedule c sch s).slc.sending = s.slc.sending ∧ (writeSchedule c sch s).slc.deferred = s.slc.deferred
      ∧ (writeSchedule c sch s).bck = s.bck ∧ (writeSchedule c sch s).streams = s.streams
      ∧ (writeSchedule c sch s).chunks = s.chunks ∧ (writeSchedule c sch s).oct = s.oct
      ∧ (writeSchedule c sch s).rtu = s.rtu ∧ (writeSchedule c sch s).grants = s.grants
      ∧ (writeSchedule c sch s).rpb = s.rpb ∧ (writeSchedule c sch s).bxp.sleepAcked = s.bxp.sleepAcked
      ∧ (writeSchedule c sch s).nwu.transmit = s.nwu.transmit ∧ (writeSchedule c sch s).nwu.onWire = s.nwu.onWire
      ∧ (writeSchedule c sch s).nwu.templates = s.nwu.templates ∧ (writeSchedule c sch s).tiu = s.tiu := by
  unfold writeSchedule
  simp

@[simp] theorem openStream_frame (f : OpenFields) (i n : Nat) (s : State) :
    (openStream f i n s).pending = s.pending ∧ (openStream f i n s).free = s.free ∧ (openStream f i n s).slc = s.slc
      ∧ (openStream f i n s).bck = s.bck ∧ (openStream f i n s).clients = s.clients
      ∧ (openStream f i n s).chunks = s.chunks ∧ (openStream f i n s).rtu = s.rtu
      ∧ (openStream f i n s).grants = s.grants ∧ (openStream f i n s).rpb = s.rpb ∧ (openStream f i n s).bxp = s.bxp
      ∧ (openStream f i n s).nwu = s.nwu ∧ (openStream f i n s).tiu = s.tiu := by
  unfold openStream
  simp

@[simp] theorem streamOpenTaken_frame (r : Request) (s : State) :
    (streamOpenTaken r s).pending = s.pending ∧ (streamOpenTaken r s).free = s.free
      ∧ (streamOpenTaken r s).slc.settings = s.slc.settings ∧ (streamOpenTaken r s).slc.latched = s.slc.latched
      ∧ (streamOpenTaken r s).slc.enables = s.slc.enables ∧ (streamOpenTaken r s).slc.link = s.slc.link
      ∧ (streamOpenTaken r s).slc.acked = s.slc.acked ∧ (streamOpenTaken r s).slc.receiver = s.slc.receiver
      ∧ (streamOpenTaken r s).slc.startCause = s.slc.startCause
      ∧ (streamOpenTaken r s).slc.linkErrors = s.slc.linkErrors ∧ (streamOpenTaken r s).slc.breaks = s.slc.breaks
      ∧ (streamOpenTaken r s).slc.sending = s.slc.sending ∧ (streamOpenTaken r s).slc.deferred = s.slc.deferred
      ∧ (streamOpenTaken r s).slc.sleepReq = s.slc.sleepReq ∧ (streamOpenTaken r s).slc.owed = s.slc.owed
      ∧ (streamOpenTaken r s).slc.wakeOut = s.slc.wakeOut ∧ (streamOpenTaken r s).bck = s.bck
      ∧ (streamOpenTaken r s).clients = s.clients ∧ (streamOpenTaken r s).chunks = s.chunks
      ∧ (streamOpenTaken r s).rtu = s.rtu ∧ (streamOpenTaken r s).grants = s.grants
      ∧ (streamOpenTaken r s).rpb = s.rpb ∧ (streamOpenTaken r s).bxp = s.bxp ∧ (streamOpenTaken r s).nwu = s.nwu
      ∧ (streamOpenTaken r s).tiu = s.tiu := by
  unfold streamOpenTaken
  simp

@[simp] theorem clientReadRequest_frame (r : Request) (s : State) :
    (clientReadRequest r s).pending = s.pending ∧ (clientReadRequest r s).free = s.free
      ∧ (clientReadRequest r s).slc.settings = s.slc.settings ∧ (clientReadRequest r s).slc.latched = s.slc.latched
      ∧ (clientReadRequest r s).slc.enables = s.slc.enables ∧ (clientReadRequest r s).slc.link = s.slc.link
      ∧ (clientReadRequest r s).slc.acked = s.slc.acked ∧ (clientReadRequest r s).slc.receiver = s.slc.receiver
      ∧ (clientReadRequest r s).slc.startCause = s.slc.startCause
      ∧ (clientReadRequest r s).slc.linkErrors = s.slc.linkErrors ∧ (clientReadRequest r s).slc.breaks = s.slc.breaks
      ∧ (clientReadRequest r s).slc.sending = s.slc.sending ∧ (clientReadRequest r s).slc.deferred = s.slc.deferred
      ∧ (clientReadRequest r s).slc.sleepReq = s.slc.sleepReq ∧ (clientReadRequest r s).slc.owed = s.slc.owed
      ∧ (clientReadRequest r s).slc.wakeOut = s.slc.wakeOut ∧ (clientReadRequest r s).bck = s.bck
      ∧ (clientReadRequest r s).streams = s.streams ∧ (clientReadRequest r s).chunks = s.chunks
      ∧ (clientReadRequest r s).oct = s.oct ∧ (clientReadRequest r s).rtu = s.rtu
      ∧ (clientReadRequest r s).grants = s.grants ∧ (clientReadRequest r s).rpb = s.rpb
      ∧ (clientReadRequest r s).bpc = s.bpc ∧ (clientReadRequest r s).bxp.power = s.bxp.power
      ∧ (clientReadRequest r s).bxp.returnStandby = s.bxp.returnStandby
      ∧ (clientReadRequest r s).bxp.cause = s.bxp.cause ∧ (clientReadRequest r s).bxp.failures = s.bxp.failures
      ∧ (clientReadRequest r s).bxp.phase = s.bxp.phase ∧ (clientReadRequest r s).bxp.timer = s.bxp.timer
      ∧ (clientReadRequest r s).bxp.sleepAcked = s.bxp.sleepAcked
      ∧ (clientReadRequest r s).bxp.lastFailure = s.bxp.lastFailure ∧ (clientReadRequest r s).nwu = s.nwu
      ∧ (clientReadRequest r s).tiu = s.tiu := by
  unfold clientReadRequest guarded
  split <;> simp

@[simp] theorem clientSetRequest_frame (r : Request) (s : State) :
    (clientSetRequest r s).pending = s.pending ∧ (clientSetRequest r s).free = s.free
      ∧ (clientSetRequest r s).slc.settings = s.slc.settings ∧ (clientSetRequest r s).slc.latched = s.slc.latched
      ∧ (clientSetRequest r s).slc.enables = s.slc.enables ∧ (clientSetRequest r s).slc.link = s.slc.link
      ∧ (clientSetRequest r s).slc.acked = s.slc.acked ∧ (clientSetRequest r s).slc.receiver = s.slc.receiver
      ∧ (clientSetRequest r s).slc.startCause = s.slc.startCause
      ∧ (clientSetRequest r s).slc.linkErrors = s.slc.linkErrors ∧ (clientSetRequest r s).slc.breaks = s.slc.breaks
      ∧ (clientSetRequest r s).slc.sending = s.slc.sending ∧ (clientSetRequest r s).slc.deferred = s.slc.deferred
      ∧ (clientSetRequest r s).slc.sleepReq = s.slc.sleepReq ∧ (clientSetRequest r s).slc.owed = s.slc.owed
      ∧ (clientSetRequest r s).slc.wakeOut = s.slc.wakeOut ∧ (clientSetRequest r s).bck = s.bck
      ∧ (clientSetRequest r s).streams = s.streams ∧ (clientSetRequest r s).chunks = s.chunks
      ∧ (clientSetRequest r s).oct = s.oct ∧ (clientSetRequest r s).rtu = s.rtu
      ∧ (clientSetRequest r s).grants = s.grants ∧ (clientSetRequest r s).rpb = s.rpb
      ∧ (clientSetRequest r s).bpc = s.bpc ∧ (clientSetRequest r s).bxp.power = s.bxp.power
      ∧ (clientSetRequest r s).bxp.returnStandby = s.bxp.returnStandby
      ∧ (clientSetRequest r s).bxp.cause = s.bxp.cause ∧ (clientSetRequest r s).bxp.failures = s.bxp.failures
      ∧ (clientSetRequest r s).bxp.phase = s.bxp.phase ∧ (clientSetRequest r s).bxp.timer = s.bxp.timer
      ∧ (clientSetRequest r s).bxp.sleepAcked = s.bxp.sleepAcked
      ∧ (clientSetRequest r s).bxp.lastFailure = s.bxp.lastFailure ∧ (clientSetRequest r s).nwu = s.nwu
      ∧ (clientSetRequest r s).tiu = s.tiu := by
  unfold clientSetRequest guarded
  split <;> simp

@[simp] theorem takenBetween_frame (n : Nat) (s : State) :
    (takenBetween n s).pending = s.pending ∧ (takenBetween n s).free = s.free
      ∧ (takenBetween n s).slc.settings = s.slc.settings ∧ (takenBetween n s).slc.latched = s.slc.latched
      ∧ (takenBetween n s).slc.enables = s.slc.enables ∧ (takenBetween n s).slc.link = s.slc.link
      ∧ (takenBetween n s).slc.acked = s.slc.acked ∧ (takenBetween n s).slc.receiver = s.slc.receiver
      ∧ (takenBetween n s).slc.startCause = s.slc.startCause ∧ (takenBetween n s).slc.linkErrors = s.slc.linkErrors
      ∧ (takenBetween n s).slc.breaks = s.slc.breaks ∧ (takenBetween n s).slc.sending = s.slc.sending
      ∧ (takenBetween n s).slc.deferred = s.slc.deferred ∧ (takenBetween n s).slc.sleepReq = s.slc.sleepReq
      ∧ (takenBetween n s).slc.owed = s.slc.owed ∧ (takenBetween n s).slc.wakeOut = s.slc.wakeOut
      ∧ (takenBetween n s).bck = s.bck ∧ (takenBetween n s).streams = s.streams ∧ (takenBetween n s).chunks = s.chunks
      ∧ (takenBetween n s).oct = s.oct ∧ (takenBetween n s).rtu = s.rtu ∧ (takenBetween n s).grants = s.grants
      ∧ (takenBetween n s).rpb = s.rpb ∧ (takenBetween n s).bpc = s.bpc ∧ (takenBetween n s).bxp.power = s.bxp.power
      ∧ (takenBetween n s).bxp.returnStandby = s.bxp.returnStandby ∧ (takenBetween n s).bxp.cause = s.bxp.cause
      ∧ (takenBetween n s).bxp.failures = s.bxp.failures ∧ (takenBetween n s).bxp.phase = s.bxp.phase
      ∧ (takenBetween n s).bxp.timer = s.bxp.timer ∧ (takenBetween n s).bxp.sleepAcked = s.bxp.sleepAcked
      ∧ (takenBetween n s).bxp.lastFailure = s.bxp.lastFailure ∧ (takenBetween n s).nwu = s.nwu
      ∧ (takenBetween n s).tiu = s.tiu := by
  induction n generalizing s with
  | zero => simp [takenBetween]
  | succ n ih => unfold takenBetween; repeat' split
                 all_goals simp [ih]

@[simp] theorem refundVerdict_frame (amount : Option Nat) (c g : Nat) (s : State) :
    (refundVerdict amount c g s).pending = s.pending
      ∧ (refundVerdict amount c g s).slc.settings = s.slc.settings
      ∧ (refundVerdict amount c g s).slc.latched = s.slc.latched
      ∧ (refundVerdict amount c g s).slc.enables = s.slc.enables
      ∧ (refundVerdict amount c g s).slc.link = s.slc.link ∧ (refundVerdict amount c g s).slc.acked = s.slc.acked
      ∧ (refundVerdict amount c g s).slc.receiver = s.slc.receiver
      ∧ (refundVerdict amount c g s).slc.startCause = s.slc.startCause
      ∧ (refundVerdict amount c g s).slc.linkErrors = s.slc.linkErrors
      ∧ (refundVerdict amount c g s).slc.breaks = s.slc.breaks
      ∧ (refundVerdict amount c g s).slc.sending = s.slc.sending
      ∧ (refundVerdict amount c g s).slc.deferred = s.slc.deferred
      ∧ (refundVerdict amount c g s).slc.sleepReq = s.slc.sleepReq
      ∧ (refundVerdict amount c g s).slc.owed = s.slc.owed
      ∧ (refundVerdict amount c g s).slc.wakeOut = s.slc.wakeOut ∧ (refundVerdict amount c g s).bck = s.bck
      ∧ (refundVerdict amount c g s).streams = s.streams ∧ (refundVerdict amount c g s).chunks = s.chunks
      ∧ (refundVerdict amount c g s).oct = s.oct ∧ (refundVerdict amount c g s).rtu = s.rtu
      ∧ (refundVerdict amount c g s).grants = s.grants ∧ (refundVerdict amount c g s).rpb = s.rpb
      ∧ (refundVerdict amount c g s).bpc = s.bpc ∧ (refundVerdict amount c g s).bxp.power = s.bxp.power
      ∧ (refundVerdict amount c g s).bxp.returnStandby = s.bxp.returnStandby
      ∧ (refundVerdict amount c g s).bxp.cause = s.bxp.cause
      ∧ (refundVerdict amount c g s).bxp.failures = s.bxp.failures
      ∧ (refundVerdict amount c g s).bxp.phase = s.bxp.phase
      ∧ (refundVerdict amount c g s).bxp.timer = s.bxp.timer
      ∧ (refundVerdict amount c g s).bxp.sleepAcked = s.bxp.sleepAcked
      ∧ (refundVerdict amount c g s).bxp.lastFailure = s.bxp.lastFailure
      ∧ (refundVerdict amount c g s).nwu = s.nwu ∧ (refundVerdict amount c g s).tiu = s.tiu := by
  unfold refundVerdict
  split <;> simp

@[simp] theorem present_frame (i : Nat) (d : Digest) (length : Nat) (s : State) :
    (present i d length s).2.pending = s.pending
      ∧ (present i d length s).2.slc.settings = s.slc.settings
      ∧ (present i d length s).2.slc.latched = s.slc.latched
      ∧ (present i d length s).2.slc.enables = s.slc.enables ∧ (present i d length s).2.slc.link = s.slc.link
      ∧ (present i d length s).2.slc.acked = s.slc.acked ∧ (present i d length s).2.slc.receiver = s.slc.receiver
      ∧ (present i d length s).2.slc.startCause = s.slc.startCause
      ∧ (present i d length s).2.slc.linkErrors = s.slc.linkErrors
      ∧ (present i d length s).2.slc.breaks = s.slc.breaks ∧ (present i d length s).2.slc.sending = s.slc.sending
      ∧ (present i d length s).2.slc.deferred = s.slc.deferred
      ∧ (present i d length s).2.slc.sleepReq = s.slc.sleepReq ∧ (present i d length s).2.slc.owed = s.slc.owed
      ∧ (present i d length s).2.slc.wakeOut = s.slc.wakeOut ∧ (present i d length s).2.bck = s.bck
      ∧ (present i d length s).2.streams = s.streams ∧ (present i d length s).2.oct.colls = s.oct.colls
      ∧ (present i d length s).2.rtu.orders = s.rtu.orders ∧ (present i d length s).2.rtu.current = s.rtu.current
      ∧ (present i d length s).2.rtu.nested = s.rtu.nested ∧ (present i d length s).2.rtu.walk = s.rtu.walk
      ∧ (present i d length s).2.rtu.release = s.rtu.release
      ∧ (present i d length s).2.rtu.deferred = s.rtu.deferred
      ∧ (present i d length s).2.rtu.lastBatch = s.rtu.lastBatch ∧ (present i d length s).2.grants = s.grants
      ∧ (present i d length s).2.rpb = s.rpb ∧ (present i d length s).2.bpc = s.bpc
      ∧ (present i d length s).2.bxp.power = s.bxp.power
      ∧ (present i d length s).2.bxp.returnStandby = s.bxp.returnStandby
      ∧ (present i d length s).2.bxp.cause = s.bxp.cause ∧ (present i d length s).2.bxp.failures = s.bxp.failures
      ∧ (present i d length s).2.bxp.phase = s.bxp.phase ∧ (present i d length s).2.bxp.timer = s.bxp.timer
      ∧ (present i d length s).2.bxp.sleepAcked = s.bxp.sleepAcked
      ∧ (present i d length s).2.bxp.lastFailure = s.bxp.lastFailure ∧ (present i d length s).2.nwu = s.nwu
      ∧ (present i d length s).2.tiu = s.tiu := by
  unfold present
  (try dsimp only)
  (repeat' split) <;> simp_all

@[simp] theorem haltPacket_frame (i : Nat) (why : HaltReason) (s : State) :
    (haltPacket i why s).pending = s.pending ∧ (haltPacket i why s).free = s.free
      ∧ (haltPacket i why s).slc.settings = s.slc.settings ∧ (haltPacket i why s).slc.latched = s.slc.latched
      ∧ (haltPacket i why s).slc.enables = s.slc.enables ∧ (haltPacket i why s).slc.places = s.slc.places
      ∧ (haltPacket i why s).slc.link = s.slc.link ∧ (haltPacket i why s).slc.acked = s.slc.acked
      ∧ (haltPacket i why s).slc.receiver = s.slc.receiver ∧ (haltPacket i why s).slc.startCause = s.slc.startCause
      ∧ (haltPacket i why s).slc.linkErrors = s.slc.linkErrors ∧ (haltPacket i why s).slc.breaks = s.slc.breaks
      ∧ (haltPacket i why s).slc.sending = s.slc.sending ∧ (haltPacket i why s).slc.sleepReq = s.slc.sleepReq
      ∧ (haltPacket i why s).slc.owed = s.slc.owed ∧ (haltPacket i why s).slc.wakeOut = s.slc.wakeOut
      ∧ (haltPacket i why s).bck = s.bck ∧ (haltPacket i why s).clients = s.clients
      ∧ (haltPacket i why s).chunks = s.chunks ∧ (haltPacket i why s).oct = s.oct ∧ (haltPacket i why s).rtu = s.rtu
      ∧ (haltPacket i why s).grants = s.grants ∧ (haltPacket i why s).rpb = s.rpb ∧ (haltPacket i why s).bpc = s.bpc
      ∧ (haltPacket i why s).bxp = s.bxp ∧ (haltPacket i why s).nwu = s.nwu ∧ (haltPacket i why s).tiu = s.tiu := by
  unfold haltPacket
  simp

@[simp] theorem cutChunk_frame (i : Nat) (s : State) :
    (cutChunk i s).2.pending = s.pending
      ∧ (cutChunk i s).2.slc.settings = s.slc.settings ∧ (cutChunk i s).2.slc.latched = s.slc.latched
      ∧ (cutChunk i s).2.slc.enables = s.slc.enables ∧ (cutChunk i s).2.slc.link = s.slc.link
      ∧ (cutChunk i s).2.slc.acked = s.slc.acked ∧ (cutChunk i s).2.slc.receiver = s.slc.receiver
      ∧ (cutChunk i s).2.slc.startCause = s.slc.startCause ∧ (cutChunk i s).2.slc.linkErrors = s.slc.linkErrors
      ∧ (cutChunk i s).2.slc.breaks = s.slc.breaks ∧ (cutChunk i s).2.slc.sending = s.slc.sending
      ∧ (cutChunk i s).2.slc.sleepReq = s.slc.sleepReq ∧ (cutChunk i s).2.slc.owed = s.slc.owed
      ∧ (cutChunk i s).2.slc.wakeOut = s.slc.wakeOut ∧ (cutChunk i s).2.bck = s.bck
      ∧ (cutChunk i s).2.oct.colls = s.oct.colls ∧ (cutChunk i s).2.rtu.orders = s.rtu.orders
      ∧ (cutChunk i s).2.rtu.current = s.rtu.current ∧ (cutChunk i s).2.rtu.nested = s.rtu.nested
      ∧ (cutChunk i s).2.rtu.walk = s.rtu.walk ∧ (cutChunk i s).2.rtu.release = s.rtu.release
      ∧ (cutChunk i s).2.rtu.deferred = s.rtu.deferred ∧ (cutChunk i s).2.rtu.lastBatch = s.rtu.lastBatch
      ∧ (cutChunk i s).2.grants = s.grants ∧ (cutChunk i s).2.rpb = s.rpb ∧ (cutChunk i s).2.bpc = s.bpc
      ∧ (cutChunk i s).2.bxp.power = s.bxp.power ∧ (cutChunk i s).2.bxp.returnStandby = s.bxp.returnStandby
      ∧ (cutChunk i s).2.bxp.cause = s.bxp.cause ∧ (cutChunk i s).2.bxp.failures = s.bxp.failures
      ∧ (cutChunk i s).2.bxp.phase = s.bxp.phase ∧ (cutChunk i s).2.bxp.timer = s.bxp.timer
      ∧ (cutChunk i s).2.bxp.sleepAcked = s.bxp.sleepAcked ∧ (cutChunk i s).2.bxp.lastFailure = s.bxp.lastFailure
      ∧ (cutChunk i s).2.nwu = s.nwu ∧ (cutChunk i s).2.tiu = s.tiu := by
  unfold cutChunk
  have hp := present_frame i (s.stream i).running.finish (s.stream i).chunkLength s
  dsimp only
  revert hp
  generalize present i (s.stream i).running.finish (s.stream i).chunkLength s = t
  obtain ⟨a, u⟩ := t
  intro hp
  cases a <;> simp_all

@[simp] theorem takeBytes_frame (i : Nat) (x0 : List Byte) (x1 : List VerdictRecord) (s : State) :
    (takeBytes i x0 x1 s).2.pending = s.pending
      ∧ (takeBytes i x0 x1 s).2.slc.settings = s.slc.settings
      ∧ (takeBytes i x0 x1 s).2.slc.latched = s.slc.latched ∧ (takeBytes i x0 x1 s).2.slc.enables = s.slc.enables
      ∧ (takeBytes i x0 x1 s).2.slc.link = s.slc.link ∧ (takeBytes i x0 x1 s).2.slc.acked = s.slc.acked
      ∧ (takeBytes i x0 x1 s).2.slc.receiver = s.slc.receiver
      ∧ (takeBytes i x0 x1 s).2.slc.startCause = s.slc.startCause
      ∧ (takeBytes i x0 x1 s).2.slc.linkErrors = s.slc.linkErrors
      ∧ (takeBytes i x0 x1 s).2.slc.breaks = s.slc.breaks ∧ (takeBytes i x0 x1 s).2.slc.sending = s.slc.sending
      ∧ (takeBytes i x0 x1 s).2.slc.sleepReq = s.slc.sleepReq ∧ (takeBytes i x0 x1 s).2.slc.owed = s.slc.owed
      ∧ (takeBytes i x0 x1 s).2.slc.wakeOut = s.slc.wakeOut ∧ (takeBytes i x0 x1 s).2.bck = s.bck
      ∧ (takeBytes i x0 x1 s).2.oct.colls = s.oct.colls ∧ (takeBytes i x0 x1 s).2.rtu.orders = s.rtu.orders
      ∧ (takeBytes i x0 x1 s).2.rtu.current = s.rtu.current ∧ (takeBytes i x0 x1 s).2.rtu.nested = s.rtu.nested
      ∧ (takeBytes i x0 x1 s).2.rtu.walk = s.rtu.walk ∧ (takeBytes i x0 x1 s).2.rtu.release = s.rtu.release
      ∧ (takeBytes i x0 x1 s).2.rtu.deferred = s.rtu.deferred
      ∧ (takeBytes i x0 x1 s).2.rtu.lastBatch = s.rtu.lastBatch ∧ (takeBytes i x0 x1 s).2.grants = s.grants
      ∧ (takeBytes i x0 x1 s).2.rpb = s.rpb ∧ (takeBytes i x0 x1 s).2.bpc = s.bpc
      ∧ (takeBytes i x0 x1 s).2.bxp.power = s.bxp.power
      ∧ (takeBytes i x0 x1 s).2.bxp.returnStandby = s.bxp.returnStandby
      ∧ (takeBytes i x0 x1 s).2.bxp.cause = s.bxp.cause ∧ (takeBytes i x0 x1 s).2.bxp.failures = s.bxp.failures
      ∧ (takeBytes i x0 x1 s).2.bxp.phase = s.bxp.phase ∧ (takeBytes i x0 x1 s).2.bxp.timer = s.bxp.timer
      ∧ (takeBytes i x0 x1 s).2.bxp.sleepAcked = s.bxp.sleepAcked
      ∧ (takeBytes i x0 x1 s).2.bxp.lastFailure = s.bxp.lastFailure ∧ (takeBytes i x0 x1 s).2.nwu = s.nwu
      ∧ (takeBytes i x0 x1 s).2.tiu = s.tiu := by
  induction x0 generalizing x1 s with
  | nil => simp [takeBytes]
  | cons b bs ih =>
    simp only [takeBytes]
    split
    · simp
    · split
      · have hc := cutChunk_frame i (s.setStream i ((s.stream i).takeByte b))
        revert hc
        generalize cutChunk i (s.setStream i ((s.stream i).takeByte b)) = t
        obtain ⟨o, u⟩ := t
        intro hc
        cases o <;> simp_all
      · simp [ih]

@[simp] theorem endStream_frame (i : Nat) (s : State) :
    (endStream i s).pending = s.pending ∧ (endStream i s).free = s.free ∧ (endStream i s).slc = s.slc
      ∧ (endStream i s).bck = s.bck ∧ (endStream i s).clients = s.clients ∧ (endStream i s).chunks = s.chunks
      ∧ (endStream i s).oct = s.oct ∧ (endStream i s).rtu = s.rtu ∧ (endStream i s).grants = s.grants
      ∧ (endStream i s).rpb = s.rpb ∧ (endStream i s).bpc = s.bpc ∧ (endStream i s).bxp = s.bxp
      ∧ (endStream i s).nwu = s.nwu ∧ (endStream i s).tiu = s.tiu := by
  unfold endStream
  simp

@[simp] theorem takeEnd_frame (i : Nat) (recs : List VerdictRecord) (s : State) :
    (takeEnd i recs s).2.pending = s.pending
      ∧ (takeEnd i recs s).2.slc.settings = s.slc.settings ∧ (takeEnd i recs s).2.slc.latched = s.slc.latched
      ∧ (takeEnd i recs s).2.slc.enables = s.slc.enables ∧ (takeEnd i recs s).2.slc.link = s.slc.link
      ∧ (takeEnd i recs s).2.slc.acked = s.slc.acked ∧ (takeEnd i recs s).2.slc.receiver = s.slc.receiver
      ∧ (takeEnd i recs s).2.slc.startCause = s.slc.startCause
      ∧ (takeEnd i recs s).2.slc.linkErrors = s.slc.linkErrors ∧ (takeEnd i recs s).2.slc.breaks = s.slc.breaks
      ∧ (takeEnd i recs s).2.slc.sending = s.slc.sending ∧ (takeEnd i recs s).2.slc.sleepReq = s.slc.sleepReq
      ∧ (takeEnd i recs s).2.slc.owed = s.slc.owed ∧ (takeEnd i recs s).2.slc.wakeOut = s.slc.wakeOut
      ∧ (takeEnd i recs s).2.bck = s.bck ∧ (takeEnd i recs s).2.oct.colls = s.oct.colls
      ∧ (takeEnd i recs s).2.rtu.orders = s.rtu.orders ∧ (takeEnd i recs s).2.rtu.current = s.rtu.current
      ∧ (takeEnd i recs s).2.rtu.nested = s.rtu.nested ∧ (takeEnd i recs s).2.rtu.walk = s.rtu.walk
      ∧ (takeEnd i recs s).2.rtu.release = s.rtu.release ∧ (takeEnd i recs s).2.rtu.deferred = s.rtu.deferred
      ∧ (takeEnd i recs s).2.rtu.lastBatch = s.rtu.lastBatch ∧ (takeEnd i recs s).2.grants = s.grants
      ∧ (takeEnd i recs s).2.rpb = s.rpb ∧ (takeEnd i recs s).2.bpc = s.bpc
      ∧ (takeEnd i recs s).2.bxp.power = s.bxp.power
      ∧ (takeEnd i recs s).2.bxp.returnStandby = s.bxp.returnStandby
      ∧ (takeEnd i recs s).2.bxp.cause = s.bxp.cause ∧ (takeEnd i recs s).2.bxp.failures = s.bxp.failures
      ∧ (takeEnd i recs s).2.bxp.phase = s.bxp.phase ∧ (takeEnd i recs s).2.bxp.timer = s.bxp.timer
      ∧ (takeEnd i recs s).2.bxp.sleepAcked = s.bxp.sleepAcked
      ∧ (takeEnd i recs s).2.bxp.lastFailure = s.bxp.lastFailure ∧ (takeEnd i recs s).2.nwu = s.nwu
      ∧ (takeEnd i recs s).2.tiu = s.tiu := by
  unfold takeEnd
  split
  · simp
  · split
    · simp
    · have hc := cutChunk_frame i s
      revert hc
      generalize cutChunk i s = t
      obtain ⟨o, u⟩ := t
      intro hc
      cases o <;> simp_all

@[simp] theorem takePacket_frame (i : Nat) (bytes : List Byte) (isEnd : Bool) (s : State) :
    (takePacket i bytes isEnd s).2.pending = s.pending
      ∧ (takePacket i bytes isEnd s).2.slc.settings = s.slc.settings
      ∧ (takePacket i bytes isEnd s).2.slc.latched = s.slc.latched
      ∧ (takePacket i bytes isEnd s).2.slc.enables = s.slc.enables
      ∧ (takePacket i bytes isEnd s).2.slc.link = s.slc.link
      ∧ (takePacket i bytes isEnd s).2.slc.acked = s.slc.acked
      ∧ (takePacket i bytes isEnd s).2.slc.receiver = s.slc.receiver
      ∧ (takePacket i bytes isEnd s).2.slc.startCause = s.slc.startCause
      ∧ (takePacket i bytes isEnd s).2.slc.linkErrors = s.slc.linkErrors
      ∧ (takePacket i bytes isEnd s).2.slc.breaks = s.slc.breaks
      ∧ (takePacket i bytes isEnd s).2.slc.sending = s.slc.sending
      ∧ (takePacket i bytes isEnd s).2.slc.sleepReq = s.slc.sleepReq
      ∧ (takePacket i bytes isEnd s).2.slc.owed = s.slc.owed
      ∧ (takePacket i bytes isEnd s).2.slc.wakeOut = s.slc.wakeOut ∧ (takePacket i bytes isEnd s).2.bck = s.bck
      ∧ (takePacket i bytes isEnd s).2.oct.colls = s.oct.colls
      ∧ (takePacket i bytes isEnd s).2.rtu.orders = s.rtu.orders
      ∧ (takePacket i bytes isEnd s).2.rtu.current = s.rtu.current
      ∧ (takePacket i bytes isEnd s).2.rtu.nested = s.rtu.nested
      ∧ (takePacket i bytes isEnd s).2.rtu.walk = s.rtu.walk
      ∧ (takePacket i bytes isEnd s).2.rtu.release = s.rtu.release
      ∧ (takePacket i bytes isEnd s).2.rtu.deferred = s.rtu.deferred
      ∧ (takePacket i bytes isEnd s).2.rtu.lastBatch = s.rtu.lastBatch
      ∧ (takePacket i bytes isEnd s).2.grants = s.grants ∧ (takePacket i bytes isEnd s).2.rpb = s.rpb
      ∧ (takePacket i bytes isEnd s).2.bpc = s.bpc ∧ (takePacket i bytes isEnd s).2.bxp.power = s.bxp.power
      ∧ (takePacket i bytes isEnd s).2.bxp.returnStandby = s.bxp.returnStandby
      ∧ (takePacket i bytes isEnd s).2.bxp.cause = s.bxp.cause
      ∧ (takePacket i bytes isEnd s).2.bxp.failures = s.bxp.failures
      ∧ (takePacket i bytes isEnd s).2.bxp.phase = s.bxp.phase
      ∧ (takePacket i bytes isEnd s).2.bxp.timer = s.bxp.timer
      ∧ (takePacket i bytes isEnd s).2.bxp.sleepAcked = s.bxp.sleepAcked
      ∧ (takePacket i bytes isEnd s).2.bxp.lastFailure = s.bxp.lastFailure
      ∧ (takePacket i bytes isEnd s).2.nwu = s.nwu ∧ (takePacket i bytes isEnd s).2.tiu = s.tiu := by
  unfold takePacket
  (try dsimp only)
  (repeat' split) <;> simp_all

@[simp] theorem streamDataTaken_frame (r : Request) (s : State) :
    (streamDataTaken r s).pending = s.pending
      ∧ (streamDataTaken r s).slc.settings = s.slc.settings ∧ (streamDataTaken r s).slc.latched = s.slc.latched
      ∧ (streamDataTaken r s).slc.enables = s.slc.enables ∧ (streamDataTaken r s).slc.link = s.slc.link
      ∧ (streamDataTaken r s).slc.acked = s.slc.acked ∧ (streamDataTaken r s).slc.receiver = s.slc.receiver
      ∧ (streamDataTaken r s).slc.startCause = s.slc.startCause
      ∧ (streamDataTaken r s).slc.linkErrors = s.slc.linkErrors ∧ (streamDataTaken r s).slc.breaks = s.slc.breaks
      ∧ (streamDataTaken r s).slc.sending = s.slc.sending ∧ (streamDataTaken r s).slc.sleepReq = s.slc.sleepReq
      ∧ (streamDataTaken r s).slc.owed = s.slc.owed ∧ (streamDataTaken r s).slc.wakeOut = s.slc.wakeOut
      ∧ (streamDataTaken r s).bck = s.bck ∧ (streamDataTaken r s).oct.colls = s.oct.colls
      ∧ (streamDataTaken r s).rtu.orders = s.rtu.orders ∧ (streamDataTaken r s).rtu.current = s.rtu.current
      ∧ (streamDataTaken r s).rtu.nested = s.rtu.nested ∧ (streamDataTaken r s).rtu.walk = s.rtu.walk
      ∧ (streamDataTaken r s).rtu.release = s.rtu.release ∧ (streamDataTaken r s).rtu.deferred = s.rtu.deferred
      ∧ (streamDataTaken r s).rtu.lastBatch = s.rtu.lastBatch ∧ (streamDataTaken r s).grants = s.grants
      ∧ (streamDataTaken r s).rpb = s.rpb ∧ (streamDataTaken r s).bpc = s.bpc
      ∧ (streamDataTaken r s).bxp.power = s.bxp.power
      ∧ (streamDataTaken r s).bxp.returnStandby = s.bxp.returnStandby
      ∧ (streamDataTaken r s).bxp.cause = s.bxp.cause ∧ (streamDataTaken r s).bxp.failures = s.bxp.failures
      ∧ (streamDataTaken r s).bxp.phase = s.bxp.phase ∧ (streamDataTaken r s).bxp.timer = s.bxp.timer
      ∧ (streamDataTaken r s).bxp.sleepAcked = s.bxp.sleepAcked
      ∧ (streamDataTaken r s).bxp.lastFailure = s.bxp.lastFailure ∧ (streamDataTaken r s).nwu = s.nwu
      ∧ (streamDataTaken r s).tiu = s.tiu := by
  unfold streamDataTaken
  (try dsimp only)
  (repeat' split) <;> simp_all

@[simp] theorem commitEntries_frame (i : Nat) (x0 : List (List Byte)) (x1 : List Status) (s : State) :
    (commitEntries i x0 x1 s).2.pending = s.pending ∧ (commitEntries i x0 x1 s).2.free = s.free
      ∧ (commitEntries i x0 x1 s).2.slc.settings = s.slc.settings
      ∧ (commitEntries i x0 x1 s).2.slc.latched = s.slc.latched
      ∧ (commitEntries i x0 x1 s).2.slc.enables = s.slc.enables
      ∧ (commitEntries i x0 x1 s).2.slc.places = s.slc.places ∧ (commitEntries i x0 x1 s).2.slc.link = s.slc.link
      ∧ (commitEntries i x0 x1 s).2.slc.acked = s.slc.acked
      ∧ (commitEntries i x0 x1 s).2.slc.receiver = s.slc.receiver
      ∧ (commitEntries i x0 x1 s).2.slc.startCause = s.slc.startCause
      ∧ (commitEntries i x0 x1 s).2.slc.linkErrors = s.slc.linkErrors
      ∧ (commitEntries i x0 x1 s).2.slc.breaks = s.slc.breaks
      ∧ (commitEntries i x0 x1 s).2.slc.sending = s.slc.sending
      ∧ (commitEntries i x0 x1 s).2.slc.sleepReq = s.slc.sleepReq ∧ (commitEntries i x0 x1 s).2.slc.owed = s.slc.owed
      ∧ (commitEntries i x0 x1 s).2.slc.wakeOut = s.slc.wakeOut ∧ (commitEntries i x0 x1 s).2.bck = s.bck
      ∧ (commitEntries i x0 x1 s).2.rtu.orders = s.rtu.orders
      ∧ (commitEntries i x0 x1 s).2.rtu.current = s.rtu.current
      ∧ (commitEntries i x0 x1 s).2.rtu.nested = s.rtu.nested ∧ (commitEntries i x0 x1 s).2.rtu.walk = s.rtu.walk
      ∧ (commitEntries i x0 x1 s).2.rtu.lastBatch = s.rtu.lastBatch ∧ (commitEntries i x0 x1 s).2.grants = s.grants
      ∧ (commitEntries i x0 x1 s).2.rpb = s.rpb ∧ (commitEntries i x0 x1 s).2.bxp = s.bxp
      ∧ (commitEntries i x0 x1 s).2.nwu = s.nwu ∧ (commitEntries i x0 x1 s).2.tiu = s.tiu := by
  induction x0 generalizing x1 s with
  | nil => simp [commitEntries]
  | cons b bs ih =>
    simp only [commitEntries]
    simp_all

@[simp] theorem streamCommitTaken_frame (r : Request) (s : State) :
    (streamCommitTaken r s).pending = s.pending ∧ (streamCommitTaken r s).free = s.free
      ∧ (streamCommitTaken r s).slc.settings = s.slc.settings ∧ (streamCommitTaken r s).slc.latched = s.slc.latched
      ∧ (streamCommitTaken r s).slc.enables = s.slc.enables ∧ (streamCommitTaken r s).slc.link = s.slc.link
      ∧ (streamCommitTaken r s).slc.acked = s.slc.acked ∧ (streamCommitTaken r s).slc.receiver = s.slc.receiver
      ∧ (streamCommitTaken r s).slc.startCause = s.slc.startCause
      ∧ (streamCommitTaken r s).slc.linkErrors = s.slc.linkErrors ∧ (streamCommitTaken r s).slc.breaks = s.slc.breaks
      ∧ (streamCommitTaken r s).slc.sending = s.slc.sending ∧ (streamCommitTaken r s).slc.sleepReq = s.slc.sleepReq
      ∧ (streamCommitTaken r s).slc.owed = s.slc.owed ∧ (streamCommitTaken r s).slc.wakeOut = s.slc.wakeOut
      ∧ (streamCommitTaken r s).bck = s.bck ∧ (streamCommitTaken r s).rtu.orders = s.rtu.orders
      ∧ (streamCommitTaken r s).rtu.current = s.rtu.current ∧ (streamCommitTaken r s).rtu.nested = s.rtu.nested
      ∧ (streamCommitTaken r s).rtu.walk = s.rtu.walk ∧ (streamCommitTaken r s).rtu.lastBatch = s.rtu.lastBatch
      ∧ (streamCommitTaken r s).grants = s.grants ∧ (streamCommitTaken r s).rpb = s.rpb
      ∧ (streamCommitTaken r s).bxp = s.bxp ∧ (streamCommitTaken r s).nwu = s.nwu
      ∧ (streamCommitTaken r s).tiu = s.tiu := by
  unfold streamCommitTaken
  (try dsimp only)
  simp_all

@[simp] theorem completeIfFinished_frame (i : Nat) (s : State) :
    (completeIfFinished i s).pending = s.pending ∧ (completeIfFinished i s).free = s.free
      ∧ (completeIfFinished i s).slc.settings = s.slc.settings ∧ (completeIfFinished i s).slc.latched = s.slc.latched
      ∧ (completeIfFinished i s).slc.enables = s.slc.enables ∧ (completeIfFinished i s).slc.places = s.slc.places
      ∧ (completeIfFinished i s).slc.link = s.slc.link ∧ (completeIfFinished i s).slc.acked = s.slc.acked
      ∧ (completeIfFinished i s).slc.receiver = s.slc.receiver
      ∧ (completeIfFinished i s).slc.startCause = s.slc.startCause
      ∧ (completeIfFinished i s).slc.linkErrors = s.slc.linkErrors
      ∧ (completeIfFinished i s).slc.breaks = s.slc.breaks ∧ (completeIfFinished i s).slc.sending = s.slc.sending
      ∧ (completeIfFinished i s).slc.sleepReq = s.slc.sleepReq ∧ (completeIfFinished i s).slc.owed = s.slc.owed
      ∧ (completeIfFinished i s).slc.wakeOut = s.slc.wakeOut ∧ (completeIfFinished i s).bck = s.bck
      ∧ (completeIfFinished i s).clients = s.clients ∧ (completeIfFinished i s).chunks = s.chunks
      ∧ (completeIfFinished i s).rtu = s.rtu ∧ (completeIfFinished i s).grants = s.grants
      ∧ (completeIfFinished i s).rpb = s.rpb ∧ (completeIfFinished i s).bxp = s.bxp
      ∧ (completeIfFinished i s).nwu = s.nwu ∧ (completeIfFinished i s).tiu = s.tiu := by
  unfold completeIfFinished
  (repeat' split) <;> simp_all

@[simp] theorem streamFinishTaken_frame (r : Request) (s : State) :
    (streamFinishTaken r s).pending = s.pending ∧ (streamFinishTaken r s).free = s.free
      ∧ (streamFinishTaken r s).slc.settings = s.slc.settings ∧ (streamFinishTaken r s).slc.latched = s.slc.latched
      ∧ (streamFinishTaken r s).slc.enables = s.slc.enables ∧ (streamFinishTaken r s).slc.link = s.slc.link
      ∧ (streamFinishTaken r s).slc.acked = s.slc.acked ∧ (streamFinishTaken r s).slc.receiver = s.slc.receiver
      ∧ (streamFinishTaken r s).slc.startCause = s.slc.startCause
      ∧ (streamFinishTaken r s).slc.linkErrors = s.slc.linkErrors ∧ (streamFinishTaken r s).slc.breaks = s.slc.breaks
      ∧ (streamFinishTaken r s).slc.sending = s.slc.sending ∧ (streamFinishTaken r s).slc.sleepReq = s.slc.sleepReq
      ∧ (streamFinishTaken r s).slc.owed = s.slc.owed ∧ (streamFinishTaken r s).slc.wakeOut = s.slc.wakeOut
      ∧ (streamFinishTaken r s).bck = s.bck ∧ (streamFinishTaken r s).clients = s.clients
      ∧ (streamFinishTaken r s).chunks = s.chunks ∧ (streamFinishTaken r s).rtu = s.rtu
      ∧ (streamFinishTaken r s).grants = s.grants ∧ (streamFinishTaken r s).rpb = s.rpb
      ∧ (streamFinishTaken r s).bxp = s.bxp ∧ (streamFinishTaken r s).nwu = s.nwu
      ∧ (streamFinishTaken r s).tiu = s.tiu := by
  unfold streamFinishTaken
  simp

@[simp] theorem streamAbortTaken_frame (r : Request) (s : State) :
    (streamAbortTaken r s).pending = s.pending ∧ (streamAbortTaken r s).free = s.free
      ∧ (streamAbortTaken r s).slc.settings = s.slc.settings ∧ (streamAbortTaken r s).slc.latched = s.slc.latched
      ∧ (streamAbortTaken r s).slc.enables = s.slc.enables ∧ (streamAbortTaken r s).slc.link = s.slc.link
      ∧ (streamAbortTaken r s).slc.acked = s.slc.acked ∧ (streamAbortTaken r s).slc.receiver = s.slc.receiver
      ∧ (streamAbortTaken r s).slc.startCause = s.slc.startCause
      ∧ (streamAbortTaken r s).slc.linkErrors = s.slc.linkErrors ∧ (streamAbortTaken r s).slc.breaks = s.slc.breaks
      ∧ (streamAbortTaken r s).slc.sending = s.slc.sending ∧ (streamAbortTaken r s).slc.sleepReq = s.slc.sleepReq
      ∧ (streamAbortTaken r s).slc.owed = s.slc.owed ∧ (streamAbortTaken r s).slc.wakeOut = s.slc.wakeOut
      ∧ (streamAbortTaken r s).bck = s.bck ∧ (streamAbortTaken r s).rtu.release = s.rtu.release
      ∧ (streamAbortTaken r s).rtu.deferred = s.rtu.deferred ∧ (streamAbortTaken r s).rtu.lastBatch = s.rtu.lastBatch
      ∧ (streamAbortTaken r s).grants = s.grants ∧ (streamAbortTaken r s).rpb = s.rpb
      ∧ (streamAbortTaken r s).bxp = s.bxp ∧ (streamAbortTaken r s).nwu = s.nwu ∧ (streamAbortTaken r s).tiu = s.tiu := by
  unfold streamAbortTaken
  (try dsimp only)
  simp_all

@[simp] theorem chunkReadTaken_frame (r : Request) (s : State) :
    (chunkReadTaken r s).pending = s.pending ∧ (chunkReadTaken r s).slc.settings = s.slc.settings
      ∧ (chunkReadTaken r s).slc.latched = s.slc.latched ∧ (chunkReadTaken r s).slc.enables = s.slc.enables
      ∧ (chunkReadTaken r s).slc.link = s.slc.link ∧ (chunkReadTaken r s).slc.acked = s.slc.acked
      ∧ (chunkReadTaken r s).slc.receiver = s.slc.receiver ∧ (chunkReadTaken r s).slc.startCause = s.slc.startCause
      ∧ (chunkReadTaken r s).slc.linkErrors = s.slc.linkErrors ∧ (chunkReadTaken r s).slc.breaks = s.slc.breaks
      ∧ (chunkReadTaken r s).slc.sending = s.slc.sending ∧ (chunkReadTaken r s).slc.deferred = s.slc.deferred
      ∧ (chunkReadTaken r s).slc.sleepReq = s.slc.sleepReq ∧ (chunkReadTaken r s).slc.owed = s.slc.owed
      ∧ (chunkReadTaken r s).slc.wakeOut = s.slc.wakeOut ∧ (chunkReadTaken r s).bck = s.bck
      ∧ (chunkReadTaken r s).clients = s.clients ∧ (chunkReadTaken r s).streams = s.streams
      ∧ (chunkReadTaken r s).chunks = s.chunks ∧ (chunkReadTaken r s).oct = s.oct ∧ (chunkReadTaken r s).rtu = s.rtu
      ∧ (chunkReadTaken r s).grants = s.grants ∧ (chunkReadTaken r s).rpb = s.rpb ∧ (chunkReadTaken r s).bpc = s.bpc
      ∧ (chunkReadTaken r s).bxp = s.bxp ∧ (chunkReadTaken r s).nwu = s.nwu ∧ (chunkReadTaken r s).tiu = s.tiu := by
  unfold chunkReadTaken
  simp

@[simp] theorem advanceSchedule_frame (c g : Nat) (s : State) :
    (advanceSchedule c g s).pending = s.pending ∧ (advanceSchedule c g s).free = s.free
      ∧ (advanceSchedule c g s).slc.settings = s.slc.settings ∧ (advanceSchedule c g s).slc.enables = s.slc.enables
      ∧ (advanceSchedule c g s).slc.places = s.slc.places ∧ (advanceSchedule c g s).slc.acked = s.slc.acked
      ∧ (advanceSchedule c g s).slc.receiver = s.slc.receiver
      ∧ (advanceSchedule c g s).slc.startCause = s.slc.startCause
      ∧ (advanceSchedule c g s).slc.linkErrors = s.slc.linkErrors ∧ (advanceSchedule c g s).slc.breaks = s.slc.breaks
      ∧ (advanceSchedule c g s).slc.sending = s.slc.sending ∧ (advanceSchedule c g s).slc.deferred = s.slc.deferred
      ∧ (advanceSchedule c g s).bck = s.bck ∧ (advanceSchedule c g s).streams = s.streams
      ∧ (advanceSchedule c g s).chunks = s.chunks ∧ (advanceSchedule c g s).oct = s.oct
      ∧ (advanceSchedule c g s).rtu = s.rtu ∧ (advanceSchedule c g s).grants = s.grants
      ∧ (advanceSchedule c g s).rpb = s.rpb ∧ (advanceSchedule c g s).bxp.sleepAcked = s.bxp.sleepAcked
      ∧ (advanceSchedule c g s).nwu.transmit = s.nwu.transmit ∧ (advanceSchedule c g s).nwu.onWire = s.nwu.onWire
      ∧ (advanceSchedule c g s).nwu.templates = s.nwu.templates ∧ (advanceSchedule c g s).tiu = s.tiu := by
  unfold advanceSchedule
  (try dsimp only)
  (repeat' split) <;> simp_all

@[simp] theorem collectionOpenTaken_frame (r : Request) (s : State) :
    (collectionOpenTaken r s).pending = s.pending ∧ (collectionOpenTaken r s).free = s.free
      ∧ (collectionOpenTaken r s).slc.settings = s.slc.settings
      ∧ (collectionOpenTaken r s).slc.latched = s.slc.latched ∧ (collectionOpenTaken r s).slc.enables = s.slc.enables
      ∧ (collectionOpenTaken r s).slc.link = s.slc.link ∧ (collectionOpenTaken r s).slc.acked = s.slc.acked
      ∧ (collectionOpenTaken r s).slc.receiver = s.slc.receiver
      ∧ (collectionOpenTaken r s).slc.startCause = s.slc.startCause
      ∧ (collectionOpenTaken r s).slc.linkErrors = s.slc.linkErrors
      ∧ (collectionOpenTaken r s).slc.breaks = s.slc.breaks ∧ (collectionOpenTaken r s).slc.sending = s.slc.sending
      ∧ (collectionOpenTaken r s).slc.deferred = s.slc.deferred
      ∧ (collectionOpenTaken r s).slc.sleepReq = s.slc.sleepReq ∧ (collectionOpenTaken r s).slc.owed = s.slc.owed
      ∧ (collectionOpenTaken r s).slc.wakeOut = s.slc.wakeOut ∧ (collectionOpenTaken r s).bck = s.bck
      ∧ (collectionOpenTaken r s).clients = s.clients ∧ (collectionOpenTaken r s).streams = s.streams
      ∧ (collectionOpenTaken r s).chunks = s.chunks ∧ (collectionOpenTaken r s).oct.objects = s.oct.objects
      ∧ (collectionOpenTaken r s).oct.freePages = s.oct.freePages ∧ (collectionOpenTaken r s).rtu = s.rtu
      ∧ (collectionOpenTaken r s).grants = s.grants ∧ (collectionOpenTaken r s).rpb = s.rpb
      ∧ (collectionOpenTaken r s).bpc = s.bpc ∧ (collectionOpenTaken r s).bxp = s.bxp
      ∧ (collectionOpenTaken r s).nwu = s.nwu ∧ (collectionOpenTaken r s).tiu = s.tiu := by
  unfold collectionOpenTaken
  simp

@[simp] theorem closeSnapshot_frame (n : Nat) (s : State) :
    (closeSnapshot n s).pending = s.pending ∧ (closeSnapshot n s).free = s.free
      ∧ (closeSnapshot n s).slc.settings = s.slc.settings ∧ (closeSnapshot n s).slc.enables = s.slc.enables
      ∧ (closeSnapshot n s).slc.places = s.slc.places ∧ (closeSnapshot n s).slc.acked = s.slc.acked
      ∧ (closeSnapshot n s).slc.receiver = s.slc.receiver ∧ (closeSnapshot n s).slc.startCause = s.slc.startCause
      ∧ (closeSnapshot n s).slc.linkErrors = s.slc.linkErrors ∧ (closeSnapshot n s).slc.breaks = s.slc.breaks
      ∧ (closeSnapshot n s).slc.sending = s.slc.sending ∧ (closeSnapshot n s).slc.deferred = s.slc.deferred
      ∧ (closeSnapshot n s).bck = s.bck ∧ (closeSnapshot n s).streams = s.streams
      ∧ (closeSnapshot n s).chunks = s.chunks ∧ (closeSnapshot n s).oct.objects = s.oct.objects
      ∧ (closeSnapshot n s).oct.freePages = s.oct.freePages ∧ (closeSnapshot n s).rtu = s.rtu
      ∧ (closeSnapshot n s).grants = s.grants ∧ (closeSnapshot n s).rpb = s.rpb
      ∧ (closeSnapshot n s).bxp.sleepAcked = s.bxp.sleepAcked ∧ (closeSnapshot n s).nwu.transmit = s.nwu.transmit
      ∧ (closeSnapshot n s).nwu.onWire = s.nwu.onWire ∧ (closeSnapshot n s).nwu.templates = s.nwu.templates
      ∧ (closeSnapshot n s).tiu = s.tiu := by
  unfold closeSnapshot
  simp

@[simp] theorem retireColl_frame (n : Nat) (s : State) :
    (retireColl n s).pending = s.pending ∧ (retireColl n s).free = s.free ∧ (retireColl n s).slc = s.slc
      ∧ (retireColl n s).bck = s.bck ∧ (retireColl n s).clients = s.clients ∧ (retireColl n s).streams = s.streams
      ∧ (retireColl n s).chunks = s.chunks ∧ (retireColl n s).oct.objects = s.oct.objects
      ∧ (retireColl n s).oct.freePages = s.oct.freePages ∧ (retireColl n s).rtu.release = s.rtu.release
      ∧ (retireColl n s).rtu.deferred = s.rtu.deferred ∧ (retireColl n s).rtu.reserved = s.rtu.reserved
      ∧ (retireColl n s).rtu.lastBatch = s.rtu.lastBatch ∧ (retireColl n s).rpb = s.rpb ∧ (retireColl n s).bpc = s.bpc
      ∧ (retireColl n s).bxp = s.bxp ∧ (retireColl n s).nwu = s.nwu ∧ (retireColl n s).tiu = s.tiu := by
  unfold retireColl
  simp

@[simp] theorem addMember_frame (c n : Nat) (s : State) :
    (addMember c n s).pending = s.pending ∧ (addMember c n s).free = s.free ∧ (addMember c n s).slc = s.slc
      ∧ (addMember c n s).bck = s.bck ∧ (addMember c n s).clients = s.clients ∧ (addMember c n s).streams = s.streams
      ∧ (addMember c n s).chunks = s.chunks ∧ (addMember c n s).rtu = s.rtu ∧ (addMember c n s).grants = s.grants
      ∧ (addMember c n s).rpb = s.rpb ∧ (addMember c n s).bpc = s.bpc ∧ (addMember c n s).bxp = s.bxp
      ∧ (addMember c n s).nwu = s.nwu ∧ (addMember c n s).tiu = s.tiu := by
  unfold addMember
  simp

@[simp] theorem memberAddEntry_frame (c n : Nat) (s : State) :
    (memberAddEntry c n s).2.pending = s.pending ∧ (memberAddEntry c n s).2.free = s.free
      ∧ (memberAddEntry c n s).2.slc = s.slc ∧ (memberAddEntry c n s).2.bck = s.bck
      ∧ (memberAddEntry c n s).2.clients = s.clients ∧ (memberAddEntry c n s).2.streams = s.streams
      ∧ (memberAddEntry c n s).2.chunks = s.chunks ∧ (memberAddEntry c n s).2.rtu = s.rtu
      ∧ (memberAddEntry c n s).2.grants = s.grants ∧ (memberAddEntry c n s).2.rpb = s.rpb
      ∧ (memberAddEntry c n s).2.bpc = s.bpc ∧ (memberAddEntry c n s).2.bxp = s.bxp
      ∧ (memberAddEntry c n s).2.nwu = s.nwu ∧ (memberAddEntry c n s).2.tiu = s.tiu := by
  unfold memberAddEntry
  (repeat' split) <;> simp_all

@[simp] theorem memberAddTaken_frame (r : Request) (s : State) :
    (memberAddTaken r s).pending = s.pending ∧ (memberAddTaken r s).free = s.free
      ∧ (memberAddTaken r s).slc.settings = s.slc.settings ∧ (memberAddTaken r s).slc.latched = s.slc.latched
      ∧ (memberAddTaken r s).slc.enables = s.slc.enables ∧ (memberAddTaken r s).slc.link = s.slc.link
      ∧ (memberAddTaken r s).slc.acked = s.slc.acked ∧ (memberAddTaken r s).slc.receiver = s.slc.receiver
      ∧ (memberAddTaken r s).slc.startCause = s.slc.startCause
      ∧ (memberAddTaken r s).slc.linkErrors = s.slc.linkErrors ∧ (memberAddTaken r s).slc.breaks = s.slc.breaks
      ∧ (memberAddTaken r s).slc.sending = s.slc.sending ∧ (memberAddTaken r s).slc.deferred = s.slc.deferred
      ∧ (memberAddTaken r s).slc.sleepReq = s.slc.sleepReq ∧ (memberAddTaken r s).slc.owed = s.slc.owed
      ∧ (memberAddTaken r s).slc.wakeOut = s.slc.wakeOut ∧ (memberAddTaken r s).bck = s.bck
      ∧ (memberAddTaken r s).clients = s.clients ∧ (memberAddTaken r s).streams = s.streams
      ∧ (memberAddTaken r s).chunks = s.chunks ∧ (memberAddTaken r s).rtu = s.rtu
      ∧ (memberAddTaken r s).grants = s.grants ∧ (memberAddTaken r s).rpb = s.rpb ∧ (memberAddTaken r s).bpc = s.bpc
      ∧ (memberAddTaken r s).bxp = s.bxp ∧ (memberAddTaken r s).nwu = s.nwu ∧ (memberAddTaken r s).tiu = s.tiu := by
  unfold memberAddTaken
  have h := memberEntries_keeps (fun t : State =>
      t.pending = s.pending ∧ t.free = s.free ∧ t.slc.settings = s.slc.settings ∧ t.slc.latched = s.slc.latched
        ∧ t.slc.enables = s.slc.enables ∧ t.slc.link = s.slc.link ∧ t.slc.acked = s.slc.acked
        ∧ t.slc.receiver = s.slc.receiver ∧ t.slc.startCause = s.slc.startCause ∧ t.slc.linkErrors = s.slc.linkErrors
        ∧ t.slc.breaks = s.slc.breaks ∧ t.slc.sending = s.slc.sending ∧ t.slc.deferred = s.slc.deferred
        ∧ t.slc.sleepReq = s.slc.sleepReq ∧ t.slc.owed = s.slc.owed ∧ t.slc.wakeOut = s.slc.wakeOut ∧ t.bck = s.bck
        ∧ t.clients = s.clients ∧ t.streams = s.streams ∧ t.chunks = s.chunks ∧ t.rtu = s.rtu ∧ t.grants = s.grants
        ∧ t.rpb = s.rpb ∧ t.bpc = s.bpc ∧ t.bxp = s.bxp ∧ t.nwu = s.nwu ∧ t.tiu = s.tiu)
    (memberAddEntry r.auxNat) r.entries [] s (⟨rfl, rfl, rfl, rfl, rfl, rfl, rfl, rfl, rfl, rfl, rfl, rfl, rfl, rfl, rfl, rfl, rfl, rfl, rfl, rfl, rfl, rfl, rfl, rfl, rfl, rfl, rfl⟩) fun n a h => by simpa using h
  simpa using h

@[simp] theorem dropMember_frame (c n : Nat) (s : State) :
    (dropMember c n s).pending = s.pending ∧ (dropMember c n s).free = s.free ∧ (dropMember c n s).slc = s.slc
      ∧ (dropMember c n s).bck = s.bck ∧ (dropMember c n s).clients = s.clients
      ∧ (dropMember c n s).streams = s.streams ∧ (dropMember c n s).chunks = s.chunks ∧ (dropMember c n s).rtu = s.rtu
      ∧ (dropMember c n s).grants = s.grants ∧ (dropMember c n s).rpb = s.rpb ∧ (dropMember c n s).bpc = s.bpc
      ∧ (dropMember c n s).bxp = s.bxp ∧ (dropMember c n s).nwu = s.nwu ∧ (dropMember c n s).tiu = s.tiu := by
  unfold dropMember
  simp

@[simp] theorem removeMember_frame (c n : Nat) (s : State) :
    (removeMember c n s).pending = s.pending ∧ (removeMember c n s).free = s.free ∧ (removeMember c n s).slc = s.slc
      ∧ (removeMember c n s).bck = s.bck ∧ (removeMember c n s).clients = s.clients
      ∧ (removeMember c n s).streams = s.streams ∧ (removeMember c n s).chunks = s.chunks
      ∧ (removeMember c n s).rtu.release = s.rtu.release ∧ (removeMember c n s).rtu.deferred = s.rtu.deferred
      ∧ (removeMember c n s).rtu.reserved = s.rtu.reserved ∧ (removeMember c n s).rtu.lastBatch = s.rtu.lastBatch
      ∧ (removeMember c n s).grants = s.grants ∧ (removeMember c n s).rpb = s.rpb ∧ (removeMember c n s).bpc = s.bpc
      ∧ (removeMember c n s).bxp = s.bxp ∧ (removeMember c n s).nwu = s.nwu ∧ (removeMember c n s).tiu = s.tiu := by
  unfold removeMember
  (try dsimp only)
  (repeat' split) <;> simp_all

@[simp] theorem memberRemoveEntry_frame (c n : Nat) (s : State) :
    (memberRemoveEntry c n s).2.pending = s.pending ∧ (memberRemoveEntry c n s).2.free = s.free
      ∧ (memberRemoveEntry c n s).2.slc = s.slc ∧ (memberRemoveEntry c n s).2.bck = s.bck
      ∧ (memberRemoveEntry c n s).2.clients = s.clients ∧ (memberRemoveEntry c n s).2.streams = s.streams
      ∧ (memberRemoveEntry c n s).2.chunks = s.chunks ∧ (memberRemoveEntry c n s).2.rtu.release = s.rtu.release
      ∧ (memberRemoveEntry c n s).2.rtu.deferred = s.rtu.deferred
      ∧ (memberRemoveEntry c n s).2.rtu.reserved = s.rtu.reserved
      ∧ (memberRemoveEntry c n s).2.rtu.lastBatch = s.rtu.lastBatch ∧ (memberRemoveEntry c n s).2.grants = s.grants
      ∧ (memberRemoveEntry c n s).2.rpb = s.rpb ∧ (memberRemoveEntry c n s).2.bpc = s.bpc
      ∧ (memberRemoveEntry c n s).2.bxp = s.bxp ∧ (memberRemoveEntry c n s).2.nwu = s.nwu
      ∧ (memberRemoveEntry c n s).2.tiu = s.tiu := by
  unfold memberRemoveEntry
  (repeat' split) <;> simp_all

@[simp] theorem memberRemoveTaken_frame (r : Request) (s : State) :
    (memberRemoveTaken r s).pending = s.pending ∧ (memberRemoveTaken r s).free = s.free
      ∧ (memberRemoveTaken r s).slc.settings = s.slc.settings ∧ (memberRemoveTaken r s).slc.latched = s.slc.latched
      ∧ (memberRemoveTaken r s).slc.enables = s.slc.enables ∧ (memberRemoveTaken r s).slc.link = s.slc.link
      ∧ (memberRemoveTaken r s).slc.acked = s.slc.acked ∧ (memberRemoveTaken r s).slc.receiver = s.slc.receiver
      ∧ (memberRemoveTaken r s).slc.startCause = s.slc.startCause
      ∧ (memberRemoveTaken r s).slc.linkErrors = s.slc.linkErrors ∧ (memberRemoveTaken r s).slc.breaks = s.slc.breaks
      ∧ (memberRemoveTaken r s).slc.sending = s.slc.sending ∧ (memberRemoveTaken r s).slc.deferred = s.slc.deferred
      ∧ (memberRemoveTaken r s).slc.sleepReq = s.slc.sleepReq ∧ (memberRemoveTaken r s).slc.owed = s.slc.owed
      ∧ (memberRemoveTaken r s).slc.wakeOut = s.slc.wakeOut ∧ (memberRemoveTaken r s).bck = s.bck
      ∧ (memberRemoveTaken r s).clients = s.clients ∧ (memberRemoveTaken r s).streams = s.streams
      ∧ (memberRemoveTaken r s).chunks = s.chunks ∧ (memberRemoveTaken r s).rtu.release = s.rtu.release
      ∧ (memberRemoveTaken r s).rtu.deferred = s.rtu.deferred ∧ (memberRemoveTaken r s).rtu.reserved = s.rtu.reserved
      ∧ (memberRemoveTaken r s).rtu.lastBatch = s.rtu.lastBatch ∧ (memberRemoveTaken r s).grants = s.grants
      ∧ (memberRemoveTaken r s).rpb = s.rpb ∧ (memberRemoveTaken r s).bpc = s.bpc
      ∧ (memberRemoveTaken r s).bxp = s.bxp ∧ (memberRemoveTaken r s).nwu = s.nwu
      ∧ (memberRemoveTaken r s).tiu = s.tiu := by
  unfold memberRemoveTaken
  have h := memberEntries_keeps (fun t : State =>
      t.pending = s.pending ∧ t.free = s.free ∧ t.slc.settings = s.slc.settings ∧ t.slc.latched = s.slc.latched
        ∧ t.slc.enables = s.slc.enables ∧ t.slc.link = s.slc.link ∧ t.slc.acked = s.slc.acked
        ∧ t.slc.receiver = s.slc.receiver ∧ t.slc.startCause = s.slc.startCause ∧ t.slc.linkErrors = s.slc.linkErrors
        ∧ t.slc.breaks = s.slc.breaks ∧ t.slc.sending = s.slc.sending ∧ t.slc.deferred = s.slc.deferred
        ∧ t.slc.sleepReq = s.slc.sleepReq ∧ t.slc.owed = s.slc.owed ∧ t.slc.wakeOut = s.slc.wakeOut ∧ t.bck = s.bck
        ∧ t.clients = s.clients ∧ t.streams = s.streams ∧ t.chunks = s.chunks ∧ t.rtu.release = s.rtu.release
        ∧ t.rtu.deferred = s.rtu.deferred ∧ t.rtu.reserved = s.rtu.reserved ∧ t.rtu.lastBatch = s.rtu.lastBatch
        ∧ t.grants = s.grants ∧ t.rpb = s.rpb ∧ t.bpc = s.bpc ∧ t.bxp = s.bxp ∧ t.nwu = s.nwu ∧ t.tiu = s.tiu)
    (memberRemoveEntry r.auxNat) r.entries [] s (⟨rfl, rfl, rfl, rfl, rfl, rfl, rfl, rfl, rfl, rfl, rfl, rfl, rfl, rfl, rfl, rfl, rfl, rfl, rfl, rfl, rfl, rfl, rfl, rfl, rfl, rfl, rfl, rfl, rfl, rfl⟩) fun n a h => by simpa using h
  simpa using h

@[simp] theorem afterLastHolder_frame (n : Nat) (s : State) :
    (afterLastHolder n s).pending = s.pending ∧ (afterLastHolder n s).free = s.free
      ∧ (afterLastHolder n s).slc = s.slc ∧ (afterLastHolder n s).bck = s.bck
      ∧ (afterLastHolder n s).clients = s.clients ∧ (afterLastHolder n s).streams = s.streams
      ∧ (afterLastHolder n s).chunks = s.chunks ∧ (afterLastHolder n s).oct = s.oct
      ∧ (afterLastHolder n s).rtu.current = s.rtu.current ∧ (afterLastHolder n s).rtu.walk = s.rtu.walk
      ∧ (afterLastHolder n s).rtu.release = s.rtu.release ∧ (afterLastHolder n s).rtu.deferred = s.rtu.deferred
      ∧ (afterLastHolder n s).rtu.reserved = s.rtu.reserved ∧ (afterLastHolder n s).rtu.lastBatch = s.rtu.lastBatch
      ∧ (afterLastHolder n s).grants = s.grants ∧ (afterLastHolder n s).rpb = s.rpb
      ∧ (afterLastHolder n s).bpc = s.bpc ∧ (afterLastHolder n s).bxp = s.bxp ∧ (afterLastHolder n s).nwu = s.nwu
      ∧ (afterLastHolder n s).tiu = s.tiu := by
  generalize ht : afterLastHolder n s = t
  unfold afterLastHolder at ht
  (try dsimp only at ht)
  (repeat' split at ht) <;> subst ht <;> simp_all

@[simp] theorem walkMember_frame (c : Nat) (s : State) :
    (walkMember c s).pending = s.pending ∧ (walkMember c s).free = s.free ∧ (walkMember c s).slc = s.slc
      ∧ (walkMember c s).bck = s.bck ∧ (walkMember c s).clients = s.clients ∧ (walkMember c s).streams = s.streams
      ∧ (walkMember c s).chunks = s.chunks ∧ (walkMember c s).rtu.current = s.rtu.current
      ∧ (walkMember c s).rtu.walk = s.rtu.walk ∧ (walkMember c s).rtu.release = s.rtu.release
      ∧ (walkMember c s).rtu.deferred = s.rtu.deferred ∧ (walkMember c s).rtu.reserved = s.rtu.reserved
      ∧ (walkMember c s).rtu.lastBatch = s.rtu.lastBatch ∧ (walkMember c s).grants = s.grants
      ∧ (walkMember c s).rpb = s.rpb ∧ (walkMember c s).bpc = s.bpc ∧ (walkMember c s).bxp = s.bxp
      ∧ (walkMember c s).nwu = s.nwu ∧ (walkMember c s).tiu = s.tiu := by
  generalize ht : walkMember c s = t
  unfold walkMember at ht
  (try dsimp only at ht)
  (repeat' split at ht) <;> subst ht <;> simp_all

@[simp] theorem memberRemoval_frame (s : State) :
    (memberRemoval s).pending = s.pending ∧ (memberRemoval s).free = s.free ∧ (memberRemoval s).slc = s.slc
      ∧ (memberRemoval s).bck = s.bck ∧ (memberRemoval s).clients = s.clients ∧ (memberRemoval s).streams = s.streams
      ∧ (memberRemoval s).chunks = s.chunks ∧ (memberRemoval s).rtu.current = s.rtu.current
      ∧ (memberRemoval s).rtu.walk = s.rtu.walk ∧ (memberRemoval s).rtu.release = s.rtu.release
      ∧ (memberRemoval s).rtu.deferred = s.rtu.deferred ∧ (memberRemoval s).rtu.reserved = s.rtu.reserved
      ∧ (memberRemoval s).rtu.lastBatch = s.rtu.lastBatch ∧ (memberRemoval s).grants = s.grants
      ∧ (memberRemoval s).rpb = s.rpb ∧ (memberRemoval s).bpc = s.bpc ∧ (memberRemoval s).bxp = s.bxp
      ∧ (memberRemoval s).nwu = s.nwu ∧ (memberRemoval s).tiu = s.tiu := by
  unfold memberRemoval
  (repeat' split) <;> simp_all

@[simp] theorem collectionFree_frame (s : State) :
    (collectionFree s).pending = s.pending ∧ (collectionFree s).free = s.free ∧ (collectionFree s).slc = s.slc
      ∧ (collectionFree s).bck = s.bck ∧ (collectionFree s).clients = s.clients
      ∧ (collectionFree s).streams = s.streams ∧ (collectionFree s).chunks = s.chunks
      ∧ (collectionFree s).oct.objects = s.oct.objects ∧ (collectionFree s).rtu.release = s.rtu.release
      ∧ (collectionFree s).rtu.deferred = s.rtu.deferred ∧ (collectionFree s).rtu.reserved = s.rtu.reserved
      ∧ (collectionFree s).rtu.lastBatch = s.rtu.lastBatch ∧ (collectionFree s).grants = s.grants
      ∧ (collectionFree s).rpb = s.rpb ∧ (collectionFree s).bpc = s.bpc ∧ (collectionFree s).bxp = s.bxp
      ∧ (collectionFree s).nwu = s.nwu ∧ (collectionFree s).tiu = s.tiu := by
  unfold collectionFree
  (repeat' split) <;> simp_all

@[simp] theorem releaseRef_frame (n : Nat) (ref : Ref) (rest : List Ref) (s : State) :
    (releaseRef n ref rest s).pending = s.pending ∧ (releaseRef n ref rest s).free = s.free
      ∧ (releaseRef n ref rest s).slc = s.slc ∧ (releaseRef n ref rest s).bck = s.bck
      ∧ (releaseRef n ref rest s).streams = s.streams ∧ (releaseRef n ref rest s).oct.colls = s.oct.colls
      ∧ (releaseRef n ref rest s).rtu.orders = s.rtu.orders ∧ (releaseRef n ref rest s).rtu.current = s.rtu.current
      ∧ (releaseRef n ref rest s).rtu.nested = s.rtu.nested ∧ (releaseRef n ref rest s).rtu.walk = s.rtu.walk
      ∧ (releaseRef n ref rest s).rtu.deferred = s.rtu.deferred
      ∧ (releaseRef n ref rest s).rtu.reserved = s.rtu.reserved
      ∧ (releaseRef n ref rest s).rtu.lastBatch = s.rtu.lastBatch ∧ (releaseRef n ref rest s).grants = s.grants
      ∧ (releaseRef n ref rest s).rpb = s.rpb ∧ (releaseRef n ref rest s).bpc = s.bpc
      ∧ (releaseRef n ref rest s).bxp = s.bxp ∧ (releaseRef n ref rest s).nwu = s.nwu
      ∧ (releaseRef n ref rest s).tiu = s.tiu := by
  unfold releaseRef
  (try dsimp only)
  (repeat' split) <;> simp_all

@[simp] theorem referenceRemoval_frame (s : State) :
    (referenceRemoval s).pending = s.pending ∧ (referenceRemoval s).free = s.free ∧ (referenceRemoval s).slc = s.slc
      ∧ (referenceRemoval s).bck = s.bck ∧ (referenceRemoval s).streams = s.streams
      ∧ (referenceRemoval s).oct.colls = s.oct.colls ∧ (referenceRemoval s).rtu.orders = s.rtu.orders
      ∧ (referenceRemoval s).rtu.current = s.rtu.current ∧ (referenceRemoval s).rtu.nested = s.rtu.nested
      ∧ (referenceRemoval s).rtu.deferred = s.rtu.deferred ∧ (referenceRemoval s).rtu.reserved = s.rtu.reserved
      ∧ (referenceRemoval s).rtu.lastBatch = s.rtu.lastBatch ∧ (referenceRemoval s).grants = s.grants
      ∧ (referenceRemoval s).rpb = s.rpb ∧ (referenceRemoval s).bpc = s.bpc ∧ (referenceRemoval s).bxp = s.bxp
      ∧ (referenceRemoval s).nwu = s.nwu ∧ (referenceRemoval s).tiu = s.tiu := by
  unfold referenceRemoval
  (try dsimp only)
  (repeat' split) <;> simp_all

@[simp] theorem endObjectWalk_frame (n : Nat) (s : State) :
    (endObjectWalk n s).pending = s.pending ∧ (endObjectWalk n s).free = s.free ∧ (endObjectWalk n s).slc = s.slc
      ∧ (endObjectWalk n s).bck = s.bck ∧ (endObjectWalk n s).clients = s.clients
      ∧ (endObjectWalk n s).streams = s.streams ∧ (endObjectWalk n s).chunks = s.chunks
      ∧ (endObjectWalk n s).oct = s.oct ∧ (endObjectWalk n s).rtu.release = s.rtu.release
      ∧ (endObjectWalk n s).rtu.deferred = s.rtu.deferred ∧ (endObjectWalk n s).rtu.reserved = s.rtu.reserved
      ∧ (endObjectWalk n s).rtu.lastBatch = s.rtu.lastBatch ∧ (endObjectWalk n s).grants = s.grants
      ∧ (endObjectWalk n s).rpb = s.rpb ∧ (endObjectWalk n s).bpc = s.bpc ∧ (endObjectWalk n s).bxp = s.bxp
      ∧ (endObjectWalk n s).nwu = s.nwu ∧ (endObjectWalk n s).tiu = s.tiu := by
  generalize ht : endObjectWalk n s = t
  unfold endObjectWalk at ht
  (try dsimp only at ht)
  (repeat' split at ht) <;> subst ht <;> simp_all

@[simp] theorem objectFree_frame (s : State) :
    (objectFree s).pending = s.pending ∧ (objectFree s).free = s.free ∧ (objectFree s).slc = s.slc
      ∧ (objectFree s).bck = s.bck ∧ (objectFree s).clients = s.clients ∧ (objectFree s).streams = s.streams
      ∧ (objectFree s).chunks = s.chunks ∧ (objectFree s).oct.colls = s.oct.colls
      ∧ (objectFree s).oct.freePages = s.oct.freePages ∧ (objectFree s).rtu.release = s.rtu.release
      ∧ (objectFree s).rtu.deferred = s.rtu.deferred ∧ (objectFree s).rtu.reserved = s.rtu.reserved
      ∧ (objectFree s).rtu.lastBatch = s.rtu.lastBatch ∧ (objectFree s).grants = s.grants ∧ (objectFree s).rpb = s.rpb
      ∧ (objectFree s).bpc = s.bpc ∧ (objectFree s).bxp = s.bxp ∧ (objectFree s).nwu = s.nwu
      ∧ (objectFree s).tiu = s.tiu := by
  unfold objectFree
  (repeat' split) <;> simp_all

@[simp] theorem takeExtents_frame (count : Nat) (s : State) :
    (takeExtents count s).pending = s.pending ∧ (takeExtents count s).free = s.free
      ∧ (takeExtents count s).slc = s.slc ∧ (takeExtents count s).bck = s.bck
      ∧ (takeExtents count s).clients = s.clients ∧ (takeExtents count s).streams = s.streams
      ∧ (takeExtents count s).chunks = s.chunks ∧ (takeExtents count s).oct = s.oct
      ∧ (takeExtents count s).rtu.orders = s.rtu.orders ∧ (takeExtents count s).rtu.current = s.rtu.current
      ∧ (takeExtents count s).rtu.nested = s.rtu.nested ∧ (takeExtents count s).rtu.walk = s.rtu.walk
      ∧ (takeExtents count s).rtu.deferred = s.rtu.deferred ∧ (takeExtents count s).rtu.reserved = s.rtu.reserved
      ∧ (takeExtents count s).grants = s.grants ∧ (takeExtents count s).rpb = s.rpb
      ∧ (takeExtents count s).bpc = s.bpc ∧ (takeExtents count s).bxp = s.bxp ∧ (takeExtents count s).nwu = s.nwu
      ∧ (takeExtents count s).tiu = s.tiu := by
  unfold takeExtents
  simp

@[simp] theorem resumeWalk_frame (s : State) :
    (resumeWalk s).pending = s.pending ∧ (resumeWalk s).free = s.free ∧ (resumeWalk s).slc = s.slc
      ∧ (resumeWalk s).bck = s.bck ∧ (resumeWalk s).streams = s.streams ∧ (resumeWalk s).oct.colls = s.oct.colls
      ∧ (resumeWalk s).rtu.orders = s.rtu.orders ∧ (resumeWalk s).rtu.current = s.rtu.current
      ∧ (resumeWalk s).rtu.nested = s.rtu.nested ∧ (resumeWalk s).rtu.deferred = s.rtu.deferred
      ∧ (resumeWalk s).rtu.reserved = s.rtu.reserved ∧ (resumeWalk s).rtu.lastBatch = s.rtu.lastBatch
      ∧ (resumeWalk s).grants = s.grants ∧ (resumeWalk s).rpb = s.rpb ∧ (resumeWalk s).bpc = s.bpc
      ∧ (resumeWalk s).bxp = s.bxp ∧ (resumeWalk s).nwu = s.nwu ∧ (resumeWalk s).tiu = s.tiu := by
  unfold resumeWalk
  (try dsimp only)
  (repeat' split) <;> simp_all

@[simp] theorem releaseTakeTaken_frame (r : Request) (s : State) :
    (releaseTakeTaken r s).pending = s.pending ∧ (releaseTakeTaken r s).free = s.free
      ∧ (releaseTakeTaken r s).slc.settings = s.slc.settings ∧ (releaseTakeTaken r s).slc.latched = s.slc.latched
      ∧ (releaseTakeTaken r s).slc.enables = s.slc.enables ∧ (releaseTakeTaken r s).slc.link = s.slc.link
      ∧ (releaseTakeTaken r s).slc.acked = s.slc.acked ∧ (releaseTakeTaken r s).slc.receiver = s.slc.receiver
      ∧ (releaseTakeTaken r s).slc.startCause = s.slc.startCause
      ∧ (releaseTakeTaken r s).slc.linkErrors = s.slc.linkErrors ∧ (releaseTakeTaken r s).slc.breaks = s.slc.breaks
      ∧ (releaseTakeTaken r s).slc.sending = s.slc.sending ∧ (releaseTakeTaken r s).slc.deferred = s.slc.deferred
      ∧ (releaseTakeTaken r s).slc.sleepReq = s.slc.sleepReq ∧ (releaseTakeTaken r s).slc.owed = s.slc.owed
      ∧ (releaseTakeTaken r s).slc.wakeOut = s.slc.wakeOut ∧ (releaseTakeTaken r s).bck = s.bck
      ∧ (releaseTakeTaken r s).streams = s.streams ∧ (releaseTakeTaken r s).oct.colls = s.oct.colls
      ∧ (releaseTakeTaken r s).rtu.orders = s.rtu.orders ∧ (releaseTakeTaken r s).rtu.current = s.rtu.current
      ∧ (releaseTakeTaken r s).rtu.nested = s.rtu.nested ∧ (releaseTakeTaken r s).rtu.reserved = s.rtu.reserved
      ∧ (releaseTakeTaken r s).grants = s.grants ∧ (releaseTakeTaken r s).rpb = s.rpb
      ∧ (releaseTakeTaken r s).bpc = s.bpc ∧ (releaseTakeTaken r s).bxp = s.bxp ∧ (releaseTakeTaken r s).nwu = s.nwu
      ∧ (releaseTakeTaken r s).tiu = s.tiu := by
  unfold releaseTakeTaken
  simp

@[simp] theorem freezeWalk_frame (s : State) :
    (freezeWalk s).pending = s.pending ∧ (freezeWalk s).free = s.free ∧ (freezeWalk s).slc = s.slc
      ∧ (freezeWalk s).bck = s.bck ∧ (freezeWalk s).clients = s.clients ∧ (freezeWalk s).streams = s.streams
      ∧ (freezeWalk s).chunks = s.chunks ∧ (freezeWalk s).oct = s.oct ∧ (freezeWalk s).rtu.orders = s.rtu.orders
      ∧ (freezeWalk s).rtu.current = s.rtu.current ∧ (freezeWalk s).rtu.nested = s.rtu.nested
      ∧ (freezeWalk s).rtu.release = s.rtu.release ∧ (freezeWalk s).rtu.deferred = s.rtu.deferred
      ∧ (freezeWalk s).rtu.reserved = s.rtu.reserved ∧ (freezeWalk s).rtu.lastBatch = s.rtu.lastBatch
      ∧ (freezeWalk s).grants = s.grants ∧ (freezeWalk s).rpb = s.rpb ∧ (freezeWalk s).bpc = s.bpc
      ∧ (freezeWalk s).bxp = s.bxp ∧ (freezeWalk s).nwu = s.nwu ∧ (freezeWalk s).tiu = s.tiu := by
  unfold freezeWalk
  simp

@[simp] theorem thawWalk_frame (s : State) :
    (thawWalk s).pending = s.pending ∧ (thawWalk s).free = s.free ∧ (thawWalk s).slc = s.slc
      ∧ (thawWalk s).bck = s.bck ∧ (thawWalk s).clients = s.clients ∧ (thawWalk s).streams = s.streams
      ∧ (thawWalk s).chunks = s.chunks ∧ (thawWalk s).oct = s.oct ∧ (thawWalk s).rtu.orders = s.rtu.orders
      ∧ (thawWalk s).rtu.release = s.rtu.release ∧ (thawWalk s).rtu.deferred = s.rtu.deferred
      ∧ (thawWalk s).rtu.reserved = s.rtu.reserved ∧ (thawWalk s).rtu.lastBatch = s.rtu.lastBatch
      ∧ (thawWalk s).grants = s.grants ∧ (thawWalk s).rpb = s.rpb ∧ (thawWalk s).bpc = s.bpc
      ∧ (thawWalk s).bxp = s.bxp ∧ (thawWalk s).nwu = s.nwu ∧ (thawWalk s).tiu = s.tiu := by
  generalize ht : thawWalk s = t
  unfold thawWalk at ht
  (try dsimp only at ht)
  (repeat' split at ht) <;> subst ht <;> simp_all

@[simp] theorem unfreezeWalk_frame (s : State) :
    (unfreezeWalk s).pending = s.pending ∧ (unfreezeWalk s).free = s.free ∧ (unfreezeWalk s).slc = s.slc
      ∧ (unfreezeWalk s).bck = s.bck ∧ (unfreezeWalk s).clients = s.clients ∧ (unfreezeWalk s).streams = s.streams
      ∧ (unfreezeWalk s).chunks = s.chunks ∧ (unfreezeWalk s).oct = s.oct ∧ (unfreezeWalk s).rtu.orders = s.rtu.orders
      ∧ (unfreezeWalk s).rtu.reserved = s.rtu.reserved ∧ (unfreezeWalk s).rtu.lastBatch = s.rtu.lastBatch
      ∧ (unfreezeWalk s).grants = s.grants ∧ (unfreezeWalk s).rpb = s.rpb ∧ (unfreezeWalk s).bpc = s.bpc
      ∧ (unfreezeWalk s).bxp = s.bxp ∧ (unfreezeWalk s).nwu = s.nwu ∧ (unfreezeWalk s).tiu = s.tiu := by
  unfold unfreezeWalk
  simp

@[simp] theorem grantEntry_frame (e : List Byte) (s : State) :
    (grantEntry e s).2.pending = s.pending ∧ (grantEntry e s).2.free = s.free ∧ (grantEntry e s).2.slc = s.slc
      ∧ (grantEntry e s).2.bck = s.bck ∧ (grantEntry e s).2.clients = s.clients
      ∧ (grantEntry e s).2.streams = s.streams ∧ (grantEntry e s).2.chunks = s.chunks ∧ (grantEntry e s).2.oct = s.oct
      ∧ (grantEntry e s).2.rtu = s.rtu ∧ (grantEntry e s).2.rpb = s.rpb ∧ (grantEntry e s).2.bpc = s.bpc
      ∧ (grantEntry e s).2.bxp = s.bxp ∧ (grantEntry e s).2.nwu = s.nwu ∧ (grantEntry e s).2.tiu = s.tiu := by
  unfold grantEntry
  (repeat' split) <;> simp_all

@[simp] theorem grantEntries_frame (x0 : List (List Byte)) (x1 : List Status) (s : State) :
    (grantEntries x0 x1 s).2.pending = s.pending ∧ (grantEntries x0 x1 s).2.free = s.free
      ∧ (grantEntries x0 x1 s).2.slc = s.slc ∧ (grantEntries x0 x1 s).2.bck = s.bck
      ∧ (grantEntries x0 x1 s).2.clients = s.clients ∧ (grantEntries x0 x1 s).2.streams = s.streams
      ∧ (grantEntries x0 x1 s).2.chunks = s.chunks ∧ (grantEntries x0 x1 s).2.oct = s.oct
      ∧ (grantEntries x0 x1 s).2.rtu = s.rtu ∧ (grantEntries x0 x1 s).2.rpb = s.rpb
      ∧ (grantEntries x0 x1 s).2.bpc = s.bpc ∧ (grantEntries x0 x1 s).2.bxp = s.bxp
      ∧ (grantEntries x0 x1 s).2.nwu = s.nwu ∧ (grantEntries x0 x1 s).2.tiu = s.tiu := by
  induction x0 generalizing x1 s with
  | nil => simp [grantEntries]
  | cons b bs ih =>
    simp only [grantEntries]
    simp_all

@[simp] theorem grantSetTaken_frame (r : Request) (s : State) :
    (grantSetTaken r s).pending = s.pending ∧ (grantSetTaken r s).free = s.free
      ∧ (grantSetTaken r s).slc.settings = s.slc.settings ∧ (grantSetTaken r s).slc.latched = s.slc.latched
      ∧ (grantSetTaken r s).slc.enables = s.slc.enables ∧ (grantSetTaken r s).slc.link = s.slc.link
      ∧ (grantSetTaken r s).slc.acked = s.slc.acked ∧ (grantSetTaken r s).slc.receiver = s.slc.receiver
      ∧ (grantSetTaken r s).slc.startCause = s.slc.startCause ∧ (grantSetTaken r s).slc.linkErrors = s.slc.linkErrors
      ∧ (grantSetTaken r s).slc.breaks = s.slc.breaks ∧ (grantSetTaken r s).slc.sending = s.slc.sending
      ∧ (grantSetTaken r s).slc.deferred = s.slc.deferred ∧ (grantSetTaken r s).slc.sleepReq = s.slc.sleepReq
      ∧ (grantSetTaken r s).slc.owed = s.slc.owed ∧ (grantSetTaken r s).slc.wakeOut = s.slc.wakeOut
      ∧ (grantSetTaken r s).bck = s.bck ∧ (grantSetTaken r s).clients = s.clients
      ∧ (grantSetTaken r s).streams = s.streams ∧ (grantSetTaken r s).chunks = s.chunks
      ∧ (grantSetTaken r s).oct = s.oct ∧ (grantSetTaken r s).rtu = s.rtu ∧ (grantSetTaken r s).rpb = s.rpb
      ∧ (grantSetTaken r s).bpc = s.bpc ∧ (grantSetTaken r s).bxp = s.bxp ∧ (grantSetTaken r s).nwu = s.nwu
      ∧ (grantSetTaken r s).tiu = s.tiu := by
  unfold grantSetTaken
  simp

@[simp] theorem grantClearTaken_frame (r : Request) (s : State) :
    (grantClearTaken r s).pending = s.pending ∧ (grantClearTaken r s).free = s.free
      ∧ (grantClearTaken r s).slc.settings = s.slc.settings ∧ (grantClearTaken r s).slc.latched = s.slc.latched
      ∧ (grantClearTaken r s).slc.enables = s.slc.enables ∧ (grantClearTaken r s).slc.link = s.slc.link
      ∧ (grantClearTaken r s).slc.acked = s.slc.acked ∧ (grantClearTaken r s).slc.receiver = s.slc.receiver
      ∧ (grantClearTaken r s).slc.startCause = s.slc.startCause
      ∧ (grantClearTaken r s).slc.linkErrors = s.slc.linkErrors ∧ (grantClearTaken r s).slc.breaks = s.slc.breaks
      ∧ (grantClearTaken r s).slc.sending = s.slc.sending ∧ (grantClearTaken r s).slc.deferred = s.slc.deferred
      ∧ (grantClearTaken r s).slc.sleepReq = s.slc.sleepReq ∧ (grantClearTaken r s).slc.owed = s.slc.owed
      ∧ (grantClearTaken r s).slc.wakeOut = s.slc.wakeOut ∧ (grantClearTaken r s).bck = s.bck
      ∧ (grantClearTaken r s).clients = s.clients ∧ (grantClearTaken r s).streams = s.streams
      ∧ (grantClearTaken r s).chunks = s.chunks ∧ (grantClearTaken r s).oct = s.oct
      ∧ (grantClearTaken r s).rtu = s.rtu ∧ (grantClearTaken r s).rpb = s.rpb ∧ (grantClearTaken r s).bpc = s.bpc
      ∧ (grantClearTaken r s).bxp = s.bxp ∧ (grantClearTaken r s).nwu = s.nwu ∧ (grantClearTaken r s).tiu = s.tiu := by
  unfold grantClearTaken
  simp

@[simp] theorem grantReadTaken_frame (r : Request) (s : State) :
    (grantReadTaken r s).pending = s.pending ∧ (grantReadTaken r s).free = s.free
      ∧ (grantReadTaken r s).slc.settings = s.slc.settings ∧ (grantReadTaken r s).slc.latched = s.slc.latched
      ∧ (grantReadTaken r s).slc.enables = s.slc.enables ∧ (grantReadTaken r s).slc.link = s.slc.link
      ∧ (grantReadTaken r s).slc.acked = s.slc.acked ∧ (grantReadTaken r s).slc.receiver = s.slc.receiver
      ∧ (grantReadTaken r s).slc.startCause = s.slc.startCause
      ∧ (grantReadTaken r s).slc.linkErrors = s.slc.linkErrors ∧ (grantReadTaken r s).slc.breaks = s.slc.breaks
      ∧ (grantReadTaken r s).slc.sending = s.slc.sending ∧ (grantReadTaken r s).slc.deferred = s.slc.deferred
      ∧ (grantReadTaken r s).slc.sleepReq = s.slc.sleepReq ∧ (grantReadTaken r s).slc.owed = s.slc.owed
      ∧ (grantReadTaken r s).slc.wakeOut = s.slc.wakeOut ∧ (grantReadTaken r s).bck = s.bck
      ∧ (grantReadTaken r s).clients = s.clients ∧ (grantReadTaken r s).streams = s.streams
      ∧ (grantReadTaken r s).chunks = s.chunks ∧ (grantReadTaken r s).oct = s.oct ∧ (grantReadTaken r s).rtu = s.rtu
      ∧ (grantReadTaken r s).grants = s.grants ∧ (grantReadTaken r s).rpb = s.rpb ∧ (grantReadTaken r s).bpc = s.bpc
      ∧ (grantReadTaken r s).bxp = s.bxp ∧ (grantReadTaken r s).nwu = s.nwu ∧ (grantReadTaken r s).tiu = s.tiu := by
  unfold grantReadTaken
  simp

@[simp] theorem grantDecisionTaken_frame (r : Request) (s : State) :
    (grantDecisionTaken r s).pending = s.pending ∧ (grantDecisionTaken r s).free = s.free
      ∧ (grantDecisionTaken r s).slc.settings = s.slc.settings ∧ (grantDecisionTaken r s).slc.latched = s.slc.latched
      ∧ (grantDecisionTaken r s).slc.enables = s.slc.enables ∧ (grantDecisionTaken r s).slc.link = s.slc.link
      ∧ (grantDecisionTaken r s).slc.acked = s.slc.acked ∧ (grantDecisionTaken r s).slc.receiver = s.slc.receiver
      ∧ (grantDecisionTaken r s).slc.startCause = s.slc.startCause
      ∧ (grantDecisionTaken r s).slc.linkErrors = s.slc.linkErrors
      ∧ (grantDecisionTaken r s).slc.breaks = s.slc.breaks ∧ (grantDecisionTaken r s).slc.sending = s.slc.sending
      ∧ (grantDecisionTaken r s).slc.deferred = s.slc.deferred
      ∧ (grantDecisionTaken r s).slc.sleepReq = s.slc.sleepReq ∧ (grantDecisionTaken r s).slc.owed = s.slc.owed
      ∧ (grantDecisionTaken r s).slc.wakeOut = s.slc.wakeOut ∧ (grantDecisionTaken r s).bck = s.bck
      ∧ (grantDecisionTaken r s).clients = s.clients ∧ (grantDecisionTaken r s).streams = s.streams
      ∧ (grantDecisionTaken r s).chunks = s.chunks ∧ (grantDecisionTaken r s).oct = s.oct
      ∧ (grantDecisionTaken r s).rtu = s.rtu ∧ (grantDecisionTaken r s).grants = s.grants
      ∧ (grantDecisionTaken r s).rpb = s.rpb ∧ (grantDecisionTaken r s).bpc = s.bpc
      ∧ (grantDecisionTaken r s).bxp = s.bxp ∧ (grantDecisionTaken r s).nwu = s.nwu
      ∧ (grantDecisionTaken r s).tiu = s.tiu := by
  unfold grantDecisionTaken
  simp

@[simp] theorem openPlan_frame (p : Nat) (f : PlanFields) (s : State) :
    (openPlan p f s).pending = s.pending ∧ (openPlan p f s).free = s.free ∧ (openPlan p f s).slc = s.slc
      ∧ (openPlan p f s).bck = s.bck ∧ (openPlan p f s).clients = s.clients ∧ (openPlan p f s).streams = s.streams
      ∧ (openPlan p f s).chunks = s.chunks ∧ (openPlan p f s).oct.colls = s.oct.colls
      ∧ (openPlan p f s).oct.freePages = s.oct.freePages ∧ (openPlan p f s).rtu = s.rtu
      ∧ (openPlan p f s).grants = s.grants ∧ (openPlan p f s).bxp = s.bxp ∧ (openPlan p f s).nwu = s.nwu
      ∧ (openPlan p f s).tiu = s.tiu := by
  unfold openPlan
  (try dsimp only)
  simp_all

@[simp] theorem planOpenTaken_frame (r : Request) (s : State) :
    (planOpenTaken r s).pending = s.pending ∧ (planOpenTaken r s).free = s.free
      ∧ (planOpenTaken r s).slc.settings = s.slc.settings ∧ (planOpenTaken r s).slc.latched = s.slc.latched
      ∧ (planOpenTaken r s).slc.enables = s.slc.enables ∧ (planOpenTaken r s).slc.link = s.slc.link
      ∧ (planOpenTaken r s).slc.acked = s.slc.acked ∧ (planOpenTaken r s).slc.receiver = s.slc.receiver
      ∧ (planOpenTaken r s).slc.startCause = s.slc.startCause ∧ (planOpenTaken r s).slc.linkErrors = s.slc.linkErrors
      ∧ (planOpenTaken r s).slc.breaks = s.slc.breaks ∧ (planOpenTaken r s).slc.sending = s.slc.sending
      ∧ (planOpenTaken r s).slc.deferred = s.slc.deferred ∧ (planOpenTaken r s).slc.sleepReq = s.slc.sleepReq
      ∧ (planOpenTaken r s).slc.owed = s.slc.owed ∧ (planOpenTaken r s).slc.wakeOut = s.slc.wakeOut
      ∧ (planOpenTaken r s).bck = s.bck ∧ (planOpenTaken r s).clients = s.clients
      ∧ (planOpenTaken r s).streams = s.streams ∧ (planOpenTaken r s).chunks = s.chunks
      ∧ (planOpenTaken r s).oct.colls = s.oct.colls ∧ (planOpenTaken r s).oct.freePages = s.oct.freePages
      ∧ (planOpenTaken r s).rtu = s.rtu ∧ (planOpenTaken r s).grants = s.grants ∧ (planOpenTaken r s).bxp = s.bxp
      ∧ (planOpenTaken r s).nwu = s.nwu ∧ (planOpenTaken r s).tiu = s.tiu := by
  unfold planOpenTaken
  (try dsimp only)
  (repeat' split) <;> simp_all

@[simp] theorem scanStep_frame (p : Nat) (s : State) :
    (scanStep p s).pending = s.pending ∧ (scanStep p s).free = s.free ∧ (scanStep p s).slc = s.slc
      ∧ (scanStep p s).bck = s.bck ∧ (scanStep p s).clients = s.clients ∧ (scanStep p s).streams = s.streams
      ∧ (scanStep p s).chunks = s.chunks ∧ (scanStep p s).oct = s.oct ∧ (scanStep p s).rtu = s.rtu
      ∧ (scanStep p s).grants = s.grants ∧ (scanStep p s).rpb.epoch = s.rpb.epoch ∧ (scanStep p s).bxp = s.bxp
      ∧ (scanStep p s).nwu = s.nwu ∧ (scanStep p s).tiu = s.tiu := by
  unfold scanStep
  (repeat' split) <;> simp_all

@[simp] theorem fetchHold_frame (p : Nat) (loc : Option Loc) (s : State) :
    (fetchHold p loc s).pending = s.pending ∧ (fetchHold p loc s).free = s.free ∧ (fetchHold p loc s).slc = s.slc
      ∧ (fetchHold p loc s).bck = s.bck ∧ (fetchHold p loc s).clients = s.clients
      ∧ (fetchHold p loc s).streams = s.streams ∧ (fetchHold p loc s).chunks = s.chunks
      ∧ (fetchHold p loc s).oct = s.oct ∧ (fetchHold p loc s).rtu = s.rtu ∧ (fetchHold p loc s).grants = s.grants
      ∧ (fetchHold p loc s).rpb.epoch = s.rpb.epoch ∧ (fetchHold p loc s).bxp = s.bxp
      ∧ (fetchHold p loc s).nwu = s.nwu ∧ (fetchHold p loc s).tiu = s.tiu := by
  generalize ht : fetchHold p loc s = t
  unfold fetchHold at ht
  (try dsimp only at ht)
  (repeat' split at ht) <;> subst ht <;> simp_all

@[simp] theorem fetchRefs_frame (p : Nat) (x0 : Nat) (x1 : List Ref) (x2 : List Byte) (s : State) :
    (fetchRefs p x0 x1 x2 s).2.pending = s.pending ∧ (fetchRefs p x0 x1 x2 s).2.free = s.free
      ∧ (fetchRefs p x0 x1 x2 s).2.slc = s.slc ∧ (fetchRefs p x0 x1 x2 s).2.bck = s.bck
      ∧ (fetchRefs p x0 x1 x2 s).2.clients = s.clients ∧ (fetchRefs p x0 x1 x2 s).2.streams = s.streams
      ∧ (fetchRefs p x0 x1 x2 s).2.chunks = s.chunks ∧ (fetchRefs p x0 x1 x2 s).2.oct = s.oct
      ∧ (fetchRefs p x0 x1 x2 s).2.rtu = s.rtu ∧ (fetchRefs p x0 x1 x2 s).2.grants = s.grants
      ∧ (fetchRefs p x0 x1 x2 s).2.rpb.epoch = s.rpb.epoch ∧ (fetchRefs p x0 x1 x2 s).2.bxp = s.bxp
      ∧ (fetchRefs p x0 x1 x2 s).2.nwu = s.nwu ∧ (fetchRefs p x0 x1 x2 s).2.tiu = s.tiu := by
  induction x1 generalizing x0 x2 s with
  | nil => simp [fetchRefs]
  | cons b bs ih =>
    simp only [fetchRefs]
    simp_all

@[simp] theorem planFetchTaken_frame (r : Request) (s : State) :
    (planFetchTaken r s).pending = s.pending ∧ (planFetchTaken r s).free = s.free
      ∧ (planFetchTaken r s).slc.settings = s.slc.settings ∧ (planFetchTaken r s).slc.latched = s.slc.latched
      ∧ (planFetchTaken r s).slc.enables = s.slc.enables ∧ (planFetchTaken r s).slc.link = s.slc.link
      ∧ (planFetchTaken r s).slc.acked = s.slc.acked ∧ (planFetchTaken r s).slc.receiver = s.slc.receiver
      ∧ (planFetchTaken r s).slc.startCause = s.slc.startCause
      ∧ (planFetchTaken r s).slc.linkErrors = s.slc.linkErrors ∧ (planFetchTaken r s).slc.breaks = s.slc.breaks
      ∧ (planFetchTaken r s).slc.sending = s.slc.sending ∧ (planFetchTaken r s).slc.deferred = s.slc.deferred
      ∧ (planFetchTaken r s).slc.sleepReq = s.slc.sleepReq ∧ (planFetchTaken r s).slc.owed = s.slc.owed
      ∧ (planFetchTaken r s).slc.wakeOut = s.slc.wakeOut ∧ (planFetchTaken r s).bck = s.bck
      ∧ (planFetchTaken r s).clients = s.clients ∧ (planFetchTaken r s).streams = s.streams
      ∧ (planFetchTaken r s).chunks = s.chunks ∧ (planFetchTaken r s).oct = s.oct ∧ (planFetchTaken r s).rtu = s.rtu
      ∧ (planFetchTaken r s).grants = s.grants ∧ (planFetchTaken r s).rpb.epoch = s.rpb.epoch
      ∧ (planFetchTaken r s).bxp = s.bxp ∧ (planFetchTaken r s).nwu = s.nwu ∧ (planFetchTaken r s).tiu = s.tiu := by
  unfold planFetchTaken
  simp

@[simp] theorem latchDamage_frame (set : Bool) (s : State) :
    (latchDamage set s).pending = s.pending ∧ (latchDamage set s).free = s.free
      ∧ (latchDamage set s).slc.settings = s.slc.settings ∧ (latchDamage set s).slc.enables = s.slc.enables
      ∧ (latchDamage set s).slc.places = s.slc.places ∧ (latchDamage set s).slc.link = s.slc.link
      ∧ (latchDamage set s).slc.acked = s.slc.acked ∧ (latchDamage set s).slc.receiver = s.slc.receiver
      ∧ (latchDamage set s).slc.startCause = s.slc.startCause ∧ (latchDamage set s).slc.linkErrors = s.slc.linkErrors
      ∧ (latchDamage set s).slc.breaks = s.slc.breaks ∧ (latchDamage set s).slc.outgoing = s.slc.outgoing
      ∧ (latchDamage set s).slc.sending = s.slc.sending ∧ (latchDamage set s).slc.deferred = s.slc.deferred
      ∧ (latchDamage set s).slc.sleepReq = s.slc.sleepReq ∧ (latchDamage set s).slc.owed = s.slc.owed
      ∧ (latchDamage set s).slc.wakeOut = s.slc.wakeOut ∧ (latchDamage set s).bck = s.bck
      ∧ (latchDamage set s).clients = s.clients ∧ (latchDamage set s).streams = s.streams
      ∧ (latchDamage set s).chunks = s.chunks ∧ (latchDamage set s).oct = s.oct ∧ (latchDamage set s).rtu = s.rtu
      ∧ (latchDamage set s).grants = s.grants ∧ (latchDamage set s).rpb = s.rpb ∧ (latchDamage set s).bpc = s.bpc
      ∧ (latchDamage set s).bxp = s.bxp ∧ (latchDamage set s).nwu = s.nwu ∧ (latchDamage set s).tiu = s.tiu := by
  unfold latchDamage
  (repeat' split) <;> simp_all

@[simp] theorem setCheck_frame (p : Nat) (c : Option CheckContext) (s : State) :
    (setCheck p c s).pending = s.pending ∧ (setCheck p c s).free = s.free ∧ (setCheck p c s).slc = s.slc
      ∧ (setCheck p c s).bck = s.bck ∧ (setCheck p c s).clients = s.clients ∧ (setCheck p c s).streams = s.streams
      ∧ (setCheck p c s).chunks = s.chunks ∧ (setCheck p c s).oct = s.oct ∧ (setCheck p c s).rtu = s.rtu
      ∧ (setCheck p c s).grants = s.grants ∧ (setCheck p c s).rpb.epoch = s.rpb.epoch ∧ (setCheck p c s).bpc = s.bpc
      ∧ (setCheck p c s).bxp = s.bxp ∧ (setCheck p c s).nwu = s.nwu ∧ (setCheck p c s).tiu = s.tiu := by
  unfold setCheck
  simp

@[simp] theorem applyCheck_frame (n k : Nat) (ref : Ref) (l : Loc) (same : Bool) (s : State) :
    (applyCheck n k ref l same s).2.2.pending = s.pending ∧ (applyCheck n k ref l same s).2.2.free = s.free
      ∧ (applyCheck n k ref l same s).2.2.bck = s.bck ∧ (applyCheck n k ref l same s).2.2.clients = s.clients
      ∧ (applyCheck n k ref l same s).2.2.streams = s.streams
      ∧ (applyCheck n k ref l same s).2.2.oct.colls = s.oct.colls
      ∧ (applyCheck n k ref l same s).2.2.oct.freePages = s.oct.freePages
      ∧ (applyCheck n k ref l same s).2.2.rtu = s.rtu ∧ (applyCheck n k ref l same s).2.2.grants = s.grants
      ∧ (applyCheck n k ref l same s).2.2.bpc = s.bpc ∧ (applyCheck n k ref l same s).2.2.bxp = s.bxp
      ∧ (applyCheck n k ref l same s).2.2.nwu = s.nwu ∧ (applyCheck n k ref l same s).2.2.tiu = s.tiu
      ∧ (applyCheck n k ref l same s).2.2.rpb = s.rpb
      ∧ (applyCheck n k ref l same s).2.2.slc.settings = s.slc.settings
      ∧ (applyCheck n k ref l same s).2.2.slc.enables = s.slc.enables
      ∧ (applyCheck n k ref l same s).2.2.slc.places = s.slc.places
      ∧ (applyCheck n k ref l same s).2.2.slc.link = s.slc.link
      ∧ (applyCheck n k ref l same s).2.2.slc.acked = s.slc.acked
      ∧ (applyCheck n k ref l same s).2.2.slc.receiver = s.slc.receiver
      ∧ (applyCheck n k ref l same s).2.2.slc.startCause = s.slc.startCause
      ∧ (applyCheck n k ref l same s).2.2.slc.linkErrors = s.slc.linkErrors
      ∧ (applyCheck n k ref l same s).2.2.slc.breaks = s.slc.breaks
      ∧ (applyCheck n k ref l same s).2.2.slc.outgoing = s.slc.outgoing
      ∧ (applyCheck n k ref l same s).2.2.slc.sending = s.slc.sending
      ∧ (applyCheck n k ref l same s).2.2.slc.deferred = s.slc.deferred
      ∧ (applyCheck n k ref l same s).2.2.slc.sleepReq = s.slc.sleepReq
      ∧ (applyCheck n k ref l same s).2.2.slc.owed = s.slc.owed
      ∧ (applyCheck n k ref l same s).2.2.slc.wakeOut = s.slc.wakeOut := by
  unfold applyCheck
  cases ref <;> dsimp only <;> split <;> simp

@[simp] theorem completeCheck_frame (r : Request) (ref : Ref) (c : CheckContext) (s : State) :
    (completeCheck r ref c s).pending = s.pending ∧ (completeCheck r ref c s).free = s.free
      ∧ (completeCheck r ref c s).slc.settings = s.slc.settings
      ∧ (completeCheck r ref c s).slc.enables = s.slc.enables ∧ (completeCheck r ref c s).slc.link = s.slc.link
      ∧ (completeCheck r ref c s).slc.acked = s.slc.acked ∧ (completeCheck r ref c s).slc.receiver = s.slc.receiver
      ∧ (completeCheck r ref c s).slc.startCause = s.slc.startCause
      ∧ (completeCheck r ref c s).slc.linkErrors = s.slc.linkErrors
      ∧ (completeCheck r ref c s).slc.breaks = s.slc.breaks ∧ (completeCheck r ref c s).slc.sending = s.slc.sending
      ∧ (completeCheck r ref c s).slc.deferred = s.slc.deferred
      ∧ (completeCheck r ref c s).slc.sleepReq = s.slc.sleepReq ∧ (completeCheck r ref c s).slc.owed = s.slc.owed
      ∧ (completeCheck r ref c s).slc.wakeOut = s.slc.wakeOut ∧ (completeCheck r ref c s).bck = s.bck
      ∧ (completeCheck r ref c s).clients = s.clients ∧ (completeCheck r ref c s).streams = s.streams
      ∧ (completeCheck r ref c s).oct.colls = s.oct.colls ∧ (completeCheck r ref c s).oct.freePages = s.oct.freePages
      ∧ (completeCheck r ref c s).rtu = s.rtu ∧ (completeCheck r ref c s).grants = s.grants
      ∧ (completeCheck r ref c s).rpb.epoch = s.rpb.epoch ∧ (completeCheck r ref c s).bpc = s.bpc
      ∧ (completeCheck r ref c s).bxp = s.bxp ∧ (completeCheck r ref c s).nwu = s.nwu
      ∧ (completeCheck r ref c s).tiu = s.tiu := by
  generalize ht : completeCheck r ref c s = t
  unfold completeCheck at ht
  (try dsimp only at ht)
  subst ht <;> simp_all

@[simp] theorem takeCheckBytes_frame (r : Request) (ref : Ref) (c : CheckContext) (s : State) :
    (takeCheckBytes r ref c s).pending = s.pending ∧ (takeCheckBytes r ref c s).free = s.free
      ∧ (takeCheckBytes r ref c s).slc.settings = s.slc.settings
      ∧ (takeCheckBytes r ref c s).slc.enables = s.slc.enables ∧ (takeCheckBytes r ref c s).slc.link = s.slc.link
      ∧ (takeCheckBytes r ref c s).slc.acked = s.slc.acked ∧ (takeCheckBytes r ref c s).slc.receiver = s.slc.receiver
      ∧ (takeCheckBytes r ref c s).slc.startCause = s.slc.startCause
      ∧ (takeCheckBytes r ref c s).slc.linkErrors = s.slc.linkErrors
      ∧ (takeCheckBytes r ref c s).slc.breaks = s.slc.breaks ∧ (takeCheckBytes r ref c s).slc.sending = s.slc.sending
      ∧ (takeCheckBytes r ref c s).slc.deferred = s.slc.deferred
      ∧ (takeCheckBytes r ref c s).slc.sleepReq = s.slc.sleepReq ∧ (takeCheckBytes r ref c s).slc.owed = s.slc.owed
      ∧ (takeCheckBytes r ref c s).slc.wakeOut = s.slc.wakeOut ∧ (takeCheckBytes r ref c s).bck = s.bck
      ∧ (takeCheckBytes r ref c s).clients = s.clients ∧ (takeCheckBytes r ref c s).streams = s.streams
      ∧ (takeCheckBytes r ref c s).oct.colls = s.oct.colls
      ∧ (takeCheckBytes r ref c s).oct.freePages = s.oct.freePages ∧ (takeCheckBytes r ref c s).rtu = s.rtu
      ∧ (takeCheckBytes r ref c s).grants = s.grants ∧ (takeCheckBytes r ref c s).rpb.epoch = s.rpb.epoch
      ∧ (takeCheckBytes r ref c s).bpc = s.bpc ∧ (takeCheckBytes r ref c s).bxp = s.bxp
      ∧ (takeCheckBytes r ref c s).nwu = s.nwu ∧ (takeCheckBytes r ref c s).tiu = s.tiu := by
  unfold takeCheckBytes
  (try dsimp only)
  (repeat' split) <;> simp_all

@[simp] theorem planCheckTaken_frame (r : Request) (s : State) :
    (planCheckTaken r s).pending = s.pending ∧ (planCheckTaken r s).free = s.free
      ∧ (planCheckTaken r s).slc.settings = s.slc.settings ∧ (planCheckTaken r s).slc.enables = s.slc.enables
      ∧ (planCheckTaken r s).slc.link = s.slc.link ∧ (planCheckTaken r s).slc.acked = s.slc.acked
      ∧ (planCheckTaken r s).slc.receiver = s.slc.receiver ∧ (planCheckTaken r s).slc.startCause = s.slc.startCause
      ∧ (planCheckTaken r s).slc.linkErrors = s.slc.linkErrors ∧ (planCheckTaken r s).slc.breaks = s.slc.breaks
      ∧ (planCheckTaken r s).slc.sending = s.slc.sending ∧ (planCheckTaken r s).slc.deferred = s.slc.deferred
      ∧ (planCheckTaken r s).slc.sleepReq = s.slc.sleepReq ∧ (planCheckTaken r s).slc.owed = s.slc.owed
      ∧ (planCheckTaken r s).slc.wakeOut = s.slc.wakeOut ∧ (planCheckTaken r s).bck = s.bck
      ∧ (planCheckTaken r s).clients = s.clients ∧ (planCheckTaken r s).streams = s.streams
      ∧ (planCheckTaken r s).oct.colls = s.oct.colls ∧ (planCheckTaken r s).oct.freePages = s.oct.freePages
      ∧ (planCheckTaken r s).rtu = s.rtu ∧ (planCheckTaken r s).grants = s.grants
      ∧ (planCheckTaken r s).rpb.epoch = s.rpb.epoch ∧ (planCheckTaken r s).bpc = s.bpc
      ∧ (planCheckTaken r s).bxp = s.bxp ∧ (planCheckTaken r s).nwu = s.nwu ∧ (planCheckTaken r s).tiu = s.tiu := by
  unfold planCheckTaken
  (repeat' split) <;> simp_all

@[simp] theorem planDoneTaken_frame (r : Request) (s : State) :
    (planDoneTaken r s).pending = s.pending ∧ (planDoneTaken r s).free = s.free
      ∧ (planDoneTaken r s).slc.settings = s.slc.settings ∧ (planDoneTaken r s).slc.latched = s.slc.latched
      ∧ (planDoneTaken r s).slc.enables = s.slc.enables ∧ (planDoneTaken r s).slc.link = s.slc.link
      ∧ (planDoneTaken r s).slc.acked = s.slc.acked ∧ (planDoneTaken r s).slc.receiver = s.slc.receiver
      ∧ (planDoneTaken r s).slc.startCause = s.slc.startCause ∧ (planDoneTaken r s).slc.linkErrors = s.slc.linkErrors
      ∧ (planDoneTaken r s).slc.breaks = s.slc.breaks ∧ (planDoneTaken r s).slc.sending = s.slc.sending
      ∧ (planDoneTaken r s).slc.deferred = s.slc.deferred ∧ (planDoneTaken r s).slc.sleepReq = s.slc.sleepReq
      ∧ (planDoneTaken r s).slc.owed = s.slc.owed ∧ (planDoneTaken r s).slc.wakeOut = s.slc.wakeOut
      ∧ (planDoneTaken r s).bck = s.bck ∧ (planDoneTaken r s).clients = s.clients
      ∧ (planDoneTaken r s).streams = s.streams ∧ (planDoneTaken r s).chunks = s.chunks
      ∧ (planDoneTaken r s).oct.colls = s.oct.colls ∧ (planDoneTaken r s).oct.freePages = s.oct.freePages
      ∧ (planDoneTaken r s).rtu.orders = s.rtu.orders ∧ (planDoneTaken r s).rtu.reserved = s.rtu.reserved
      ∧ (planDoneTaken r s).rtu.lastBatch = s.rtu.lastBatch ∧ (planDoneTaken r s).grants = s.grants
      ∧ (planDoneTaken r s).rpb.epoch = s.rpb.epoch ∧ (planDoneTaken r s).bxp = s.bxp
      ∧ (planDoneTaken r s).nwu = s.nwu ∧ (planDoneTaken r s).tiu = s.tiu := by
  unfold planDoneTaken
  simp

@[simp] theorem answerBay_frame (r : Request) (st : Status) (s : State) :
    (answerBay r st s).pending = s.pending ∧ (answerBay r st s).free = s.free
      ∧ (answerBay r st s).slc.settings = s.slc.settings ∧ (answerBay r st s).slc.latched = s.slc.latched
      ∧ (answerBay r st s).slc.enables = s.slc.enables ∧ (answerBay r st s).slc.link = s.slc.link
      ∧ (answerBay r st s).slc.acked = s.slc.acked ∧ (answerBay r st s).slc.receiver = s.slc.receiver
      ∧ (answerBay r st s).slc.startCause = s.slc.startCause ∧ (answerBay r st s).slc.linkErrors = s.slc.linkErrors
      ∧ (answerBay r st s).slc.breaks = s.slc.breaks ∧ (answerBay r st s).slc.sending = s.slc.sending
      ∧ (answerBay r st s).slc.deferred = s.slc.deferred ∧ (answerBay r st s).slc.sleepReq = s.slc.sleepReq
      ∧ (answerBay r st s).slc.owed = s.slc.owed ∧ (answerBay r st s).slc.wakeOut = s.slc.wakeOut
      ∧ (answerBay r st s).bck = s.bck ∧ (answerBay r st s).clients = s.clients
      ∧ (answerBay r st s).streams = s.streams ∧ (answerBay r st s).chunks = s.chunks ∧ (answerBay r st s).oct = s.oct
      ∧ (answerBay r st s).rtu = s.rtu ∧ (answerBay r st s).grants = s.grants ∧ (answerBay r st s).rpb = s.rpb
      ∧ (answerBay r st s).bpc = s.bpc ∧ (answerBay r st s).bxp = s.bxp ∧ (answerBay r st s).nwu = s.nwu
      ∧ (answerBay r st s).tiu = s.tiu := by
  unfold answerBay
  simp

@[simp] theorem bayHoldTaken_frame (r : Request) (s : State) :
    (bayHoldTaken r s).pending = s.pending ∧ (bayHoldTaken r s).free = s.free
      ∧ (bayHoldTaken r s).slc.settings = s.slc.settings ∧ (bayHoldTaken r s).slc.latched = s.slc.latched
      ∧ (bayHoldTaken r s).slc.enables = s.slc.enables ∧ (bayHoldTaken r s).slc.link = s.slc.link
      ∧ (bayHoldTaken r s).slc.acked = s.slc.acked ∧ (bayHoldTaken r s).slc.receiver = s.slc.receiver
      ∧ (bayHoldTaken r s).slc.startCause = s.slc.startCause ∧ (bayHoldTaken r s).slc.linkErrors = s.slc.linkErrors
      ∧ (bayHoldTaken r s).slc.breaks = s.slc.breaks ∧ (bayHoldTaken r s).slc.sending = s.slc.sending
      ∧ (bayHoldTaken r s).slc.deferred = s.slc.deferred ∧ (bayHoldTaken r s).slc.sleepReq = s.slc.sleepReq
      ∧ (bayHoldTaken r s).slc.owed = s.slc.owed ∧ (bayHoldTaken r s).slc.wakeOut = s.slc.wakeOut
      ∧ (bayHoldTaken r s).bck = s.bck ∧ (bayHoldTaken r s).clients = s.clients
      ∧ (bayHoldTaken r s).streams = s.streams ∧ (bayHoldTaken r s).chunks = s.chunks ∧ (bayHoldTaken r s).oct = s.oct
      ∧ (bayHoldTaken r s).rtu = s.rtu ∧ (bayHoldTaken r s).grants = s.grants ∧ (bayHoldTaken r s).rpb = s.rpb
      ∧ (bayHoldTaken r s).bxp = s.bxp ∧ (bayHoldTaken r s).nwu = s.nwu ∧ (bayHoldTaken r s).tiu = s.tiu := by
  generalize ht : bayHoldTaken r s = t
  unfold bayHoldTaken at ht
  (try dsimp only at ht)
  (repeat' split at ht) <;> subst ht <;> simp_all

@[simp] theorem bayReleaseTaken_frame (r : Request) (s : State) :
    (bayReleaseTaken r s).pending = s.pending ∧ (bayReleaseTaken r s).free = s.free
      ∧ (bayReleaseTaken r s).slc.settings = s.slc.settings ∧ (bayReleaseTaken r s).slc.latched = s.slc.latched
      ∧ (bayReleaseTaken r s).slc.enables = s.slc.enables ∧ (bayReleaseTaken r s).slc.link = s.slc.link
      ∧ (bayReleaseTaken r s).slc.acked = s.slc.acked ∧ (bayReleaseTaken r s).slc.receiver = s.slc.receiver
      ∧ (bayReleaseTaken r s).slc.startCause = s.slc.startCause
      ∧ (bayReleaseTaken r s).slc.linkErrors = s.slc.linkErrors ∧ (bayReleaseTaken r s).slc.breaks = s.slc.breaks
      ∧ (bayReleaseTaken r s).slc.sending = s.slc.sending ∧ (bayReleaseTaken r s).slc.deferred = s.slc.deferred
      ∧ (bayReleaseTaken r s).slc.sleepReq = s.slc.sleepReq ∧ (bayReleaseTaken r s).slc.owed = s.slc.owed
      ∧ (bayReleaseTaken r s).slc.wakeOut = s.slc.wakeOut ∧ (bayReleaseTaken r s).bck = s.bck
      ∧ (bayReleaseTaken r s).clients = s.clients ∧ (bayReleaseTaken r s).streams = s.streams
      ∧ (bayReleaseTaken r s).chunks = s.chunks ∧ (bayReleaseTaken r s).oct = s.oct
      ∧ (bayReleaseTaken r s).rtu = s.rtu ∧ (bayReleaseTaken r s).grants = s.grants
      ∧ (bayReleaseTaken r s).rpb = s.rpb ∧ (bayReleaseTaken r s).bxp = s.bxp ∧ (bayReleaseTaken r s).nwu = s.nwu
      ∧ (bayReleaseTaken r s).tiu = s.tiu := by
  unfold bayReleaseTaken
  simp

@[simp] theorem examineQueue_frame (s : State) :
    (examineQueue s).pending = s.pending ∧ (examineQueue s).free = s.free ∧ (examineQueue s).slc = s.slc
      ∧ (examineQueue s).bck = s.bck ∧ (examineQueue s).clients = s.clients ∧ (examineQueue s).streams = s.streams
      ∧ (examineQueue s).chunks = s.chunks ∧ (examineQueue s).oct = s.oct ∧ (examineQueue s).rtu = s.rtu
      ∧ (examineQueue s).grants = s.grants ∧ (examineQueue s).rpb = s.rpb ∧ (examineQueue s).bxp = s.bxp
      ∧ (examineQueue s).nwu = s.nwu ∧ (examineQueue s).tiu = s.tiu := by
  unfold examineQueue
  simp

@[simp] theorem spinUpDone_frame (i : Nat) (s : State) :
    (spinUpDone i s).pending = s.pending ∧ (spinUpDone i s).free = s.free
      ∧ (spinUpDone i s).slc.settings = s.slc.settings ∧ (spinUpDone i s).slc.enables = s.slc.enables
      ∧ (spinUpDone i s).slc.places = s.slc.places ∧ (spinUpDone i s).slc.link = s.slc.link
      ∧ (spinUpDone i s).slc.acked = s.slc.acked ∧ (spinUpDone i s).slc.receiver = s.slc.receiver
      ∧ (spinUpDone i s).slc.startCause = s.slc.startCause ∧ (spinUpDone i s).slc.linkErrors = s.slc.linkErrors
      ∧ (spinUpDone i s).slc.breaks = s.slc.breaks ∧ (spinUpDone i s).slc.outgoing = s.slc.outgoing
      ∧ (spinUpDone i s).slc.sending = s.slc.sending ∧ (spinUpDone i s).slc.deferred = s.slc.deferred
      ∧ (spinUpDone i s).slc.sleepReq = s.slc.sleepReq ∧ (spinUpDone i s).slc.owed = s.slc.owed
      ∧ (spinUpDone i s).slc.wakeOut = s.slc.wakeOut ∧ (spinUpDone i s).bck = s.bck
      ∧ (spinUpDone i s).clients = s.clients ∧ (spinUpDone i s).streams = s.streams
      ∧ (spinUpDone i s).chunks = s.chunks ∧ (spinUpDone i s).oct = s.oct ∧ (spinUpDone i s).rtu = s.rtu
      ∧ (spinUpDone i s).grants = s.grants ∧ (spinUpDone i s).rpb.epoch = s.rpb.epoch ∧ (spinUpDone i s).bxp = s.bxp
      ∧ (spinUpDone i s).nwu = s.nwu ∧ (spinUpDone i s).tiu = s.tiu := by
  unfold spinUpDone
  simp

@[simp] theorem idleDone_frame (i : Nat) (s : State) :
    (idleDone i s).pending = s.pending ∧ (idleDone i s).free = s.free ∧ (idleDone i s).slc = s.slc
      ∧ (idleDone i s).bck = s.bck ∧ (idleDone i s).clients = s.clients ∧ (idleDone i s).streams = s.streams
      ∧ (idleDone i s).chunks = s.chunks ∧ (idleDone i s).oct = s.oct ∧ (idleDone i s).rtu = s.rtu
      ∧ (idleDone i s).grants = s.grants ∧ (idleDone i s).rpb = s.rpb ∧ (idleDone i s).bpc.queue = s.bpc.queue
      ∧ (idleDone i s).bpc.force = s.bpc.force ∧ (idleDone i s).bxp = s.bxp ∧ (idleDone i s).nwu = s.nwu
      ∧ (idleDone i s).tiu = s.tiu := by
  unfold idleDone
  simp

@[simp] theorem spinDownDone_frame (i : Nat) (s : State) :
    (spinDownDone i s).pending = s.pending ∧ (spinDownDone i s).free = s.free
      ∧ (spinDownDone i s).slc.settings = s.slc.settings ∧ (spinDownDone i s).slc.latched = s.slc.latched
      ∧ (spinDownDone i s).slc.enables = s.slc.enables ∧ (spinDownDone i s).slc.acked = s.slc.acked
      ∧ (spinDownDone i s).slc.startCause = s.slc.startCause ∧ (spinDownDone i s).slc.linkErrors = s.slc.linkErrors
      ∧ (spinDownDone i s).slc.breaks = s.slc.breaks ∧ (spinDownDone i s).slc.wakeOut = s.slc.wakeOut
      ∧ (spinDownDone i s).bck = s.bck ∧ (spinDownDone i s).clients = s.clients
      ∧ (spinDownDone i s).streams = s.streams ∧ (spinDownDone i s).chunks = s.chunks ∧ (spinDownDone i s).oct = s.oct
      ∧ (spinDownDone i s).rtu = s.rtu ∧ (spinDownDone i s).grants = s.grants ∧ (spinDownDone i s).rpb = s.rpb
      ∧ (spinDownDone i s).bxp.cause = s.bxp.cause ∧ (spinDownDone i s).bxp.failures = s.bxp.failures
      ∧ (spinDownDone i s).bxp.phase = s.bxp.phase ∧ (spinDownDone i s).bxp.sleepAcked = s.bxp.sleepAcked
      ∧ (spinDownDone i s).bxp.lastFailure = s.bxp.lastFailure ∧ (spinDownDone i s).bxp.due = s.bxp.due
      ∧ (spinDownDone i s).nwu.mode = s.nwu.mode ∧ (spinDownDone i s).nwu.transmit = s.nwu.transmit
      ∧ (spinDownDone i s).nwu.onWire = s.nwu.onWire ∧ (spinDownDone i s).nwu.templates = s.nwu.templates
      ∧ (spinDownDone i s).tiu = s.tiu := by
  unfold spinDownDone
  simp

@[simp] theorem reportLossToStreams_frame (bay : Nat) (s : State) :
    (reportLossToStreams bay s).pending = s.pending ∧ (reportLossToStreams bay s).free = s.free
      ∧ (reportLossToStreams bay s).slc.settings = s.slc.settings
      ∧ (reportLossToStreams bay s).slc.latched = s.slc.latched
      ∧ (reportLossToStreams bay s).slc.enables = s.slc.enables
      ∧ (reportLossToStreams bay s).slc.places = s.slc.places ∧ (reportLossToStreams bay s).slc.link = s.slc.link
      ∧ (reportLossToStreams bay s).slc.acked = s.slc.acked
      ∧ (reportLossToStreams bay s).slc.receiver = s.slc.receiver
      ∧ (reportLossToStreams bay s).slc.startCause = s.slc.startCause
      ∧ (reportLossToStreams bay s).slc.linkErrors = s.slc.linkErrors
      ∧ (reportLossToStreams bay s).slc.breaks = s.slc.breaks
      ∧ (reportLossToStreams bay s).slc.sending = s.slc.sending
      ∧ (reportLossToStreams bay s).slc.sleepReq = s.slc.sleepReq ∧ (reportLossToStreams bay s).slc.owed = s.slc.owed
      ∧ (reportLossToStreams bay s).slc.wakeOut = s.slc.wakeOut ∧ (reportLossToStreams bay s).bck = s.bck
      ∧ (reportLossToStreams bay s).clients = s.clients ∧ (reportLossToStreams bay s).chunks = s.chunks
      ∧ (reportLossToStreams bay s).oct = s.oct ∧ (reportLossToStreams bay s).rtu = s.rtu
      ∧ (reportLossToStreams bay s).grants = s.grants ∧ (reportLossToStreams bay s).rpb = s.rpb
      ∧ (reportLossToStreams bay s).bpc = s.bpc ∧ (reportLossToStreams bay s).bxp = s.bxp
      ∧ (reportLossToStreams bay s).nwu = s.nwu ∧ (reportLossToStreams bay s).tiu = s.tiu := by
  unfold reportLossToStreams
  refine foldl_keeps (fun t : State =>
      t.pending = s.pending ∧ t.free = s.free ∧ t.slc.settings = s.slc.settings ∧ t.slc.latched = s.slc.latched
        ∧ t.slc.enables = s.slc.enables ∧ t.slc.places = s.slc.places ∧ t.slc.link = s.slc.link
        ∧ t.slc.acked = s.slc.acked ∧ t.slc.receiver = s.slc.receiver ∧ t.slc.startCause = s.slc.startCause
        ∧ t.slc.linkErrors = s.slc.linkErrors ∧ t.slc.breaks = s.slc.breaks ∧ t.slc.sending = s.slc.sending
        ∧ t.slc.sleepReq = s.slc.sleepReq ∧ t.slc.owed = s.slc.owed ∧ t.slc.wakeOut = s.slc.wakeOut ∧ t.bck = s.bck
        ∧ t.clients = s.clients ∧ t.chunks = s.chunks ∧ t.oct = s.oct ∧ t.rtu = s.rtu ∧ t.grants = s.grants
        ∧ t.rpb = s.rpb ∧ t.bpc = s.bpc ∧ t.bxp = s.bxp ∧ t.nwu = s.nwu ∧ t.tiu = s.tiu)
    _ _ _ (⟨rfl, rfl, rfl, rfl, rfl, rfl, rfl, rfl, rfl, rfl, rfl, rfl, rfl, rfl, rfl, rfl, rfl, rfl, rfl, rfl, rfl, rfl, rfl, rfl, rfl, rfl, rfl⟩) fun a b h => ?_
  simpa using h

@[simp] theorem bayLoss_frame (i : Nat) (s : State) :
    (bayLoss i s).pending = s.pending ∧ (bayLoss i s).free = s.free ∧ (bayLoss i s).slc.settings = s.slc.settings
      ∧ (bayLoss i s).slc.enables = s.slc.enables ∧ (bayLoss i s).slc.acked = s.slc.acked
      ∧ (bayLoss i s).slc.startCause = s.slc.startCause ∧ (bayLoss i s).slc.linkErrors = s.slc.linkErrors
      ∧ (bayLoss i s).slc.breaks = s.slc.breaks ∧ (bayLoss i s).slc.wakeOut = s.slc.wakeOut
      ∧ (bayLoss i s).bck = s.bck ∧ (bayLoss i s).clients = s.clients ∧ (bayLoss i s).chunks = s.chunks
      ∧ (bayLoss i s).oct = s.oct ∧ (bayLoss i s).rtu = s.rtu ∧ (bayLoss i s).grants = s.grants
      ∧ (bayLoss i s).rpb.epoch = s.rpb.epoch ∧ (bayLoss i s).bxp.cause = s.bxp.cause
      ∧ (bayLoss i s).bxp.failures = s.bxp.failures ∧ (bayLoss i s).bxp.phase = s.bxp.phase
      ∧ (bayLoss i s).bxp.sleepAcked = s.bxp.sleepAcked ∧ (bayLoss i s).bxp.lastFailure = s.bxp.lastFailure
      ∧ (bayLoss i s).bxp.due = s.bxp.due ∧ (bayLoss i s).nwu.mode = s.nwu.mode
      ∧ (bayLoss i s).nwu.transmit = s.nwu.transmit ∧ (bayLoss i s).nwu.onWire = s.nwu.onWire
      ∧ (bayLoss i s).nwu.templates = s.nwu.templates ∧ (bayLoss i s).tiu = s.tiu := by
  unfold bayLoss
  simp

@[simp] theorem bayArrival_frame (i : Nat) (s : State) :
    (bayArrival i s).pending = s.pending ∧ (bayArrival i s).free = s.free
      ∧ (bayArrival i s).slc.settings = s.slc.settings ∧ (bayArrival i s).slc.enables = s.slc.enables
      ∧ (bayArrival i s).slc.acked = s.slc.acked ∧ (bayArrival i s).slc.startCause = s.slc.startCause
      ∧ (bayArrival i s).slc.linkErrors = s.slc.linkErrors ∧ (bayArrival i s).slc.breaks = s.slc.breaks
      ∧ (bayArrival i s).slc.wakeOut = s.slc.wakeOut ∧ (bayArrival i s).bck = s.bck
      ∧ (bayArrival i s).clients = s.clients ∧ (bayArrival i s).streams = s.streams
      ∧ (bayArrival i s).chunks = s.chunks ∧ (bayArrival i s).oct = s.oct ∧ (bayArrival i s).rtu = s.rtu
      ∧ (bayArrival i s).grants = s.grants ∧ (bayArrival i s).rpb = s.rpb ∧ (bayArrival i s).bxp.cause = s.bxp.cause
      ∧ (bayArrival i s).bxp.failures = s.bxp.failures ∧ (bayArrival i s).bxp.phase = s.bxp.phase
      ∧ (bayArrival i s).bxp.sleepAcked = s.bxp.sleepAcked ∧ (bayArrival i s).bxp.lastFailure = s.bxp.lastFailure
      ∧ (bayArrival i s).bxp.due = s.bxp.due ∧ (bayArrival i s).nwu.mode = s.nwu.mode
      ∧ (bayArrival i s).nwu.transmit = s.nwu.transmit ∧ (bayArrival i s).nwu.onWire = s.nwu.onWire
      ∧ (bayArrival i s).nwu.templates = s.nwu.templates ∧ (bayArrival i s).tiu = s.tiu := by
  unfold bayArrival
  simp

@[simp] theorem answerPower_frame (r : Request) (st : Status) (s : State) :
    (answerPower r st s).pending = s.pending ∧ (answerPower r st s).slc.settings = s.slc.settings
      ∧ (answerPower r st s).slc.latched = s.slc.latched ∧ (answerPower r st s).slc.enables = s.slc.enables
      ∧ (answerPower r st s).slc.link = s.slc.link ∧ (answerPower r st s).slc.acked = s.slc.acked
      ∧ (answerPower r st s).slc.receiver = s.slc.receiver ∧ (answerPower r st s).slc.startCause = s.slc.startCause
      ∧ (answerPower r st s).slc.linkErrors = s.slc.linkErrors ∧ (answerPower r st s).slc.breaks = s.slc.breaks
      ∧ (answerPower r st s).slc.sending = s.slc.sending ∧ (answerPower r st s).slc.deferred = s.slc.deferred
      ∧ (answerPower r st s).slc.sleepReq = s.slc.sleepReq ∧ (answerPower r st s).slc.owed = s.slc.owed
      ∧ (answerPower r st s).slc.wakeOut = s.slc.wakeOut ∧ (answerPower r st s).bck = s.bck
      ∧ (answerPower r st s).clients = s.clients ∧ (answerPower r st s).streams = s.streams
      ∧ (answerPower r st s).chunks = s.chunks ∧ (answerPower r st s).oct = s.oct ∧ (answerPower r st s).rtu = s.rtu
      ∧ (answerPower r st s).grants = s.grants ∧ (answerPower r st s).rpb = s.rpb ∧ (answerPower r st s).bpc = s.bpc
      ∧ (answerPower r st s).bxp = s.bxp ∧ (answerPower r st s).nwu = s.nwu ∧ (answerPower r st s).tiu = s.tiu := by
  unfold answerPower
  simp

@[simp] theorem returnToStandby_frame (s : State) :
    (returnToStandby s).pending = s.pending ∧ (returnToStandby s).free = s.free
      ∧ (returnToStandby s).slc.settings = s.slc.settings ∧ (returnToStandby s).slc.latched = s.slc.latched
      ∧ (returnToStandby s).slc.enables = s.slc.enables ∧ (returnToStandby s).slc.places = s.slc.places
      ∧ (returnToStandby s).slc.link = s.slc.link ∧ (returnToStandby s).slc.acked = s.slc.acked
      ∧ (returnToStandby s).slc.receiver = s.slc.receiver ∧ (returnToStandby s).slc.startCause = s.slc.startCause
      ∧ (returnToStandby s).slc.linkErrors = s.slc.linkErrors ∧ (returnToStandby s).slc.breaks = s.slc.breaks
      ∧ (returnToStandby s).slc.outgoing = s.slc.outgoing ∧ (returnToStandby s).slc.sending = s.slc.sending
      ∧ (returnToStandby s).slc.deferred = s.slc.deferred ∧ (returnToStandby s).slc.owed = s.slc.owed
      ∧ (returnToStandby s).slc.wakeOut = s.slc.wakeOut ∧ (returnToStandby s).bck = s.bck
      ∧ (returnToStandby s).clients = s.clients ∧ (returnToStandby s).streams = s.streams
      ∧ (returnToStandby s).chunks = s.chunks ∧ (returnToStandby s).oct = s.oct ∧ (returnToStandby s).rtu = s.rtu
      ∧ (returnToStandby s).grants = s.grants ∧ (returnToStandby s).rpb = s.rpb
      ∧ (returnToStandby s).bxp.cause = s.bxp.cause ∧ (returnToStandby s).bxp.failures = s.bxp.failures
      ∧ (returnToStandby s).bxp.phase = s.bxp.phase ∧ (returnToStandby s).bxp.lastFailure = s.bxp.lastFailure
      ∧ (returnToStandby s).bxp.due = s.bxp.due ∧ (returnToStandby s).nwu.transmit = s.nwu.transmit
      ∧ (returnToStandby s).nwu.onWire = s.nwu.onWire ∧ (returnToStandby s).nwu.templates = s.nwu.templates
      ∧ (returnToStandby s).tiu = s.tiu := by
  unfold returnToStandby
  simp

@[simp] theorem wakeFails_frame (s : State) :
    (wakeFails s).pending = s.pending ∧ (wakeFails s).free = s.free ∧ (wakeFails s).slc.settings = s.slc.settings
      ∧ (wakeFails s).slc.latched = s.slc.latched ∧ (wakeFails s).slc.enables = s.slc.enables
      ∧ (wakeFails s).slc.acked = s.slc.acked ∧ (wakeFails s).slc.startCause = s.slc.startCause
      ∧ (wakeFails s).slc.linkErrors = s.slc.linkErrors ∧ (wakeFails s).slc.breaks = s.slc.breaks
      ∧ (wakeFails s).slc.wakeOut = s.slc.wakeOut ∧ (wakeFails s).bck = s.bck ∧ (wakeFails s).clients = s.clients
      ∧ (wakeFails s).streams = s.streams ∧ (wakeFails s).chunks = s.chunks ∧ (wakeFails s).oct = s.oct
      ∧ (wakeFails s).rtu = s.rtu ∧ (wakeFails s).grants = s.grants ∧ (wakeFails s).rpb = s.rpb
      ∧ (wakeFails s).bpc = s.bpc ∧ (wakeFails s).bxp.cause = s.bxp.cause
      ∧ (wakeFails s).bxp.sleepAcked = s.bxp.sleepAcked ∧ (wakeFails s).bxp.lastFailure = s.bxp.lastFailure
      ∧ (wakeFails s).bxp.due = s.bxp.due ∧ (wakeFails s).nwu.mode = s.nwu.mode
      ∧ (wakeFails s).nwu.transmit = s.nwu.transmit ∧ (wakeFails s).nwu.onWire = s.nwu.onWire
      ∧ (wakeFails s).nwu.templates = s.nwu.templates ∧ (wakeFails s).tiu = s.tiu := by
  generalize ht : wakeFails s = t
  unfold wakeFails at ht
  (try dsimp only at ht)
  (repeat' split at ht) <;> subst ht <;> simp_all

@[simp] theorem pauseEnds_frame (s : State) :
    (pauseEnds s).pending = s.pending ∧ (pauseEnds s).free = s.free ∧ (pauseEnds s).slc = s.slc
      ∧ (pauseEnds s).bck = s.bck ∧ (pauseEnds s).clients = s.clients ∧ (pauseEnds s).streams = s.streams
      ∧ (pauseEnds s).chunks = s.chunks ∧ (pauseEnds s).oct = s.oct ∧ (pauseEnds s).rtu = s.rtu
      ∧ (pauseEnds s).grants = s.grants ∧ (pauseEnds s).rpb = s.rpb ∧ (pauseEnds s).bpc = s.bpc
      ∧ (pauseEnds s).bxp.power = s.bxp.power ∧ (pauseEnds s).bxp.returnStandby = s.bxp.returnStandby
      ∧ (pauseEnds s).bxp.cause = s.bxp.cause ∧ (pauseEnds s).bxp.failures = s.bxp.failures
      ∧ (pauseEnds s).bxp.sleepAcked = s.bxp.sleepAcked ∧ (pauseEnds s).bxp.lastFailure = s.bxp.lastFailure
      ∧ (pauseEnds s).bxp.due = s.bxp.due ∧ (pauseEnds s).nwu = s.nwu ∧ (pauseEnds s).tiu = s.tiu := by
  unfold pauseEnds
  simp

@[simp] theorem pressButton_frame (s : State) :
    (pressButton s).pending = s.pending ∧ (pressButton s).free = s.free
      ∧ (pressButton s).slc.settings = s.slc.settings ∧ (pressButton s).slc.enables = s.slc.enables
      ∧ (pressButton s).slc.places = s.slc.places ∧ (pressButton s).slc.acked = s.slc.acked
      ∧ (pressButton s).slc.receiver = s.slc.receiver ∧ (pressButton s).slc.startCause = s.slc.startCause
      ∧ (pressButton s).slc.linkErrors = s.slc.linkErrors ∧ (pressButton s).slc.breaks = s.slc.breaks
      ∧ (pressButton s).slc.sending = s.slc.sending ∧ (pressButton s).slc.deferred = s.slc.deferred
      ∧ (pressButton s).bck = s.bck ∧ (pressButton s).streams = s.streams ∧ (pressButton s).chunks = s.chunks
      ∧ (pressButton s).oct = s.oct ∧ (pressButton s).rtu = s.rtu ∧ (pressButton s).grants = s.grants
      ∧ (pressButton s).rpb = s.rpb ∧ (pressButton s).bxp.sleepAcked = s.bxp.sleepAcked
      ∧ (pressButton s).bxp.due = s.bxp.due ∧ (pressButton s).nwu.transmit = s.nwu.transmit
      ∧ (pressButton s).nwu.onWire = s.nwu.onWire ∧ (pressButton s).nwu.templates = s.nwu.templates
      ∧ (pressButton s).tiu = s.tiu := by
  generalize ht : pressButton s = t
  unfold pressButton at ht
  (try dsimp only at ht)
  (repeat' split at ht) <;> subst ht <;> simp_all

@[simp] theorem queueTransmit_frame (frame : List Byte) (s : State) :
    (queueTransmit frame s).pending = s.pending ∧ (queueTransmit frame s).free = s.free
      ∧ (queueTransmit frame s).slc = s.slc ∧ (queueTransmit frame s).bck = s.bck
      ∧ (queueTransmit frame s).clients = s.clients ∧ (queueTransmit frame s).streams = s.streams
      ∧ (queueTransmit frame s).chunks = s.chunks ∧ (queueTransmit frame s).oct = s.oct
      ∧ (queueTransmit frame s).rtu = s.rtu ∧ (queueTransmit frame s).grants = s.grants
      ∧ (queueTransmit frame s).rpb = s.rpb ∧ (queueTransmit frame s).bpc = s.bpc
      ∧ (queueTransmit frame s).bxp = s.bxp ∧ (queueTransmit frame s).nwu.mode = s.nwu.mode
      ∧ (queueTransmit frame s).nwu.receive = s.nwu.receive ∧ (queueTransmit frame s).nwu.onWire = s.nwu.onWire
      ∧ (queueTransmit frame s).nwu.templates = s.nwu.templates ∧ (queueTransmit frame s).tiu = s.tiu := by
  generalize ht : queueTransmit frame s = t
  unfold queueTransmit at ht
  (try dsimp only at ht)
  (repeat' split at ht) <;> subst ht <;> simp_all

@[simp] theorem holdFrame_frame (c : Nat) (frame : List Byte) (s : State) :
    (holdFrame c frame s).pending = s.pending ∧ (holdFrame c frame s).free = s.free
      ∧ (holdFrame c frame s).slc.settings = s.slc.settings ∧ (holdFrame c frame s).slc.enables = s.slc.enables
      ∧ (holdFrame c frame s).slc.places = s.slc.places ∧ (holdFrame c frame s).slc.acked = s.slc.acked
      ∧ (holdFrame c frame s).slc.receiver = s.slc.receiver ∧ (holdFrame c frame s).slc.startCause = s.slc.startCause
      ∧ (holdFrame c frame s).slc.linkErrors = s.slc.linkErrors ∧ (holdFrame c frame s).slc.breaks = s.slc.breaks
      ∧ (holdFrame c frame s).slc.sending = s.slc.sending ∧ (holdFrame c frame s).slc.deferred = s.slc.deferred
      ∧ (holdFrame c frame s).bck = s.bck ∧ (holdFrame c frame s).streams = s.streams
      ∧ (holdFrame c frame s).chunks = s.chunks ∧ (holdFrame c frame s).oct = s.oct
      ∧ (holdFrame c frame s).rtu = s.rtu ∧ (holdFrame c frame s).grants = s.grants
      ∧ (holdFrame c frame s).rpb = s.rpb ∧ (holdFrame c frame s).bxp.sleepAcked = s.bxp.sleepAcked
      ∧ (holdFrame c frame s).bxp.due = s.bxp.due ∧ (holdFrame c frame s).nwu.transmit = s.nwu.transmit
      ∧ (holdFrame c frame s).nwu.onWire = s.nwu.onWire ∧ (holdFrame c frame s).nwu.templates = s.nwu.templates
      ∧ (holdFrame c frame s).tiu = s.tiu := by
  unfold holdFrame
  simp

@[simp] theorem passFrame_frame (frame : List Byte) (s : State) :
    (passFrame frame s).pending = s.pending ∧ (passFrame frame s).free = s.free ∧ (passFrame frame s).slc = s.slc
      ∧ (passFrame frame s).bck = s.bck ∧ (passFrame frame s).clients = s.clients
      ∧ (passFrame frame s).streams = s.streams ∧ (passFrame frame s).chunks = s.chunks
      ∧ (passFrame frame s).oct = s.oct ∧ (passFrame frame s).rtu = s.rtu ∧ (passFrame frame s).grants = s.grants
      ∧ (passFrame frame s).rpb = s.rpb ∧ (passFrame frame s).bpc = s.bpc ∧ (passFrame frame s).bxp = s.bxp
      ∧ (passFrame frame s).nwu.mode = s.nwu.mode ∧ (passFrame frame s).nwu.transmit = s.nwu.transmit
      ∧ (passFrame frame s).nwu.onWire = s.nwu.onWire ∧ (passFrame frame s).nwu.templates = s.nwu.templates
      ∧ (passFrame frame s).tiu = s.tiu := by
  generalize ht : passFrame frame s = t
  unfold passFrame at ht
  (try dsimp only at ht)
  (repeat' split at ht) <;> subst ht <;> simp_all

@[simp] theorem watchClients_frame (frame : List Byte) (s : State) :
    (watchClients frame s).pending = s.pending ∧ (watchClients frame s).free = s.free
      ∧ (watchClients frame s).slc.settings = s.slc.settings ∧ (watchClients frame s).slc.enables = s.slc.enables
      ∧ (watchClients frame s).slc.places = s.slc.places ∧ (watchClients frame s).slc.acked = s.slc.acked
      ∧ (watchClients frame s).slc.receiver = s.slc.receiver
      ∧ (watchClients frame s).slc.startCause = s.slc.startCause
      ∧ (watchClients frame s).slc.linkErrors = s.slc.linkErrors ∧ (watchClients frame s).slc.breaks = s.slc.breaks
      ∧ (watchClients frame s).slc.sending = s.slc.sending ∧ (watchClients frame s).slc.deferred = s.slc.deferred
      ∧ (watchClients frame s).bck = s.bck ∧ (watchClients frame s).streams = s.streams
      ∧ (watchClients frame s).chunks = s.chunks ∧ (watchClients frame s).oct = s.oct
      ∧ (watchClients frame s).rtu = s.rtu ∧ (watchClients frame s).grants = s.grants
      ∧ (watchClients frame s).rpb = s.rpb ∧ (watchClients frame s).bxp.sleepAcked = s.bxp.sleepAcked
      ∧ (watchClients frame s).bxp.due = s.bxp.due ∧ (watchClients frame s).nwu.transmit = s.nwu.transmit
      ∧ (watchClients frame s).nwu.onWire = s.nwu.onWire ∧ (watchClients frame s).nwu.templates = s.nwu.templates
      ∧ (watchClients frame s).tiu = s.tiu := by
  unfold watchClients
  (repeat' split) <;> simp_all

@[simp] theorem watchFrame_frame (frame : List Byte) (s : State) :
    (watchFrame frame s).pending = s.pending ∧ (watchFrame frame s).free = s.free
      ∧ (watchFrame frame s).slc.settings = s.slc.settings ∧ (watchFrame frame s).slc.enables = s.slc.enables
      ∧ (watchFrame frame s).slc.places = s.slc.places ∧ (watchFrame frame s).slc.acked = s.slc.acked
      ∧ (watchFrame frame s).slc.receiver = s.slc.receiver ∧ (watchFrame frame s).slc.startCause = s.slc.startCause
      ∧ (watchFrame frame s).slc.linkErrors = s.slc.linkErrors ∧ (watchFrame frame s).slc.breaks = s.slc.breaks
      ∧ (watchFrame frame s).slc.sending = s.slc.sending ∧ (watchFrame frame s).slc.deferred = s.slc.deferred
      ∧ (watchFrame frame s).bck = s.bck ∧ (watchFrame frame s).streams = s.streams
      ∧ (watchFrame frame s).chunks = s.chunks ∧ (watchFrame frame s).oct = s.oct ∧ (watchFrame frame s).rtu = s.rtu
      ∧ (watchFrame frame s).grants = s.grants ∧ (watchFrame frame s).rpb = s.rpb
      ∧ (watchFrame frame s).bxp.sleepAcked = s.bxp.sleepAcked ∧ (watchFrame frame s).bxp.due = s.bxp.due
      ∧ (watchFrame frame s).nwu.onWire = s.nwu.onWire ∧ (watchFrame frame s).nwu.templates = s.nwu.templates
      ∧ (watchFrame frame s).tiu = s.tiu := by
  unfold watchFrame
  (repeat' split) <;> simp_all

@[simp] theorem frameTaken_frame (frame : List Byte) (s : State) :
    (frameTaken frame s).pending = s.pending ∧ (frameTaken frame s).free = s.free
      ∧ (frameTaken frame s).slc.settings = s.slc.settings ∧ (frameTaken frame s).slc.enables = s.slc.enables
      ∧ (frameTaken frame s).slc.places = s.slc.places ∧ (frameTaken frame s).slc.acked = s.slc.acked
      ∧ (frameTaken frame s).slc.receiver = s.slc.receiver ∧ (frameTaken frame s).slc.startCause = s.slc.startCause
      ∧ (frameTaken frame s).slc.linkErrors = s.slc.linkErrors ∧ (frameTaken frame s).slc.breaks = s.slc.breaks
      ∧ (frameTaken frame s).slc.sending = s.slc.sending ∧ (frameTaken frame s).slc.deferred = s.slc.deferred
      ∧ (frameTaken frame s).bck = s.bck ∧ (frameTaken frame s).streams = s.streams
      ∧ (frameTaken frame s).chunks = s.chunks ∧ (frameTaken frame s).oct = s.oct ∧ (frameTaken frame s).rtu = s.rtu
      ∧ (frameTaken frame s).grants = s.grants ∧ (frameTaken frame s).rpb = s.rpb
      ∧ (frameTaken frame s).bxp.sleepAcked = s.bxp.sleepAcked ∧ (frameTaken frame s).bxp.due = s.bxp.due
      ∧ (frameTaken frame s).nwu.onWire = s.nwu.onWire ∧ (frameTaken frame s).nwu.templates = s.nwu.templates
      ∧ (frameTaken frame s).tiu = s.tiu := by
  unfold frameTaken
  (repeat' split) <;> simp_all

@[simp] theorem transmitStarts_frame (s : State) :
    (transmitStarts s).pending = s.pending ∧ (transmitStarts s).free = s.free ∧ (transmitStarts s).slc = s.slc
      ∧ (transmitStarts s).bck = s.bck ∧ (transmitStarts s).clients = s.clients
      ∧ (transmitStarts s).streams = s.streams ∧ (transmitStarts s).chunks = s.chunks ∧ (transmitStarts s).oct = s.oct
      ∧ (transmitStarts s).rtu = s.rtu ∧ (transmitStarts s).grants = s.grants ∧ (transmitStarts s).rpb = s.rpb
      ∧ (transmitStarts s).bpc = s.bpc ∧ (transmitStarts s).bxp = s.bxp ∧ (transmitStarts s).nwu.mode = s.nwu.mode
      ∧ (transmitStarts s).nwu.receive = s.nwu.receive ∧ (transmitStarts s).nwu.transmit = s.nwu.transmit
      ∧ (transmitStarts s).nwu.templates = s.nwu.templates ∧ (transmitStarts s).tiu = s.tiu := by
  generalize ht : transmitStarts s = t
  unfold transmitStarts at ht
  (try dsimp only at ht)
  (repeat' split at ht) <;> subst ht <;> simp_all

@[simp] theorem transmitEnds_frame (s : State) :
    (transmitEnds s).pending = s.pending ∧ (transmitEnds s).free = s.free ∧ (transmitEnds s).slc = s.slc
      ∧ (transmitEnds s).bck = s.bck ∧ (transmitEnds s).clients = s.clients ∧ (transmitEnds s).streams = s.streams
      ∧ (transmitEnds s).chunks = s.chunks ∧ (transmitEnds s).oct = s.oct ∧ (transmitEnds s).rtu = s.rtu
      ∧ (transmitEnds s).grants = s.grants ∧ (transmitEnds s).rpb = s.rpb ∧ (transmitEnds s).bpc = s.bpc
      ∧ (transmitEnds s).bxp = s.bxp ∧ (transmitEnds s).nwu.mode = s.nwu.mode
      ∧ (transmitEnds s).nwu.receive = s.nwu.receive ∧ (transmitEnds s).nwu.templates = s.nwu.templates
      ∧ (transmitEnds s).tiu = s.tiu := by
  generalize ht : transmitEnds s = t
  unfold transmitEnds at ht
  (try dsimp only at ht)
  (repeat' split at ht) <;> subst ht <;> simp_all

@[simp] theorem writeFilters_frame (c : Nat) (fs : List Filter) (s : State) :
    (writeFilters c fs s).pending = s.pending ∧ (writeFilters c fs s).free = s.free
      ∧ (writeFilters c fs s).slc = s.slc ∧ (writeFilters c fs s).bck = s.bck
      ∧ (writeFilters c fs s).streams = s.streams ∧ (writeFilters c fs s).chunks = s.chunks
      ∧ (writeFilters c fs s).oct = s.oct ∧ (writeFilters c fs s).rtu = s.rtu
      ∧ (writeFilters c fs s).grants = s.grants ∧ (writeFilters c fs s).rpb = s.rpb
      ∧ (writeFilters c fs s).bpc = s.bpc ∧ (writeFilters c fs s).bxp = s.bxp ∧ (writeFilters c fs s).nwu = s.nwu
      ∧ (writeFilters c fs s).tiu = s.tiu := by
  unfold writeFilters
  simp

@[simp] theorem writeTemplate_frame (t : Nat) (x : Option Template) (s : State) :
    (writeTemplate t x s).pending = s.pending ∧ (writeTemplate t x s).free = s.free
      ∧ (writeTemplate t x s).slc = s.slc ∧ (writeTemplate t x s).bck = s.bck
      ∧ (writeTemplate t x s).clients = s.clients ∧ (writeTemplate t x s).streams = s.streams
      ∧ (writeTemplate t x s).chunks = s.chunks ∧ (writeTemplate t x s).oct = s.oct
      ∧ (writeTemplate t x s).rtu = s.rtu ∧ (writeTemplate t x s).grants = s.grants
      ∧ (writeTemplate t x s).rpb = s.rpb ∧ (writeTemplate t x s).bpc = s.bpc ∧ (writeTemplate t x s).bxp = s.bxp
      ∧ (writeTemplate t x s).nwu.mode = s.nwu.mode ∧ (writeTemplate t x s).nwu.receive = s.nwu.receive
      ∧ (writeTemplate t x s).nwu.transmit = s.nwu.transmit ∧ (writeTemplate t x s).nwu.onWire = s.nwu.onWire
      ∧ (writeTemplate t x s).tiu = s.tiu := by
  unfold writeTemplate
  simp

@[simp] theorem answerImage_frame (r : Request) (st : Status) (records : List (List Byte)) (s : State) :
    (answerImage r st records s).pending = s.pending ∧ (answerImage r st records s).slc.settings = s.slc.settings
      ∧ (answerImage r st records s).slc.latched = s.slc.latched
      ∧ (answerImage r st records s).slc.enables = s.slc.enables ∧ (answerImage r st records s).slc.link = s.slc.link
      ∧ (answerImage r st records s).slc.acked = s.slc.acked
      ∧ (answerImage r st records s).slc.receiver = s.slc.receiver
      ∧ (answerImage r st records s).slc.startCause = s.slc.startCause
      ∧ (answerImage r st records s).slc.linkErrors = s.slc.linkErrors
      ∧ (answerImage r st records s).slc.breaks = s.slc.breaks
      ∧ (answerImage r st records s).slc.sending = s.slc.sending
      ∧ (answerImage r st records s).slc.deferred = s.slc.deferred
      ∧ (answerImage r st records s).slc.sleepReq = s.slc.sleepReq
      ∧ (answerImage r st records s).slc.owed = s.slc.owed ∧ (answerImage r st records s).slc.wakeOut = s.slc.wakeOut
      ∧ (answerImage r st records s).bck = s.bck ∧ (answerImage r st records s).clients = s.clients
      ∧ (answerImage r st records s).streams = s.streams ∧ (answerImage r st records s).chunks = s.chunks
      ∧ (answerImage r st records s).oct = s.oct ∧ (answerImage r st records s).rtu = s.rtu
      ∧ (answerImage r st records s).grants = s.grants ∧ (answerImage r st records s).rpb = s.rpb
      ∧ (answerImage r st records s).bpc = s.bpc ∧ (answerImage r st records s).bxp = s.bxp
      ∧ (answerImage r st records s).nwu = s.nwu ∧ (answerImage r st records s).tiu = s.tiu := by
  unfold answerImage
  simp

@[simp] theorem emptyTables_frame (s : State) :
    (emptyTables s).pending = s.pending ∧ (emptyTables s).free = s.free ∧ (emptyTables s).slc = s.slc
      ∧ (emptyTables s).bck = s.bck ∧ (emptyTables s).streams = s.streams ∧ (emptyTables s).rpb = s.rpb
      ∧ (emptyTables s).bpc = s.bpc ∧ (emptyTables s).bxp.power = s.bxp.power
      ∧ (emptyTables s).bxp.returnStandby = s.bxp.returnStandby ∧ (emptyTables s).bxp.cause = s.bxp.cause
      ∧ (emptyTables s).bxp.failures = s.bxp.failures ∧ (emptyTables s).bxp.phase = s.bxp.phase
      ∧ (emptyTables s).bxp.timer = s.bxp.timer ∧ (emptyTables s).bxp.sleepAcked = s.bxp.sleepAcked
      ∧ (emptyTables s).bxp.lastFailure = s.bxp.lastFailure ∧ (emptyTables s).nwu = s.nwu
      ∧ (emptyTables s).tiu = s.tiu := by
  unfold emptyTables
  simp

@[simp] theorem initTables_frame (s : State) :
    (initTables s).pending = s.pending ∧ (initTables s).free = s.free ∧ (initTables s).slc = s.slc
      ∧ (initTables s).bck = s.bck ∧ (initTables s).streams = s.streams ∧ (initTables s).rpb = s.rpb
      ∧ (initTables s).bpc = s.bpc ∧ (initTables s).bxp.power = s.bxp.power
      ∧ (initTables s).bxp.returnStandby = s.bxp.returnStandby ∧ (initTables s).bxp.cause = s.bxp.cause
      ∧ (initTables s).bxp.failures = s.bxp.failures ∧ (initTables s).bxp.phase = s.bxp.phase
      ∧ (initTables s).bxp.timer = s.bxp.timer ∧ (initTables s).bxp.sleepAcked = s.bxp.sleepAcked
      ∧ (initTables s).bxp.lastFailure = s.bxp.lastFailure ∧ (initTables s).nwu = s.nwu := by
  unfold initTables
  simp

@[simp] theorem startExport_frame (s : State) :
    (startExport s).pending = s.pending ∧ (startExport s).free = s.free ∧ (startExport s).slc = s.slc
      ∧ (startExport s).bck = s.bck ∧ (startExport s).clients = s.clients ∧ (startExport s).streams = s.streams
      ∧ (startExport s).chunks = s.chunks ∧ (startExport s).oct = s.oct ∧ (startExport s).rtu.orders = s.rtu.orders
      ∧ (startExport s).rtu.current = s.rtu.current ∧ (startExport s).rtu.nested = s.rtu.nested
      ∧ (startExport s).rtu.release = s.rtu.release ∧ (startExport s).rtu.deferred = s.rtu.deferred
      ∧ (startExport s).rtu.reserved = s.rtu.reserved ∧ (startExport s).rtu.lastBatch = s.rtu.lastBatch
      ∧ (startExport s).grants = s.grants ∧ (startExport s).rpb = s.rpb ∧ (startExport s).bpc = s.bpc
      ∧ (startExport s).bxp = s.bxp ∧ (startExport s).nwu = s.nwu := by
  unfold startExport
  simp

@[simp] theorem endExport_frame (s : State) :
    (endExport s).pending = s.pending ∧ (endExport s).free = s.free ∧ (endExport s).slc = s.slc
      ∧ (endExport s).bck = s.bck ∧ (endExport s).clients = s.clients ∧ (endExport s).streams = s.streams
      ∧ (endExport s).chunks = s.chunks ∧ (endExport s).oct = s.oct ∧ (endExport s).rtu.orders = s.rtu.orders
      ∧ (endExport s).rtu.reserved = s.rtu.reserved ∧ (endExport s).rtu.lastBatch = s.rtu.lastBatch
      ∧ (endExport s).grants = s.grants ∧ (endExport s).rpb = s.rpb ∧ (endExport s).bpc = s.bpc
      ∧ (endExport s).bxp = s.bxp ∧ (endExport s).nwu = s.nwu ∧ (endExport s).tiu.load = s.tiu.load
      ∧ (endExport s).tiu.section_ = s.tiu.section_ ∧ (endExport s).tiu.moved = s.tiu.moved
      ∧ (endExport s).tiu.total = s.tiu.total ∧ (endExport s).tiu.settingsCopy = s.tiu.settingsCopy
      ∧ (endExport s).tiu.lastBatch = s.tiu.lastBatch ∧ (endExport s).tiu.cursor = s.tiu.cursor := by
  unfold endExport
  simp

@[simp] theorem exportBatch_frame (count : Nat) (s : State) :
    (exportBatch count s).pending = s.pending ∧ (exportBatch count s).free = s.free
      ∧ (exportBatch count s).slc.settings = s.slc.settings ∧ (exportBatch count s).slc.enables = s.slc.enables
      ∧ (exportBatch count s).slc.places = s.slc.places ∧ (exportBatch count s).slc.link = s.slc.link
      ∧ (exportBatch count s).slc.acked = s.slc.acked ∧ (exportBatch count s).slc.receiver = s.slc.receiver
      ∧ (exportBatch count s).slc.startCause = s.slc.startCause
      ∧ (exportBatch count s).slc.linkErrors = s.slc.linkErrors ∧ (exportBatch count s).slc.breaks = s.slc.breaks
      ∧ (exportBatch count s).slc.outgoing = s.slc.outgoing ∧ (exportBatch count s).slc.sending = s.slc.sending
      ∧ (exportBatch count s).slc.deferred = s.slc.deferred ∧ (exportBatch count s).slc.sleepReq = s.slc.sleepReq
      ∧ (exportBatch count s).slc.owed = s.slc.owed ∧ (exportBatch count s).slc.wakeOut = s.slc.wakeOut
      ∧ (exportBatch count s).bck = s.bck ∧ (exportBatch count s).clients = s.clients
      ∧ (exportBatch count s).streams = s.streams ∧ (exportBatch count s).chunks = s.chunks
      ∧ (exportBatch count s).oct = s.oct ∧ (exportBatch count s).rtu.orders = s.rtu.orders
      ∧ (exportBatch count s).rtu.reserved = s.rtu.reserved ∧ (exportBatch count s).rtu.lastBatch = s.rtu.lastBatch
      ∧ (exportBatch count s).grants = s.grants ∧ (exportBatch count s).rpb = s.rpb
      ∧ (exportBatch count s).bpc = s.bpc ∧ (exportBatch count s).bxp = s.bxp ∧ (exportBatch count s).nwu = s.nwu
      ∧ (exportBatch count s).tiu.load = s.tiu.load ∧ (exportBatch count s).tiu.total = s.tiu.total
      ∧ (exportBatch count s).tiu.settingsCopy = s.tiu.settingsCopy ∧ (exportBatch count s).tiu.cursor = s.tiu.cursor := by
  generalize ht : exportBatch count s = t
  unfold exportBatch at ht
  (try dsimp only at ht)
  (repeat' split at ht) <;> subst ht <;> simp_all

@[simp] theorem imageNextTaken_frame (r : Request) (s : State) :
    (imageNextTaken r s).pending = s.pending ∧ (imageNextTaken r s).slc.settings = s.slc.settings
      ∧ (imageNextTaken r s).slc.enables = s.slc.enables ∧ (imageNextTaken r s).slc.link = s.slc.link
      ∧ (imageNextTaken r s).slc.acked = s.slc.acked ∧ (imageNextTaken r s).slc.receiver = s.slc.receiver
      ∧ (imageNextTaken r s).slc.startCause = s.slc.startCause
      ∧ (imageNextTaken r s).slc.linkErrors = s.slc.linkErrors ∧ (imageNextTaken r s).slc.breaks = s.slc.breaks
      ∧ (imageNextTaken r s).slc.sending = s.slc.sending ∧ (imageNextTaken r s).slc.deferred = s.slc.deferred
      ∧ (imageNextTaken r s).slc.sleepReq = s.slc.sleepReq ∧ (imageNextTaken r s).slc.owed = s.slc.owed
      ∧ (imageNextTaken r s).slc.wakeOut = s.slc.wakeOut ∧ (imageNextTaken r s).bck = s.bck
      ∧ (imageNextTaken r s).clients = s.clients ∧ (imageNextTaken r s).streams = s.streams
      ∧ (imageNextTaken r s).chunks = s.chunks ∧ (imageNextTaken r s).oct = s.oct
      ∧ (imageNextTaken r s).rtu.orders = s.rtu.orders ∧ (imageNextTaken r s).rtu.reserved = s.rtu.reserved
      ∧ (imageNextTaken r s).rtu.lastBatch = s.rtu.lastBatch ∧ (imageNextTaken r s).grants = s.grants
      ∧ (imageNextTaken r s).rpb = s.rpb ∧ (imageNextTaken r s).bpc = s.bpc ∧ (imageNextTaken r s).bxp = s.bxp
      ∧ (imageNextTaken r s).nwu = s.nwu ∧ (imageNextTaken r s).tiu.load = s.tiu.load
      ∧ (imageNextTaken r s).tiu.total = s.tiu.total ∧ (imageNextTaken r s).tiu.settingsCopy = s.tiu.settingsCopy
      ∧ (imageNextTaken r s).tiu.cursor = s.tiu.cursor := by
  generalize ht : imageNextTaken r s = t
  unfold imageNextTaken at ht
  (try dsimp only at ht)
  (repeat' split at ht) <;> subst ht <;> simp_all

@[simp] theorem imageAgainTaken_frame (r : Request) (s : State) :
    (imageAgainTaken r s).pending = s.pending ∧ (imageAgainTaken r s).slc.settings = s.slc.settings
      ∧ (imageAgainTaken r s).slc.latched = s.slc.latched ∧ (imageAgainTaken r s).slc.enables = s.slc.enables
      ∧ (imageAgainTaken r s).slc.link = s.slc.link ∧ (imageAgainTaken r s).slc.acked = s.slc.acked
      ∧ (imageAgainTaken r s).slc.receiver = s.slc.receiver ∧ (imageAgainTaken r s).slc.startCause = s.slc.startCause
      ∧ (imageAgainTaken r s).slc.linkErrors = s.slc.linkErrors ∧ (imageAgainTaken r s).slc.breaks = s.slc.breaks
      ∧ (imageAgainTaken r s).slc.sending = s.slc.sending ∧ (imageAgainTaken r s).slc.deferred = s.slc.deferred
      ∧ (imageAgainTaken r s).slc.sleepReq = s.slc.sleepReq ∧ (imageAgainTaken r s).slc.owed = s.slc.owed
      ∧ (imageAgainTaken r s).slc.wakeOut = s.slc.wakeOut ∧ (imageAgainTaken r s).bck = s.bck
      ∧ (imageAgainTaken r s).clients = s.clients ∧ (imageAgainTaken r s).streams = s.streams
      ∧ (imageAgainTaken r s).chunks = s.chunks ∧ (imageAgainTaken r s).oct = s.oct
      ∧ (imageAgainTaken r s).rtu = s.rtu ∧ (imageAgainTaken r s).grants = s.grants
      ∧ (imageAgainTaken r s).rpb = s.rpb ∧ (imageAgainTaken r s).bpc = s.bpc ∧ (imageAgainTaken r s).bxp = s.bxp
      ∧ (imageAgainTaken r s).nwu = s.nwu ∧ (imageAgainTaken r s).tiu = s.tiu := by
  unfold imageAgainTaken
  (repeat' split) <;> simp_all

@[simp] theorem failImport_frame (s : State) :
    (failImport s).pending = s.pending ∧ (failImport s).free = s.free ∧ (failImport s).slc = s.slc
      ∧ (failImport s).bck = s.bck ∧ (failImport s).clients = s.clients ∧ (failImport s).streams = s.streams
      ∧ (failImport s).chunks = s.chunks ∧ (failImport s).oct = s.oct ∧ (failImport s).rtu = s.rtu
      ∧ (failImport s).grants = s.grants ∧ (failImport s).rpb = s.rpb ∧ (failImport s).bpc = s.bpc
      ∧ (failImport s).bxp = s.bxp ∧ (failImport s).nwu = s.nwu ∧ (failImport s).tiu.exporting = s.tiu.exporting
      ∧ (failImport s).tiu.section_ = s.tiu.section_ ∧ (failImport s).tiu.moved = s.tiu.moved
      ∧ (failImport s).tiu.total = s.tiu.total ∧ (failImport s).tiu.settingsCopy = s.tiu.settingsCopy
      ∧ (failImport s).tiu.lastBatch = s.tiu.lastBatch ∧ (failImport s).tiu.cursor = s.tiu.cursor := by
  unfold failImport
  simp

@[simp] theorem imageCancelTaken_frame (r : Request) (s : State) :
    (imageCancelTaken r s).pending = s.pending ∧ (imageCancelTaken r s).free = s.free
      ∧ (imageCancelTaken r s).slc.settings = s.slc.settings ∧ (imageCancelTaken r s).slc.latched = s.slc.latched
      ∧ (imageCancelTaken r s).slc.enables = s.slc.enables ∧ (imageCancelTaken r s).slc.link = s.slc.link
      ∧ (imageCancelTaken r s).slc.acked = s.slc.acked ∧ (imageCancelTaken r s).slc.receiver = s.slc.receiver
      ∧ (imageCancelTaken r s).slc.startCause = s.slc.startCause
      ∧ (imageCancelTaken r s).slc.linkErrors = s.slc.linkErrors ∧ (imageCancelTaken r s).slc.breaks = s.slc.breaks
      ∧ (imageCancelTaken r s).slc.sending = s.slc.sending ∧ (imageCancelTaken r s).slc.deferred = s.slc.deferred
      ∧ (imageCancelTaken r s).slc.sleepReq = s.slc.sleepReq ∧ (imageCancelTaken r s).slc.owed = s.slc.owed
      ∧ (imageCancelTaken r s).slc.wakeOut = s.slc.wakeOut ∧ (imageCancelTaken r s).bck = s.bck
      ∧ (imageCancelTaken r s).clients = s.clients ∧ (imageCancelTaken r s).streams = s.streams
      ∧ (imageCancelTaken r s).chunks = s.chunks ∧ (imageCancelTaken r s).oct = s.oct
      ∧ (imageCancelTaken r s).rtu.orders = s.rtu.orders ∧ (imageCancelTaken r s).rtu.reserved = s.rtu.reserved
      ∧ (imageCancelTaken r s).rtu.lastBatch = s.rtu.lastBatch ∧ (imageCancelTaken r s).grants = s.grants
      ∧ (imageCancelTaken r s).rpb = s.rpb ∧ (imageCancelTaken r s).bpc = s.bpc ∧ (imageCancelTaken r s).bxp = s.bxp
      ∧ (imageCancelTaken r s).nwu = s.nwu ∧ (imageCancelTaken r s).tiu.section_ = s.tiu.section_
      ∧ (imageCancelTaken r s).tiu.moved = s.tiu.moved ∧ (imageCancelTaken r s).tiu.total = s.tiu.total
      ∧ (imageCancelTaken r s).tiu.settingsCopy = s.tiu.settingsCopy
      ∧ (imageCancelTaken r s).tiu.lastBatch = s.tiu.lastBatch ∧ (imageCancelTaken r s).tiu.cursor = s.tiu.cursor := by
  unfold imageCancelTaken
  (repeat' split) <;> simp_all

@[simp] theorem startImport_frame (s : State) :
    (startImport s).pending = s.pending ∧ (startImport s).free = s.free ∧ (startImport s).slc = s.slc
      ∧ (startImport s).bck = s.bck ∧ (startImport s).streams = s.streams ∧ (startImport s).rpb = s.rpb
      ∧ (startImport s).bpc = s.bpc ∧ (startImport s).bxp.power = s.bxp.power
      ∧ (startImport s).bxp.returnStandby = s.bxp.returnStandby ∧ (startImport s).bxp.cause = s.bxp.cause
      ∧ (startImport s).bxp.failures = s.bxp.failures ∧ (startImport s).bxp.phase = s.bxp.phase
      ∧ (startImport s).bxp.timer = s.bxp.timer ∧ (startImport s).bxp.sleepAcked = s.bxp.sleepAcked
      ∧ (startImport s).bxp.lastFailure = s.bxp.lastFailure ∧ (startImport s).nwu = s.nwu := by
  unfold startImport
  simp

/-- An image record that is written leaves these fields. -/
theorem applyRecord_frame (e : ImageEntry) (s t : State) (w : Nat) (h : Option (Nat × List Byte))
    (hr : applyRecord e s = .written t w h) :
    t.pending = s.pending ∧ t.free = s.free ∧ t.slc.latched = s.slc.latched ∧ t.slc.enables = s.slc.enables
      ∧ t.slc.places = s.slc.places ∧ t.slc.link = s.slc.link ∧ t.slc.acked = s.slc.acked
      ∧ t.slc.receiver = s.slc.receiver ∧ t.slc.startCause = s.slc.startCause ∧ t.slc.linkErrors = s.slc.linkErrors
      ∧ t.slc.breaks = s.slc.breaks ∧ t.slc.outgoing = s.slc.outgoing ∧ t.slc.sending = s.slc.sending
      ∧ t.slc.deferred = s.slc.deferred ∧ t.slc.sleepReq = s.slc.sleepReq ∧ t.slc.owed = s.slc.owed
      ∧ t.slc.wakeOut = s.slc.wakeOut ∧ t.bck = s.bck ∧ t.streams = s.streams ∧ t.rtu.current = s.rtu.current
      ∧ t.rtu.nested = s.rtu.nested ∧ t.rtu.walk = s.rtu.walk ∧ t.rtu.reserved = s.rtu.reserved
      ∧ t.rtu.lastBatch = s.rtu.lastBatch ∧ t.rpb = s.rpb ∧ t.bxp = s.bxp ∧ t.nwu = s.nwu ∧ t.tiu.load = s.tiu.load
      ∧ t.tiu.exporting = s.tiu.exporting := by
  unfold applyRecord applySettings applyClient applyClientPart applyFilterHead applyFilterMask applyColl applyMembers
    applyObject applyRefs appendRefs applyChunk applyGrant applyOrder applyRelease applyDeferred applyTrailer
    Applied.when at hr
  dsimp only at hr
  (repeat' split at hr) <;> first | contradiction | (injection hr with h1 h2 h3; subst h1; simp)

@[simp] theorem putEntry_frame (bytes : List Byte) (s : State) :
    (putEntry bytes s).2.pending = s.pending ∧ (putEntry bytes s).2.free = s.free
      ∧ (putEntry bytes s).2.slc.latched = s.slc.latched ∧ (putEntry bytes s).2.slc.enables = s.slc.enables
      ∧ (putEntry bytes s).2.slc.places = s.slc.places ∧ (putEntry bytes s).2.slc.link = s.slc.link
      ∧ (putEntry bytes s).2.slc.acked = s.slc.acked ∧ (putEntry bytes s).2.slc.receiver = s.slc.receiver
      ∧ (putEntry bytes s).2.slc.startCause = s.slc.startCause
      ∧ (putEntry bytes s).2.slc.linkErrors = s.slc.linkErrors ∧ (putEntry bytes s).2.slc.breaks = s.slc.breaks
      ∧ (putEntry bytes s).2.slc.outgoing = s.slc.outgoing ∧ (putEntry bytes s).2.slc.sending = s.slc.sending
      ∧ (putEntry bytes s).2.slc.deferred = s.slc.deferred ∧ (putEntry bytes s).2.slc.sleepReq = s.slc.sleepReq
      ∧ (putEntry bytes s).2.slc.owed = s.slc.owed ∧ (putEntry bytes s).2.slc.wakeOut = s.slc.wakeOut
      ∧ (putEntry bytes s).2.bck = s.bck ∧ (putEntry bytes s).2.streams = s.streams
      ∧ (putEntry bytes s).2.rtu.current = s.rtu.current ∧ (putEntry bytes s).2.rtu.nested = s.rtu.nested
      ∧ (putEntry bytes s).2.rtu.walk = s.rtu.walk ∧ (putEntry bytes s).2.rtu.reserved = s.rtu.reserved
      ∧ (putEntry bytes s).2.rtu.lastBatch = s.rtu.lastBatch ∧ (putEntry bytes s).2.rpb = s.rpb
      ∧ (putEntry bytes s).2.bxp = s.bxp ∧ (putEntry bytes s).2.nwu = s.nwu := by
  unfold putEntry
  dsimp only
  split
  · simp
  · split
    · simp
    · cases ha : applyRecord (ImageEntry.ofBytes bytes) s with
      | refused st => simp
      | written t w h =>
        have hf := applyRecord_frame _ _ _ _ _ ha
        simp_all

@[simp] theorem putEntries_frame (x0 : List (List Byte)) (x1 : List Status) (s : State) :
    (putEntries x0 x1 s).2.pending = s.pending ∧ (putEntries x0 x1 s).2.free = s.free
      ∧ (putEntries x0 x1 s).2.slc.latched = s.slc.latched ∧ (putEntries x0 x1 s).2.slc.enables = s.slc.enables
      ∧ (putEntries x0 x1 s).2.slc.places = s.slc.places ∧ (putEntries x0 x1 s).2.slc.link = s.slc.link
      ∧ (putEntries x0 x1 s).2.slc.acked = s.slc.acked ∧ (putEntries x0 x1 s).2.slc.receiver = s.slc.receiver
      ∧ (putEntries x0 x1 s).2.slc.startCause = s.slc.startCause
      ∧ (putEntries x0 x1 s).2.slc.linkErrors = s.slc.linkErrors ∧ (putEntries x0 x1 s).2.slc.breaks = s.slc.breaks
      ∧ (putEntries x0 x1 s).2.slc.outgoing = s.slc.outgoing ∧ (putEntries x0 x1 s).2.slc.sending = s.slc.sending
      ∧ (putEntries x0 x1 s).2.slc.deferred = s.slc.deferred ∧ (putEntries x0 x1 s).2.slc.sleepReq = s.slc.sleepReq
      ∧ (putEntries x0 x1 s).2.slc.owed = s.slc.owed ∧ (putEntries x0 x1 s).2.slc.wakeOut = s.slc.wakeOut
      ∧ (putEntries x0 x1 s).2.bck = s.bck ∧ (putEntries x0 x1 s).2.streams = s.streams
      ∧ (putEntries x0 x1 s).2.rtu.current = s.rtu.current ∧ (putEntries x0 x1 s).2.rtu.nested = s.rtu.nested
      ∧ (putEntries x0 x1 s).2.rtu.walk = s.rtu.walk ∧ (putEntries x0 x1 s).2.rtu.reserved = s.rtu.reserved
      ∧ (putEntries x0 x1 s).2.rtu.lastBatch = s.rtu.lastBatch ∧ (putEntries x0 x1 s).2.rpb = s.rpb
      ∧ (putEntries x0 x1 s).2.bxp = s.bxp ∧ (putEntries x0 x1 s).2.nwu = s.nwu := by
  induction x0 generalizing x1 s with
  | nil => simp [putEntries]
  | cons b bs ih =>
    simp only [putEntries]
    simp_all

@[simp] theorem failUnless_frame (whole : Bool) (s : State) :
    (failUnless whole s).pending = s.pending ∧ (failUnless whole s).free = s.free ∧ (failUnless whole s).slc = s.slc
      ∧ (failUnless whole s).bck = s.bck ∧ (failUnless whole s).clients = s.clients
      ∧ (failUnless whole s).streams = s.streams ∧ (failUnless whole s).chunks = s.chunks
      ∧ (failUnless whole s).oct = s.oct ∧ (failUnless whole s).rtu = s.rtu ∧ (failUnless whole s).grants = s.grants
      ∧ (failUnless whole s).rpb = s.rpb ∧ (failUnless whole s).bpc = s.bpc ∧ (failUnless whole s).bxp = s.bxp
      ∧ (failUnless whole s).nwu = s.nwu ∧ (failUnless whole s).tiu.exporting = s.tiu.exporting
      ∧ (failUnless whole s).tiu.section_ = s.tiu.section_ ∧ (failUnless whole s).tiu.moved = s.tiu.moved
      ∧ (failUnless whole s).tiu.total = s.tiu.total ∧ (failUnless whole s).tiu.settingsCopy = s.tiu.settingsCopy
      ∧ (failUnless whole s).tiu.lastBatch = s.tiu.lastBatch ∧ (failUnless whole s).tiu.cursor = s.tiu.cursor := by
  unfold failUnless
  (repeat' split) <;> simp_all

@[simp] theorem imagePutTaken_frame (r : Request) (s : State) :
    (imagePutTaken r s).pending = s.pending ∧ (imagePutTaken r s).free = s.free
      ∧ (imagePutTaken r s).slc.latched = s.slc.latched ∧ (imagePutTaken r s).slc.enables = s.slc.enables
      ∧ (imagePutTaken r s).slc.link = s.slc.link ∧ (imagePutTaken r s).slc.acked = s.slc.acked
      ∧ (imagePutTaken r s).slc.receiver = s.slc.receiver ∧ (imagePutTaken r s).slc.startCause = s.slc.startCause
      ∧ (imagePutTaken r s).slc.linkErrors = s.slc.linkErrors ∧ (imagePutTaken r s).slc.breaks = s.slc.breaks
      ∧ (imagePutTaken r s).slc.sending = s.slc.sending ∧ (imagePutTaken r s).slc.deferred = s.slc.deferred
      ∧ (imagePutTaken r s).slc.sleepReq = s.slc.sleepReq ∧ (imagePutTaken r s).slc.owed = s.slc.owed
      ∧ (imagePutTaken r s).slc.wakeOut = s.slc.wakeOut ∧ (imagePutTaken r s).bck = s.bck
      ∧ (imagePutTaken r s).streams = s.streams ∧ (imagePutTaken r s).rtu.current = s.rtu.current
      ∧ (imagePutTaken r s).rtu.nested = s.rtu.nested ∧ (imagePutTaken r s).rtu.walk = s.rtu.walk
      ∧ (imagePutTaken r s).rtu.reserved = s.rtu.reserved ∧ (imagePutTaken r s).rtu.lastBatch = s.rtu.lastBatch
      ∧ (imagePutTaken r s).rpb = s.rpb ∧ (imagePutTaken r s).bxp = s.bxp ∧ (imagePutTaken r s).nwu = s.nwu := by
  unfold imagePutTaken
  (try dsimp only)
  simp_all

@[simp] theorem setImportEpoch_frame (s : State) :
    (setImportEpoch s).pending = s.pending ∧ (setImportEpoch s).free = s.free ∧ (setImportEpoch s).slc = s.slc
      ∧ (setImportEpoch s).bck = s.bck ∧ (setImportEpoch s).clients = s.clients
      ∧ (setImportEpoch s).streams = s.streams ∧ (setImportEpoch s).chunks = s.chunks ∧ (setImportEpoch s).oct = s.oct
      ∧ (setImportEpoch s).rtu = s.rtu ∧ (setImportEpoch s).grants = s.grants
      ∧ (setImportEpoch s).rpb.plans = s.rpb.plans ∧ (setImportEpoch s).bpc = s.bpc ∧ (setImportEpoch s).bxp = s.bxp
      ∧ (setImportEpoch s).nwu = s.nwu ∧ (setImportEpoch s).tiu = s.tiu := by
  generalize ht : setImportEpoch s = t
  unfold setImportEpoch at ht
  (try dsimp only at ht)
  (repeat' split at ht) <;> subst ht <;> simp_all

@[simp] theorem finishImport_frame (s : State) :
    (finishImport s).pending = s.pending ∧ (finishImport s).free = s.free
      ∧ (finishImport s).slc.settings = s.slc.settings ∧ (finishImport s).slc.enables = s.slc.enables
      ∧ (finishImport s).slc.places = s.slc.places ∧ (finishImport s).slc.acked = s.slc.acked
      ∧ (finishImport s).slc.receiver = s.slc.receiver ∧ (finishImport s).slc.startCause = s.slc.startCause
      ∧ (finishImport s).slc.linkErrors = s.slc.linkErrors ∧ (finishImport s).slc.breaks = s.slc.breaks
      ∧ (finishImport s).slc.sending = s.slc.sending ∧ (finishImport s).slc.deferred = s.slc.deferred
      ∧ (finishImport s).bck = s.bck ∧ (finishImport s).streams = s.streams ∧ (finishImport s).chunks = s.chunks
      ∧ (finishImport s).oct = s.oct ∧ (finishImport s).rtu.orders = s.rtu.orders
      ∧ (finishImport s).rtu.reserved = s.rtu.reserved ∧ (finishImport s).rtu.lastBatch = s.rtu.lastBatch
      ∧ (finishImport s).grants = s.grants ∧ (finishImport s).rpb.plans = s.rpb.plans
      ∧ (finishImport s).bxp.sleepAcked = s.bxp.sleepAcked ∧ (finishImport s).nwu.transmit = s.nwu.transmit
      ∧ (finishImport s).nwu.onWire = s.nwu.onWire ∧ (finishImport s).nwu.templates = s.nwu.templates
      ∧ (finishImport s).tiu.exporting = s.tiu.exporting ∧ (finishImport s).tiu.section_ = s.tiu.section_
      ∧ (finishImport s).tiu.moved = s.tiu.moved ∧ (finishImport s).tiu.total = s.tiu.total
      ∧ (finishImport s).tiu.settingsCopy = s.tiu.settingsCopy ∧ (finishImport s).tiu.lastBatch = s.tiu.lastBatch
      ∧ (finishImport s).tiu.cursor = s.tiu.cursor := by
  unfold finishImport
  simp

@[simp] theorem imageEndTaken_frame (r : Request) (s : State) :
    (imageEndTaken r s).pending = s.pending ∧ (imageEndTaken r s).slc.settings = s.slc.settings
      ∧ (imageEndTaken r s).slc.enables = s.slc.enables ∧ (imageEndTaken r s).slc.acked = s.slc.acked
      ∧ (imageEndTaken r s).slc.receiver = s.slc.receiver ∧ (imageEndTaken r s).slc.startCause = s.slc.startCause
      ∧ (imageEndTaken r s).slc.linkErrors = s.slc.linkErrors ∧ (imageEndTaken r s).slc.breaks = s.slc.breaks
      ∧ (imageEndTaken r s).slc.sending = s.slc.sending ∧ (imageEndTaken r s).slc.deferred = s.slc.deferred
      ∧ (imageEndTaken r s).bck = s.bck ∧ (imageEndTaken r s).streams = s.streams
      ∧ (imageEndTaken r s).chunks = s.chunks ∧ (imageEndTaken r s).oct = s.oct
      ∧ (imageEndTaken r s).rtu.orders = s.rtu.orders ∧ (imageEndTaken r s).rtu.reserved = s.rtu.reserved
      ∧ (imageEndTaken r s).rtu.lastBatch = s.rtu.lastBatch ∧ (imageEndTaken r s).grants = s.grants
      ∧ (imageEndTaken r s).rpb.plans = s.rpb.plans ∧ (imageEndTaken r s).bxp.sleepAcked = s.bxp.sleepAcked
      ∧ (imageEndTaken r s).nwu.transmit = s.nwu.transmit ∧ (imageEndTaken r s).nwu.onWire = s.nwu.onWire
      ∧ (imageEndTaken r s).nwu.templates = s.nwu.templates ∧ (imageEndTaken r s).tiu.exporting = s.tiu.exporting
      ∧ (imageEndTaken r s).tiu.section_ = s.tiu.section_ ∧ (imageEndTaken r s).tiu.moved = s.tiu.moved
      ∧ (imageEndTaken r s).tiu.total = s.tiu.total ∧ (imageEndTaken r s).tiu.settingsCopy = s.tiu.settingsCopy
      ∧ (imageEndTaken r s).tiu.lastBatch = s.tiu.lastBatch ∧ (imageEndTaken r s).tiu.cursor = s.tiu.cursor := by
  unfold imageEndTaken
  (try dsimp only)
  (repeat' split) <;> simp_all

end Sys2Proof.Machine
end

