-- ==== Sys2Proof/WellFormed.lean ====
section
/-!
DEFINITION. Which commands the service link can bring. Bay, stream and plan numbers are in range by their types; what
is left to check is the length of what a packet carries (section 1.1, R3, R4).
-/

namespace Sys2Proof

/-- A payload of a long packet holds 1 to 16,384 bytes; a batch packet that breaks holds fewer bytes than it states. -/
def Instr.wellFormed : Instr → Bool
  | .packetComplete payload _ => decide (1 ≤ payload.length ∧ payload.length ≤ Config.maxPayload)
  | .batchComplete payload => decide (1 ≤ payload.length ∧ payload.length ≤ Config.maxPayload)
  | .batchBreak received => decide (received.length < Config.maxPayload)
  | _ => true

/-- The same as a proposition. -/
abbrev Instr.WellFormed (i : Instr) : Prop := i.wellFormed = true

end Sys2Proof
end

