-- ==== Sys2Proof/Laws/PerInstr.lean ====
section
/-!
SUPPORT. The family CarriesAtMostOnePayload, one lemma for each command: the bytes that a well-formed command brings
from the link fit in one packet (R2).
-/

namespace Sys2Proof.Laws.CarriesAtMostOnePayload

/-- The payload bytes that a command brings from the link. -/
def carried : Instr → List Byte
  | .packetComplete payload _ => payload
  | .batchComplete payload => payload
  | .batchBreak received => received
  | _ => []

/-- What a well-formed command brings fits in one packet. -/
def Statement (i : Instr) : Prop := i.WellFormed → (carried i).length ≤ Config.maxPayload

theorem powerOnReset (sense : Vector Bool 4) : Statement (.powerOnReset sense) := fun _ => Nat.zero_le _
theorem headerReceived (header : HeaderArrival) (underHold : Bool) : Statement (.headerReceived header underHold) := fun _ => Nat.zero_le _
theorem packetComplete (payload : List Byte) (check : Half) : Statement (.packetComplete payload check) := fun h => (of_decide_eq_true h).2
theorem packetBreak : Statement .packetBreak := fun _ => Nat.zero_le _
theorem batchComplete (payload : List Byte) : Statement (.batchComplete payload) := fun h => (of_decide_eq_true h).2
theorem batchBreak (received : List Byte) : Statement (.batchBreak received) := fun h => Nat.le_of_lt (of_decide_eq_true h)
theorem transmitPacket : Statement .transmitPacket := fun _ => Nat.zero_le _
theorem packetSendEnd : Statement .packetSendEnd := fun _ => Nat.zero_le _
theorem trainingStart : Statement .trainingStart := fun _ => Nat.zero_le _
theorem trainingComplete : Statement .trainingComplete := fun _ => Nat.zero_le _
theorem trainingLost : Statement .trainingLost := fun _ => Nat.zero_le _
theorem hostIdle : Statement .hostIdle := fun _ => Nat.zero_le _
theorem hostWake : Statement .hostWake := fun _ => Nat.zero_le _
theorem sleepAck : Statement .sleepAck := fun _ => Nat.zero_le _
theorem hostReset : Statement .hostReset := fun _ => Nat.zero_le _
theorem linkStatus : Statement .linkStatus := fun _ => Nat.zero_le _
theorem linkStatusClearCounts : Statement .linkStatusClearCounts := fun _ => Nat.zero_le _
theorem noticeRead : Statement .noticeRead := fun _ => Nat.zero_le _
theorem noticeClear : Statement .noticeClear := fun _ => Nat.zero_le _
theorem noticeMask : Statement .noticeMask := fun _ => Nat.zero_le _
theorem settingsRead : Statement .settingsRead := fun _ => Nat.zero_le _
theorem settingsWrite : Statement .settingsWrite := fun _ => Nat.zero_le _
theorem secondEvent (sense : Vector Bool 4) : Statement (.secondEvent sense) := fun _ => Nat.zero_le _
theorem clockSet : Statement .clockSet := fun _ => Nat.zero_le _
theorem clockRead : Statement .clockRead := fun _ => Nat.zero_le _
theorem clientSet : Statement .clientSet := fun _ => Nat.zero_le _
theorem clientRead : Statement .clientRead := fun _ => Nat.zero_le _
theorem clientRetire : Statement .clientRetire := fun _ => Nat.zero_le _
theorem scheduleSet : Statement .scheduleSet := fun _ => Nat.zero_le _
theorem streamOpen : Statement .streamOpen := fun _ => Nat.zero_le _
theorem streamData : Statement .streamData := fun _ => Nat.zero_le _
theorem streamCommit : Statement .streamCommit := fun _ => Nat.zero_le _
theorem streamFinish : Statement .streamFinish := fun _ => Nat.zero_le _
theorem streamCompletion (stream : Fin 8) : Statement (.streamCompletion stream) := fun _ => Nat.zero_le _
theorem streamAbort : Statement .streamAbort := fun _ => Nat.zero_le _
theorem streamRead : Statement .streamRead := fun _ => Nat.zero_le _
theorem chunkRead : Statement .chunkRead := fun _ => Nat.zero_le _
theorem collectionOpen : Statement .collectionOpen := fun _ => Nat.zero_le _
theorem collectionClose : Statement .collectionClose := fun _ => Nat.zero_le _
theorem memberAdd : Statement .memberAdd := fun _ => Nat.zero_le _
theorem memberRemove : Statement .memberRemove := fun _ => Nat.zero_le _
theorem collectionRead : Statement .collectionRead := fun _ => Nat.zero_le _
theorem membersFetch : Statement .membersFetch := fun _ => Nat.zero_le _
theorem objectRead : Statement .objectRead := fun _ => Nat.zero_le _
theorem retireCollection : Statement .retireCollection := fun _ => Nat.zero_le _
theorem walkOrderTake : Statement .walkOrderTake := fun _ => Nat.zero_le _
theorem memberRemoval : Statement .memberRemoval := fun _ => Nat.zero_le _
theorem referenceRemoval : Statement .referenceRemoval := fun _ => Nat.zero_le _
theorem objectFree : Statement .objectFree := fun _ => Nat.zero_le _
theorem collectionFree : Statement .collectionFree := fun _ => Nat.zero_le _
theorem releaseTake : Statement .releaseTake := fun _ => Nat.zero_le _
theorem releaseTakeLastBatch : Statement .releaseTakeLastBatch := fun _ => Nat.zero_le _
theorem deferredCheck : Statement .deferredCheck := fun _ => Nat.zero_le _
theorem walkStatus : Statement .walkStatus := fun _ => Nat.zero_le _
theorem grantSet : Statement .grantSet := fun _ => Nat.zero_le _
theorem grantClear : Statement .grantClear := fun _ => Nat.zero_le _
theorem grantRead : Statement .grantRead := fun _ => Nat.zero_le _
theorem grantReadDecision : Statement .grantReadDecision := fun _ => Nat.zero_le _
theorem planOpen : Statement .planOpen := fun _ => Nat.zero_le _
theorem scanStep (plan : Fin 16) : Statement (.scanStep plan) := fun _ => Nat.zero_le _
theorem planFetch : Statement .planFetch := fun _ => Nat.zero_le _
theorem planCheck : Statement .planCheck := fun _ => Nat.zero_le _
theorem planDone : Statement .planDone := fun _ => Nat.zero_le _
theorem bayHold : Statement .bayHold := fun _ => Nat.zero_le _
theorem bayRelease : Statement .bayRelease := fun _ => Nat.zero_le _
theorem bayStatus : Statement .bayStatus := fun _ => Nat.zero_le _
theorem spinUpStart : Statement .spinUpStart := fun _ => Nat.zero_le _
theorem spinUpExpiry (bay : Fin 4) : Statement (.spinUpExpiry bay) := fun _ => Nat.zero_le _
theorem idleTimerExpiry (bay : Fin 4) : Statement (.idleTimerExpiry bay) := fun _ => Nat.zero_le _
theorem spinDownExpiry (bay : Fin 4) : Statement (.spinDownExpiry bay) := fun _ => Nat.zero_le _
theorem presenceLoss (bay : Fin 4) : Statement (.presenceLoss bay) := fun _ => Nat.zero_le _
theorem presenceArrival (bay : Fin 4) : Statement (.presenceArrival bay) := fun _ => Nat.zero_le _
theorem standbyEnter : Statement .standbyEnter := fun _ => Nat.zero_le _
theorem standbyEntryComplete : Statement .standbyEntryComplete := fun _ => Nat.zero_le _
theorem handshakeTimerExpiry : Statement .handshakeTimerExpiry := fun _ => Nat.zero_le _
theorem returnPrior : Statement .returnPrior := fun _ => Nat.zero_le _
theorem powerStatus : Statement .powerStatus := fun _ => Nat.zero_le _
theorem wakeTimerExpiry : Statement .wakeTimerExpiry := fun _ => Nat.zero_le _
theorem pauseTimerExpiry : Statement .pauseTimerExpiry := fun _ => Nat.zero_le _
theorem buttonPress : Statement .buttonPress := fun _ => Nat.zero_le _
theorem frameReceived (frame : List Byte) (good : Bool) : Statement (.frameReceived frame good) := fun _ => Nat.zero_le _
theorem frameOut : Statement .frameOut := fun _ => Nat.zero_le _
theorem frameTransmitStart : Statement .frameTransmitStart := fun _ => Nat.zero_le _
theorem frameTransmitEnd : Statement .frameTransmitEnd := fun _ => Nat.zero_le _
theorem filterSet : Statement .filterSet := fun _ => Nat.zero_le _
theorem filterRead : Statement .filterRead := fun _ => Nat.zero_le _
theorem templateSet : Statement .templateSet := fun _ => Nat.zero_le _
theorem templateRead : Statement .templateRead := fun _ => Nat.zero_le _
theorem tablesInit : Statement .tablesInit := fun _ => Nat.zero_le _
theorem imageExport : Statement .imageExport := fun _ => Nat.zero_le _
theorem imageNext : Statement .imageNext := fun _ => Nat.zero_le _
theorem imageNextAgain : Statement .imageNextAgain := fun _ => Nat.zero_le _
theorem imageCancel : Statement .imageCancel := fun _ => Nat.zero_le _
theorem imageImport : Statement .imageImport := fun _ => Nat.zero_le _
theorem imagePut : Statement .imagePut := fun _ => Nat.zero_le _
theorem imageEnd : Statement .imageEnd := fun _ => Nat.zero_le _
theorem receiveLineQuiet : Statement .receiveLineQuiet := fun _ => Nat.zero_le _

end Sys2Proof.Laws.CarriesAtMostOnePayload
end

