-- ==== Sys2Proof/Laws/Table.lean ====
section
/-!
SUPPORT. Laws of record arrays: a read after a write, and the canonical form, which every write keeps.
-/

namespace Sys2Proof.Machine

variable {α : Type}

/-- The numbers of a rising list are rising in the library's sense. -/
theorem Table.sorted_iff (t : Table α) : Table.sorted t = true ↔ t.Pairwise (fun p q => p.1 < q.1) := by
  induction t with
  | nil => simp [Table.sorted]
  | cons p t ih =>
    cases t with
    | nil => simp [Table.sorted]
    | cons q t =>
      obtain ⟨n, v⟩ := p
      obtain ⟨m, w⟩ := q
      rw [Table.sorted, Bool.and_eq_true, ih, decide_eq_true_eq, List.pairwise_cons (a := (n, v))]
      constructor
      · rintro ⟨hnm, ht⟩
        refine ⟨fun x hx => ?_, ht⟩
        rcases List.mem_cons.1 hx with rfl | hx
        · exact hnm
        · exact lt_trans hnm ((List.pairwise_cons.1 ht).1 x hx)
      · rintro ⟨h, ht⟩
        exact ⟨h (m, w) (by simp), ht⟩

/-- Below the first number of a rising list stands the unused record. -/
theorem Table.read_eq_default (d : α) (t : Table α) (k : Nat) (h : ∀ p ∈ t, p.1 ≠ k) : Table.read d t k = d := by
  induction t with
  | nil => rfl
  | cons p t ih =>
    obtain ⟨n, v⟩ := p
    have hn : n ≠ k := h (n, v) (by simp)
    simp [Table.read, hn, ih fun q hq => h q (by simp [hq])]

/-- What an erased list holds: the list's own pairs but for number `k`. -/
theorem Table.mem_erase (t : Table α) (k : Nat) (hs : t.Pairwise (fun p q => p.1 < q.1)) (p : Nat × α) :
    p ∈ Table.erase t k ↔ p ∈ t ∧ p.1 ≠ k := by
  induction t with
  | nil => simp [Table.erase]
  | cons q t ih =>
    obtain ⟨n, v⟩ := q
    obtain ⟨hq, ht⟩ := List.pairwise_cons.1 hs
    by_cases hn : n = k
    · subst hn
      simp only [Table.erase, if_true, List.mem_cons]
      constructor
      · intro hp
        have := hq p hp
        exact ⟨.inr hp, by omega⟩
      · rintro ⟨rfl | hp, hne⟩
        · exact absurd rfl hne
        · exact hp
    · simp only [Table.erase, if_neg hn, List.mem_cons, ih ht]
      constructor
      · rintro (rfl | ⟨hp, hk⟩)
        · exact ⟨.inl rfl, hn⟩
        · exact ⟨.inr hp, hk⟩
      · rintro ⟨rfl | hp, hk⟩
        · exact .inl rfl
        · exact .inr ⟨hp, hk⟩

/-- What a list holds after an insertion: the new pair, and its own pairs of other numbers. -/
theorem Table.mem_insert (t : Table α) (k : Nat) (v : α) (hs : t.Pairwise (fun p q => p.1 < q.1)) (p : Nat × α) :
    p ∈ Table.insert t k v ↔ p = (k, v) ∨ (p ∈ t ∧ p.1 ≠ k) := by
  induction t with
  | nil => simp [Table.insert]
  | cons q t ih =>
    obtain ⟨n, w⟩ := q
    obtain ⟨hq, ht⟩ := List.pairwise_cons.1 hs
    unfold Table.insert
    split
    · rename_i hk
      simp only [List.mem_cons]
      constructor
      · rintro (rfl | rfl | hp)
        · exact .inl rfl
        · exact .inr ⟨.inl rfl, by simp; omega⟩
        · have := hq p hp
          exact .inr ⟨.inr hp, by simp at this; omega⟩
      · rintro (rfl | ⟨rfl | hp, -⟩) <;> simp_all
    · split
      · rename_i hk hn
        subst hn
        simp only [List.mem_cons]
        constructor
        · rintro (rfl | hp)
          · exact .inl rfl
          · have := hq p hp
            exact .inr ⟨.inr hp, by simp at this; omega⟩
        · rintro (rfl | ⟨rfl | hp, hne⟩)
          · exact .inl rfl
          · exact absurd rfl hne
          · exact .inr hp
      · rename_i hk hn
        simp only [List.mem_cons, ih ht]
        constructor
        · rintro (rfl | rfl | ⟨hp, hne⟩)
          · exact .inr ⟨.inl rfl, hn⟩
          · exact .inl rfl
          · exact .inr ⟨.inr hp, hne⟩
        · rintro (rfl | ⟨rfl | hp, hne⟩)
          · exact .inr (.inl rfl)
          · exact .inl rfl
          · exact .inr (.inr ⟨hp, hne⟩)

/-- An erasure keeps the list rising. -/
theorem Table.erase_pairwise (t : Table α) (k : Nat) (hs : t.Pairwise (fun p q => p.1 < q.1)) :
    (Table.erase t k).Pairwise (fun p q => p.1 < q.1) := by
  induction t with
  | nil => simp [Table.erase]
  | cons q t ih =>
    obtain ⟨n, v⟩ := q
    obtain ⟨hq, ht⟩ := List.pairwise_cons.1 hs
    unfold Table.erase
    split
    · exact ht
    · refine List.pairwise_cons.2 ⟨fun p hp => ?_, ih ht⟩
      exact hq p ((Table.mem_erase t k ht p).1 hp).1

/-- An insertion keeps the list rising. -/
theorem Table.insert_pairwise (t : Table α) (k : Nat) (v : α) (hs : t.Pairwise (fun p q => p.1 < q.1)) :
    (Table.insert t k v).Pairwise (fun p q => p.1 < q.1) := by
  induction t with
  | nil => simp [Table.insert]
  | cons q t ih =>
    obtain ⟨n, w⟩ := q
    obtain ⟨hq, ht⟩ := List.pairwise_cons.1 hs
    unfold Table.insert
    split
    · rename_i hk
      refine List.pairwise_cons.2 ⟨fun p hp => ?_, hs⟩
      rcases List.mem_cons.1 hp with rfl | hp
      · exact hk
      · exact lt_trans hk (hq p hp)
    · split
      · rename_i hk hn
        subst hn
        exact List.pairwise_cons.2 ⟨hq, ht⟩
      · rename_i hk hn
        refine List.pairwise_cons.2 ⟨fun p hp => ?_, ih ht⟩
        rcases (Table.mem_insert t k v ht p).1 hp with rfl | ⟨hp, -⟩
        · simp; omega
        · exact hq p hp

/-- The record read at a number that a rising list holds. -/
theorem Table.read_of_mem (d : α) (t : Table α) (hs : t.Pairwise (fun p q => p.1 < q.1)) (k : Nat) (v : α)
    (h : (k, v) ∈ t) : Table.read d t k = v := by
  induction t with
  | nil => simp at h
  | cons q t ih =>
    obtain ⟨n, w⟩ := q
    obtain ⟨hq, ht⟩ := List.pairwise_cons.1 hs
    rcases List.mem_cons.1 h with h | h
    · cases h; simp [Table.read]
    · have := hq _ h
      have hn : n ≠ k := by simp at this; omega
      simp [Table.read, hn, ih ht h]

/-- The canonical form of a record array: numbers strictly rising, no unused record listed. -/
abbrev Table.Canonical [DecidableEq α] (d : α) (t : Table α) : Prop :=
  Table.sorted t = true ∧ ∀ p ∈ t, p.2 ≠ d

/-- A write keeps the canonical form. -/
theorem Table.canonical_write [DecidableEq α] (d : α) (t : Table α) (k : Nat) (v : α) (h : Table.Canonical d t) :
    Table.Canonical d (Table.write d t k v) := by
  obtain ⟨hs, hd⟩ := h
  rw [Table.sorted_iff] at hs
  unfold Table.write
  split
  · refine ⟨(Table.sorted_iff _).2 (Table.erase_pairwise t k hs), fun p hp => ?_⟩
    exact hd p ((Table.mem_erase t k hs p).1 hp).1
  · rename_i hv
    refine ⟨(Table.sorted_iff _).2 (Table.insert_pairwise t k v hs), fun p hp => ?_⟩
    rcases (Table.mem_insert t k v hs p).1 hp with rfl | ⟨hp, -⟩
    · exact hv
    · exact hd p hp

/-- A selection of pairs keeps the canonical form. -/
theorem Table.canonical_filter [DecidableEq α] (d : α) (t : Table α) (f : Nat × α → Bool) (h : Table.Canonical d t) :
    Table.Canonical d (t.filter f) := by
  obtain ⟨hs, hd⟩ := h
  rw [Table.sorted_iff] at hs
  exact ⟨(Table.sorted_iff _).2 (hs.filter _), fun p hp => hd p (List.mem_filter.1 hp).1⟩

/-- A number written reads as what was written. -/
theorem Table.read_write_self [DecidableEq α] (d : α) (t : Table α) (k : Nat) (v : α) (hs : Table.sorted t = true) :
    Table.read d (Table.write d t k v) k = v := by
  rw [Table.sorted_iff] at hs
  unfold Table.write
  split
  · rename_i hv
    subst hv
    exact Table.read_eq_default _ _ _ fun p hp => ((Table.mem_erase t k hs p).1 hp).2
  · exact Table.read_of_mem d _ (Table.insert_pairwise t k v hs) k v ((Table.mem_insert t k v hs _).2 (.inl rfl))

/-- Every other number reads as before. -/
theorem Table.read_write_other [DecidableEq α] (d : α) (t : Table α) (k j : Nat) (v : α) (hs : Table.sorted t = true)
    (hj : j ≠ k) : Table.read d (Table.write d t k v) j = Table.read d t j := by
  rw [Table.sorted_iff] at hs
  by_cases hm : ∃ w, (j, w) ∈ t
  · obtain ⟨w, hw⟩ := hm
    rw [Table.read_of_mem d t hs j w hw]
    unfold Table.write
    split
    · exact Table.read_of_mem d _ (Table.erase_pairwise t k hs) j w ((Table.mem_erase t k hs _).2 ⟨hw, hj⟩)
    · exact Table.read_of_mem d _ (Table.insert_pairwise t k v hs) j w ((Table.mem_insert t k v hs _).2 (.inr ⟨hw, hj⟩))
  · have hn : ∀ p ∈ t, p.1 ≠ j := by
      rintro ⟨n, w⟩ hp rfl
      exact hm ⟨w, hp⟩
    rw [Table.read_eq_default d t j hn]
    refine Table.read_eq_default d _ j fun p hp => ?_
    unfold Table.write at hp
    split at hp
    · exact hn p ((Table.mem_erase t k hs p).1 hp).1
    · rcases (Table.mem_insert t k v hs p).1 hp with rfl | ⟨hp, -⟩
      · exact fun h => hj h.symm
      · exact hn p hp

/-- Two canonical arrays that read alike are equal. -/
theorem Table.canonical_ext [DecidableEq α] (d : α) (t u : Table α) (ht : Table.Canonical d t) (hu : Table.Canonical d u)
    (h : ∀ k, Table.read d t k = Table.read d u k) : t = u := by
  obtain ⟨hts, htd⟩ := ht
  obtain ⟨hus, hud⟩ := hu
  rw [Table.sorted_iff] at hts hus
  have key : ∀ (a b : Table α), a.Pairwise (fun p q => p.1 < q.1) → b.Pairwise (fun p q => p.1 < q.1) →
      (∀ p ∈ a, p.2 ≠ d) → (∀ k, Table.read d a k = Table.read d b k) → ∀ p ∈ a, p ∈ b := by
    rintro a b ha hb had hab ⟨n, v⟩ hp
    have h1 := hab n
    rw [Table.read_of_mem d a ha n v hp] at h1
    by_contra hc
    have hn : ∀ q ∈ b, q.1 ≠ n := by
      rintro ⟨m, w⟩ hq rfl
      rw [Table.read_of_mem d b hb m w hq] at h1
      subst h1
      exact hc hq
    rw [Table.read_eq_default d b n hn] at h1
    exact had _ hp h1
  have hl : ∀ {a : Table α}, a.Pairwise (fun p q => p.1 < q.1) → a.Nodup := fun ha =>
    ha.imp fun hpq hc => by subst hc; exact absurd hpq (lt_irrefl _)
  have hperm : t.Perm u := (List.perm_ext_iff_of_nodup (hl hts) (hl hus)).2 fun p =>
    ⟨key t u hts hus htd h p, key u t hus hts hud (fun k => (h k).symm) p⟩
  exact hperm.eq_of_pairwise (fun p q _ _ hpq hqp => absurd (lt_trans hpq hqp) (lt_irrefl _)) hts hus

/-! ### Without order -/

/-- What is inserted is read, in any list. -/
theorem Table.read_insert_self (d : α) (t : Table α) (k : Nat) (v : α) : Table.read d (Table.insert t k v) k = v := by
  induction t with
  | nil => simp [Table.insert, Table.read]
  | cons p t ih =>
    obtain ⟨n, w⟩ := p
    simp only [Table.insert]
    split
    · simp [Table.read]
    · split
      · simp [Table.read]
      · rename_i _ h; simp [Table.read, h, ih]

/-- The last of two insertions at one number stays. -/
theorem Table.insert_insert (t : Table α) (k : Nat) (v w : α) :
    Table.insert (Table.insert t k v) k w = Table.insert t k w := by
  induction t with
  | nil => simp [Table.insert]
  | cons p t ih =>
    obtain ⟨n, x⟩ := p
    by_cases h1 : k < n
    · simp [Table.insert, h1]
    · by_cases h2 : n = k
      · simp [Table.insert, h2]
      · simp [Table.insert, h1, h2, ih]

/-- A used record that is written is read, in any list. -/
theorem Table.read_write_used [DecidableEq α] (d : α) (t : Table α) (k : Nat) (v : α) (h : v ≠ d) :
    Table.read d (Table.write d t k v) k = v := by
  rw [Table.write, if_neg h, Table.read_insert_self]

/-- The last of two used records written at one number stays, in any list. -/
theorem Table.write_write_used [DecidableEq α] (d : α) (t : Table α) (k : Nat) (v w : α) (hv : v ≠ d) (hw : w ≠ d) :
    Table.write d (Table.write d t k v) k w = Table.write d t k w := by
  simp only [Table.write, if_neg hv, if_neg hw, Table.insert_insert]

/-! ### Small arrays -/

/-- The entry written reads as what was written. -/
@[simp] theorem slot_put_self {n : Nat} (d : α) (v : Vector α n) (i : Nat) (x : α) (h : i < n) :
    slot d (put v i x) i = x := by
  simp [slot, put, h]

/-- Every other entry reads as before. -/
theorem slot_put_other {n : Nat} (d : α) (v : Vector α n) (i j : Nat) (x : α) (h : j ≠ i) :
    slot d (put v i x) j = slot d v j := by
  simp [slot, put, Ne.symm h]

/-- A write outside the array writes nothing. -/
theorem put_outside {n : Nat} (v : Vector α n) (i : Nat) (x : α) (h : n ≤ i) : put v i x = v := by
  simp only [put]
  ext j hj
  rw [Vector.getElem_setIfInBounds]
  simp; omega

/-- An entry inside the array. -/
theorem slot_of_lt {n : Nat} (d : α) (v : Vector α n) (i : Nat) (h : i < n) : slot d v i = v[i] := by
  simp [slot, h]

/-- Outside the array stands the default. -/
theorem slot_outside {n : Nat} (d : α) (v : Vector α n) (i : Nat) (h : n ≤ i) : slot d v i = d := by
  simp [slot, h]

end Sys2Proof.Machine
end

