-- ==== Sys2Proof/Tests/Slice0.lean ====
section
/-!
SUPPORT. Tests: ill-formed commands, the worked values the manual gives, and for every statement with hypotheses a
concrete state and operands that meet them (`witness_…`, one conjunct for each clause that stands on its own).
-/

namespace Sys2Proof.Tests

open Sys2Proof Sys2Proof.Machine

set_option Elab.async false

/-! ### States and requests -/

/-- In RUN with four bays present and OFF, LOADED, the link ACTIVE and acknowledged, the clock set: nothing is pending. -/
def up : State :=
  let s := State.powerOn (Vector.replicate 4 true)
  { s with
    slc := { s.slc with link := .active, acked := true }
    bck := { boxTime := 600, clockSet := true }
    bxp := { s.bxp with power := .run, timer := none }
    nwu := { s.nwu with mode := .pass }
    tiu := { s.tiu with load := .loaded } }

/-- The request that waits in `asked`. -/
def req (k : Kind) (aux : Half) (body : Body) : Request := { slot := 0, kind := k, tag := 7#8, aux := aux, body := body }

/-- A state in which one request waits. -/
def asked (k : Kind) (aux : Half) (body : Body) (s : State) : State :=
  { s with slc.places :=
      [{ slot := 0, kind := k.code, tag := 7#8, aux := aux, length := 0, phase := .waiting body }] }

/-- Request `k` with this payload can be taken in state `s` and meets `p`. -/
abbrev Met (k : Kind) (aux : Half) (payload : List Byte) (s : State) (p : State → Request → Prop) : Prop :=
  Offered (asked k aux (.plain payload) s) k (req k aux (.plain payload))
    ∧ p (asked k aux (.plain payload) s) (req k aux (.plain payload))

/-- The status that command `i` answers the waiting request with. -/
def statusOf (i : Instr) (k : Kind) (aux : Half) (body : Body) (s : State) : Option Byte :=
  match exec i (asked k aux body s) with
  | .next t => t.slc.outgoing.findSome? fun p => match p with
    | .response _ _ _ (b :: _) => some b
    | _ => none
  | _ => none

/-- Request `k` can be taken at command `i` in state `s`, LOADED outside an export, and is answered `st`. -/
abbrev Said (i : Instr) (k : Kind) (aux : Half) (body : Body) (s : State) (st : Status) : Prop :=
  Offered (asked k aux body s) k (req k aux body) ∧ Changeable (asked k aux body s)
    ∧ statusOf i k aux body s = some st.code

/-- A place of the input buffer whose payload is arriving. -/
def arriving (kind : Byte) (length : Nat) : Place :=
  { slot := 3, kind := kind, tag := 7#8, aux := 0#16, length := length, phase := .receiving }

/-- An ACTIVE client record. -/
def person (role : Role) (g : Nat) : Client :=
  { Client.free g with active := true, role := role, address := [2, 0, 0, 0, 0, 1], charged := 10 }

/-! ### Ill-formed commands (WellFormed) -/

theorem test_empty_payload_is_ill_formed : ¬ (Instr.packetComplete [] 0#16).WellFormed := by decide
theorem test_long_payload_is_ill_formed :
    ¬ (Instr.packetComplete (List.replicate 16385 0#8) 0#16).WellFormed := by
  decide +kernel
theorem test_empty_batch_is_ill_formed : ¬ (Instr.batchComplete []).WellFormed := by decide
theorem test_long_batch_is_ill_formed : ¬ (Instr.batchComplete (List.replicate 16385 0#8)).WellFormed := by
  decide +kernel
theorem test_broken_batch_of_a_whole_payload_is_ill_formed :
    ¬ (Instr.batchBreak (List.replicate 16384 0#8)).WellFormed := by
  decide +kernel
theorem test_one_byte_payload_is_well_formed : (Instr.packetComplete [0x55#8] 0#16).WellFormed := by decide
theorem test_no_word_spells_a_command : decodeTableWord 8 0 = none ∧ up.withFetchWord 8 0 = up := by decide +kernel

/-! ### Worked values of the manual -/

/-- R1: the check over the nine characters 123456789 is 29B1h and stands as B1h, 29h. -/
theorem test_crc_of_nine_digits :
    crc16 ((List.range 9).map fun i => BitVec.ofNat 8 (0x31 + i)) = 0x29B1#16 ∧ checkBytes 0x29B1#16 = [0xB1#8, 0x29#8] := by
  decide +kernel

/-- R16, section 1.8.2: the codes of notices run group × 16 + number; bay 2 READY latches 24h, which WAKEs an IDLE link. -/
theorem test_bay_ready_wakes_an_idle_link :
    let s : State := { up with
      slc.link := .idle
      bpc.bays := put up.bpc.bays 2 { up.bay 2 with state := .spinningUp, timer := some (.spinUp, 0) } }
    ∃ t, exec (.spinUpExpiry 2) s = .next t ∧ topNotice t.pendingEnabled = 0x24#8 ∧ t.slc.link = .active
      ∧ t.slc.wakeOut = true ∧ t.slc.outgoing = [.attention] := ⟨_, rfl, by decide +kernel⟩

/-- Section 1.8.1: five 16-byte entries, the third with a bad check: two are kept. -/
theorem test_batch_cut_by_a_bad_entry :
    let e (b : Byte) := padTo 14 [b] ++ checkBytes (crc16 (padTo 14 [b]))
    batchBody 16 (e 1 ++ e 2 ++ List.replicate 16 0#8 ++ e 4 ++ e 5) true = .batch [e 1, e 2] false
      ∧ batchBody 16 ((e 1 ++ e 2 ++ e 3).take 40) false = .batch [e 1, e 2] false := by decide +kernel

/-- Table 2.3: the local minutes 886, 720 and 1,228. -/
theorem test_local_minutes :
    State.minute { up with bck.boxTime := 1000000, slc.settings.zone := 60 } = 886
      ∧ State.minute { up with bck.boxTime := 30, slc.settings.zone := -720 } = 720
      ∧ State.minute { up with bck.boxTime := 4294967295, slc.settings.zone := 840 } = 1228 := by decide +kernel

/-- Section 2.5.1: charges against 1 MiB, and the quota raised to ceil(1,500,000 / 1,048,576) = 2 MiB. -/
theorem test_quota_case :
    let s := up.setClient 3 { person .source 1 with quota := some 1, charged := 1000000 }
    s.chargeAnswer 3 1 40000 = .ok ∧ (charge 3 1 40000 s).chargeAnswer 3 1 32768 = .quota
      ∧ quotaTaken 1 1040000 = some 1 ∧ quotaTaken 1 1500000 = some 2 := by decide +kernel

/-- Section 3.4.1: 16,384 bytes with END need 3 places of the 64: admitted at 61 items, BACKLOG at 62. -/
theorem test_admission_bound :
    let s (n : Nat) := asked .streamData 0x100#16 (.plain (List.replicate 16384 0#8))
      (up.setStream 0 { Stream.closed with
        state := .open, lmin := 8192, ltgt := 32768, lmax := 131072
        outstanding := List.replicate n { ordinal := 0, kind := .pending 1 } })
    ((s 61).stream 0).admits 16384 true = true ∧ ((s 62).stream 0).admits 16384 true = false
      ∧ ((s 62).stream 0).admits 16384 false = true ∧ ((s 63).stream 0).admits 16384 false = false := by decide +kernel

/-- Section 3.5.1: clamping 10,000, 12,000, 40,000 gives 4,096, 8,192, 36,864. -/
theorem test_clamping_case :
    let x := Settings.clamped 0 { Settings.default with lmin := 10000, ltgt := 12000, lmax := 40000 }
    (x.lmin, x.ltgt, x.lmax) = (4096, 8192, 36864) := by decide +kernel

/-- Section 3.5.1: the window values 37,265, 35,289 and 16,384; the list holds w1 to w48 in order. -/
theorem test_window_values :
    windowT (List.replicate 48 0x41#8) = 37265
      ∧ windowT ((List.range' 1 48).map (BitVec.ofNat 8)) = 35289
      ∧ windowT ((List.range' 1 48).map fun i =>
          if i = 11 ∨ i = 12 ∨ i = 13 then 1#8 else if i = 16 then 2#8 else 0#8) = 16384 := by decide +kernel

/-- R56: the digest of the bytes 61h, 62h, 63h (the published value of SHA-256). -/
theorem test_digest_of_abc :
    ([0x61#8, 0x62#8, 0x63#8].foldl Running.push Running.start).finish
      = 0xba7816bf8f01cfea414140de5dae2223b00361a396177a9cb410ff61f20015ad#256 := by decide +kernel

/-- Section 5.9.1: MEMBER_ADD at a page edge with no free page left. -/
theorem test_album_at_a_page_edge :
    let o : Obj := { Obj.free with state := .complete, holders := 1 }
    let s : State := { up with oct :=
      { objects := [(77, { o with state := .retiring }), (500, o), (501, o), (502, o)]
        colls := [(12, { Coll.free with state := .open, kind := .album, members := List.range' 1000 127 })]
        freePages := 1 } }
    let t := memberEntries (memberAddEntry 12) ([500, 500, 501, 77, 502].map fun n => le 4 n ++ [0, 0, 0, 0]) [] s
    t.1 = [.ok, .already, .ok, .retiring, .ok] ∧ t.2.oct.freePages = 0 ∧ (t.2.coll 12).members.length = 130
      ∧ (t.2.object 500).holders = 2 := by decide +kernel

/-- Table 7.3: the windows 480 to 1,260 and 1,260 to 420, and the empty one. -/
theorem test_windows :
    [479, 480, 886, 1260].map (insideWindow 480 1260) = [false, true, true, false]
      ∧ [886, 1300, 100, 420].map (insideWindow 1260 420) = [false, true, true, false]
      ∧ insideWindow 600 600 600 = false := by decide

/-- Table 7.7: the six decisions at box time 1,000,000. -/
theorem test_decisions :
    let s : State := { up with
      bck.boxTime := 1000000
      slc.settings.zone := 60
      grants :=
        [(0, { live := true, grantee := .client 6, target := .allOf 2, mode := .allow, windowStart := 0, windowEnd := 0,
               expiry := none }),
         (1, { live := true, grantee := .client 6, target := .album 14, mode := .deny, windowStart := 0, windowEnd := 0,
               expiry := none }),
         (2, { live := true, grantee := .anyViewer, target := .album 12, mode := .inWindow, windowStart := 480,
               windowEnd := 1260, expiry := none }),
         (3, { live := true, grantee := .client 7, target := .album 12, mode := .outOfWindow, windowStart := 1380,
               windowEnd := 420, expiry := some 1000000 })] }
    s.decision 2 14 2 = { allowed := true, basis := .owner } ∧ s.decision 6 12 2 = { allowed := true, basis := .grant 0 2 }
      ∧ s.decision 6 14 2 = { allowed := false, basis := .grant 1 1 }
      ∧ s.decision 7 12 2 = { allowed := true, basis := .grant 2 3 }
      ∧ s.decision 7 14 2 = { allowed := false, basis := .noGrant }
      ∧ s.decision 3 12 2 = { allowed := true, basis := .grant 2 3 } := by decide +kernel

/-- Section 9.8.1: at time 12 bay 0 becomes READY, bay 2 starts and bay 3 stays QUEUED: the draw is 12. -/
theorem test_spin_up_queue_at_time_12 :
    let b : Bpc :=
      { bays := #v[{ Bay.atReset true with state := .ready, streamHolds := 1 },
          { Bay.atReset true with state := .spinningUp, streamHolds := 1, timer := some (.spinUp, 2) },
          { Bay.atReset true with state := .queued, streamHolds := 1 },
          { Bay.atReset true with state := .queued, streamHolds := 1 }]
        queue := [2, 3], force := false }
    let t := b.examine Settings.default
    b.totalDraw = 7 ∧ t.totalDraw = 12 ∧ t.queue = [3] ∧ (t.bay 2).state = .spinningUp ∧ (t.bay 3).state = .queued := by
  decide +kernel

/-- Table 10.3: the three schedule advances. -/
theorem test_schedule_advances :
    let closes (t next lead : Nat) : Option Nat × Nat :=
      let s := { up.setClient 1 { person .source 1 with
        schedule := some { period := 1440, nextDue := next, lead := lead } } with bck.boxTime := t }
      let x := (advanceSchedule 1 1 s).client 1
      (x.schedule.map (·.nextDue), x.missed)
    closes 1000000 900000 600 = (some 1072800, 1) ∧ closes 1000000 1050000 600 = (some 1136400, 0)
      ∧ closes 4294950000 4294900000 0 = (none, 0) := by decide +kernel


/-- R180: the published check of CRC-32 over the nine characters 123456789, CBF43926h, low byte first (assumption 22). -/
theorem test_frame_check_of_nine_digits :
    frameCheck ((List.range 9).map fun i => BitVec.ofNat 8 (0x31 + i)) = [0x26#8, 0x39#8, 0xF4#8, 0xCB#8] := by
  decide +kernel

/-- R191: a first image record of section code 0 is in order (none precedes it) and fails check 2: BAD_FIELD, not STATE. -/
theorem test_first_image_record_of_section_zero :
    (putEntry (imageRecord 0 0 0 []) { up with tiu.load := .loading }).1 = .badField
      ∧ (putEntry (imageRecord 0 1 0 []) { up with tiu.load := .loading }).1 = .state := by decide +kernel

/-- R163, Table 9.2: the power switch of bay 1 is on while it spins down, and off behind the expiry. -/
theorem test_spin_down_switches_a_bay_off :
    let s : State := { up with bpc.bays := put up.bpc.bays 1 { up.bay 1 with
      state := .spinningDown, timer := some (.spinDown, 0) } }
    ∃ t, exec (.spinDownExpiry 1) s = .next t ∧ s.bpc.switchOn 1 = true ∧ t.bpc.switchOn 1 = false ∧ (t.bay 1).state = .off :=
  ⟨_, rfl, by decide +kernel⟩

/-- Section 10.3, R12: a STANDBY_ENTER that the SLC answers RESET, before LINK_STATUS, and one too long, answered BAD_PACKET,
carry the power record: status, kind and 20 bytes, power state WAKING and wake cause POWER_ON among them. -/
theorem test_standby_enter_answered_by_the_link :
    let shown (s : State) (st : Byte) : Bool := match s.slc.outgoing with
      | [.response (some 0) 9#8 0#16 payload] => payload.length = 22 ∧ payload.take 5 = [st, 0x78#8, 3#8, 0#8, 0#8]
      | _ => false
    let s : State := { State.reset with slc := { State.reset.slc with link := .active } }
    let arrives (n : Nat) : State :=
      decideHeader (.whole (Vector.ofFn fun i => (headerBytes 0x78#8 9#8 0#16 n).getD i.val 0#8)) false s
    shown (arrives 0) 0x05#8 = true ∧ shown (arrives 16385) 0x01#8 = true ∧ (arrives 0).free = s.free + 1 := by
  decide +kernel

/-! ### Witnesses: the link -/

/-- A state with a notice pending. -/
def risen : State := { up with slc.latched := 1#11 }

theorem witness_StepTakesTheFrontCommand :
    ({ up with pending := [.hostIdle, .buttonPress] } : State).pending = .hostIdle :: [.buttonPress] ∧ up.pending = [] := by
  decide +kernel

theorem witness_EndOfStepAtTheLink :
    (up.pendingEnabled = 0#11 ∧ risen.pendingEnabled ≠ 0#11 ∧ risen.slc.link = .active)
      ∧ ({ risen with slc.link := .idle } : State).pendingEnabled ≠ 0#11
      ∧ ({ risen with slc.link := .sleep } : State).pendingEnabled ≠ 0#11
      ∧ (let t := { risen with slc := { risen.slc with link := .idle, owed := true, outgoing := [.attention] } }
         ¬ (risen.pendingEnabled = 0#11 ∧ t.pendingEnabled ≠ 0#11) ∧ t.slc.link = .idle ∧ t.slc.outgoing ≠ []) := by
  decide +kernel

theorem witness_RoutingOfACompletePacket :
    (∀ k ∈ [0x78, 0x79, 0x22, 0x95, 0x77, 0x7A], (arriving (BitVec.ofNat 8 k) 2).kind = BitVec.ofNat 8 k)
      ∧ 0x77#8 ∉ [0x22#8, 0x42#8, 0x43#8, 0x58#8, 0x78#8, 0x79#8, 0x95#8]
      ∧ 0x7A#8 ∉ [0x22#8, 0x42#8, 0x43#8, 0x58#8, 0x78#8, 0x79#8, 0x95#8]
      ∧ Kind.ofCode 0x07#8 = none ∧ Kind.ofCode 0x01#8 = some .linkStatus ∧ Kind.ofCode 0x96#8 = some .imageEnd
      ∧ up.slc.acked = true ∧ State.reset.slc.acked = false
      ∧ (req .grantSet 0#16 (.batch [] true)).kind ∈ [Kind.streamCommit, .memberAdd, .memberRemove, .grantSet, .imagePut]
      ∧ (req .clockRead 0#16 (.plain [])).kind ∉ [Kind.streamCommit, .memberAdd, .memberRemove, .grantSet, .imagePut]
      ∧ (asked .clockRead 0#16 (.plain []) up).slc.offered .bck = some (req .clockRead 0#16 (.plain [])) := by
  decide +kernel

/-- The link IDLE with an ATTENTION owed. -/
def resting : State := { risen with slc := { risen.slc with link := .idle, owed := true } }

theorem witness_HeaderReception :
    (resting.slc.receiver = .quiet ∧ resting.slc.link = .idle ∧ resting.pendingEnabled ≠ 0#11 ∧ resting.slc.linkErrors ≤ 65535
        ∧ resting.slc.places.length < 8)
      ∧ (State.reset.slc.link = .down ∧ ({ up with slc.receiver := .discarding } : State).slc.receiver = .discarding)
      ∧ (up.slc.receiver = .quiet ∧ up.slc.link = .active ∧ up.slc.linkErrors ≤ 65535 ∧ up.slc.places.length < 8)
      ∧ (({ up with slc.linkErrors := 65535 } : State).slc.linkErrors ≤ 65535
          ∧ 8 ≤ ({ up with slc.places := List.replicate 8 (arriving 1 0) } : State).slc.places.length
          ∧ ({ up with slc.places := List.replicate 7 (arriving 1 0) } : State).slc.places.length < 8)
      ∧ field (Vector.replicate 8 0#8).toList 6 2 ≠ (crc16 ((Vector.replicate 8 0#8).toList.take 6)).toNat
      ∧ (∀ n ∈ [0, 1, 16384, 16385, 65535],
          (Vector.ofFn (n := 8) fun i => (headerBytes 0x02#8 7#8 0#16 n).getD i.val 0#8).toList = headerBytes 0x02#8 7#8 0#16 n) := by decide +kernel

theorem witness_PacketReception :
    let s (kind : Byte) : State := { up with slc := { up.slc with receiver := .payload 3, places := [arriving kind 2] } }
    (∀ k ∈ [0x07, 0x04], let kind := BitVec.ofNat 8 k
        (s kind).slc.receiver = .payload 3 ∧ (s kind).slc.place 3 = some (arriving kind 2) ∧ entrySizeOf kind = none
          ∧ (s kind).slc.link = .active ∧ [0#8, 0#8].length = (arriving kind 2).length ∧ (s kind).slc.breaks ≤ 65535)
      ∧ Kind.ofCode 0x07#8 = none ∧ (Kind.ofCode 0x04#8).isSome
      ∧ crc16 [0#8, 0#8] ≠ 0#16 ∧ crc16 [0#8, 0#8] = 0x1D0F#16 := by decide +kernel

theorem witness_BatchReception :
    let s (n : Nat) : State := { up with slc := { up.slc with receiver := .payload 3, places := [arriving 0x42#8 n] } }
    let b := List.replicate 6 1#8
    entrySizeOf 0x42#8 = some 8 ∧ b.length = 8 - 2
      ∧ (∀ n ∈ [8, 16], (s n).slc.receiver = .payload 3 ∧ (s n).slc.place 3 = some (arriving 0x42#8 n))
      ∧ ([] : List Byte).length < 8 ∧ (b ++ checkBytes (crc16 b) ++ []).length = (arriving 0x42#8 8).length
      ∧ field (List.replicate 8 0#8) 6 2 ≠ (crc16 ((List.replicate 8 0#8).take 6)).toNat
      ∧ (b ++ checkBytes (crc16 b) ++ List.replicate 8 0#8).length = (arriving 0x42#8 16).length
      ∧ (b ++ checkBytes (crc16 b) ++ [0#8]).length < (arriving 0x42#8 16).length := by decide +kernel

theorem witness_PacketTransmission :
    let s : State := { up with slc.outgoing := [.attention], nwu.receive := [{ lost := false, bytes := [1#8] }] }
    (s.slc.sending = none ∧ s.slc.link = .active ∧ s.slc.outgoing = .attention :: [])
      ∧ (up.slc.outgoing = [] ∧ s.nwu.receive = { lost := false, bytes := [1#8] } :: [] ∧ up.nwu.receive = [])
      ∧ (∀ p ∈ [OutPacket.response (some 0) 7#8 0#16 [0#8], .response none 7#8 0#16 [0#8], .attention, .frameIn true [1#8]],
          ({ s with slc.sending := some p } : State).slc.sending = some p)
      ∧ (resting.slc.sending = none ∧ resting.slc.link = .idle ∧ resting.slc.owed = true ∧ resting.pendingEnabled ≠ 0#11
          ∧ resting.slc.outgoing = [] ∧ resting.nwu.receive = []
          ∧ ({ resting with slc.outgoing := [.attention] } : State).slc.outgoing ≠ []
          ∧ ({ up with slc.link := .idle, nwu.receive := [{ lost := true, bytes := [] }] } : State).slc.owed = false)
      ∧ State.reset.slc.link = .down := by decide +kernel

theorem witness_PacketBytesReadBack : ([] : List Byte).length < 65536 ∧ (List.replicate 16384 1#8).length < 65536 := by
  decide +kernel

theorem witness_TrainingWakeAndEntryToRun :
    (State.reset.slc.link = .down ∧ State.reset.bxp.hostPowered = true)
      ∧ (let s : State := { State.reset with slc.link := .training }
         s.slc.link = .training ∧ s.bxp.power = .waking ∧ s.bxp.phase = .powered ∧ s.pendingEnabled ≠ 0#11)
      ∧ (let s : State := { up with slc.link := .training }
         s.slc.link = .training ∧ ¬ (s.bxp.power = .waking ∧ s.bxp.phase = .powered) ∧ s.pendingEnabled = 0#11)
      ∧ up.slc.link = .active ∧ resting.slc.link = .idle
      ∧ (let s : State := { up with slc.link := .down, bxp.power := .standby }
         s.bxp.hostPowered = false ∧ s.slc.link ≠ .training ∧ s.slc.link ≠ .idle ∧ s.slc.link ≠ .active) := by
  decide +kernel

/-- In STANDBY_ENTRY with SLEEP_REQ signalled. -/
def leaving : State :=
  { up with slc.sleepReq := true, bxp := { up.bxp with power := .standbyEntry, timer := some (.handshake, 10) } }

theorem witness_SleepAcknowledgement :
    (leaving.slc.sleepReq = true ∧ leaving.slc.link = .active ∧ leaving.bxp.power = .standbyEntry
        ∧ leaving.bpc.allStopped = true)
      ∧ ({ leaving with slc.link := .idle, bpc.bays := put leaving.bpc.bays 1 { leaving.bay 1 with state := .ready } } :
          State).bpc.allStopped = false
      ∧ up.slc.sleepReq = false
      ∧ (let s : State := { up with slc.sleepReq := true }
         s.slc.sleepReq = true ∧ s.slc.link = .active ∧ s.bxp.power ≠ .standbyEntry) := by decide +kernel

theorem witness_LinkResetEndsEverySession :
    up.slc.link = .active ∧ ({ leaving with slc.link := .idle } : State).slc.link = .idle
      ∧ up.bxp.power ≠ .standbyEntry ∧ leaving.bxp.power = .standbyEntry
      ∧ ({ up with slc.link := .training } : State).slc.link = .training
      ∧ State.reset.slc.link = .down ∧ ({ up with slc.link := .sleep } : State).slc.link = .sleep := by decide +kernel

/-! ### Witnesses: gates, link requests, clock -/

theorem witness_GatesOfRecordRequests :
    (∀ k ∈ [Kind.clientSet, .clientRead, .clientRetire, .scheduleSet, .streamOpen, .streamData, .streamFinish, .streamAbort,
        .streamRead, .chunkRead, .collectionOpen, .collectionClose, .retireCollection, .collectionRead, .membersFetch,
        .objectRead, .walkStatus, .grantClear, .planOpen, .planFetch, .planCheck, .planDone, .filterSet, .streamCommit,
        .memberAdd, .memberRemove, .grantSet, .releaseTake, .grantRead],
        Met k 0#16 [0] { up with tiu.load := .unloaded } fun s r => s.tiu.load ≠ .loaded ∧ r.auxNat ≠ 1 ∧ byteAt r.payload 0 ≠ 2)
      ∧ (∀ k ∈ [Kind.releaseTake, .filterSet, .grantRead],
        Met k 1#16 [2] { up with tiu.load := .loadFailed } fun s r => s.tiu.load ≠ .loaded ∧ r.auxNat = 1 ∧ byteAt r.payload 0 = 2)
      ∧ (∀ k ∈ [Kind.clientSet, .clientRetire, .scheduleSet, .streamOpen, .streamData, .streamCommit, .streamFinish,
        .streamAbort, .collectionOpen, .collectionClose, .retireCollection, .memberAdd, .memberRemove, .grantSet, .grantClear,
        .releaseTake, .filterSet],
        Met k 0#16 [0] { up with tiu.exporting := true } fun s r =>
          s.tiu.load = .loaded ∧ s.tiu.exporting = true ∧ r.auxNat ≠ 1)
      ∧ Met .releaseTake 1#16 [1, 0] { up with tiu.exporting := true } fun s r =>
          s.tiu.load = .loaded ∧ s.tiu.exporting = true ∧ r.auxNat = 1 := by decide +kernel

theorem witness_LinkStatus :
    (∀ aux ∈ [0, 1, 2, 65535], Met .linkStatus (BitVec.ofNat 16 aux) [] State.reset fun _ r => r.payload = [])
      ∧ 1 < (2#16).toNat := by decide +kernel

theorem witness_NoticeRead :
    Met .noticeRead 0#16 [] up (fun s r => r.payload = [] ∧ s.pendingNotices &&& s.slc.enables = 0#11)
      ∧ ∀ k ∈ [0, 10], Met .noticeRead 0#16 [] { up with slc.latched := 1#11 <<< k } fun s _ =>
          (s.pendingNotices &&& s.slc.enables).getLsbD k = true
            ∧ ∀ j < k, (s.pendingNotices &&& s.slc.enables).getLsbD j = false := by decide +kernel

theorem witness_NoticesPendingClearedAndMasked :
    ∀ k ∈ [Kind.noticeClear, .noticeMask], Met k 0#16 [0xFF, 0xFF] risen fun _ r => r.payload.length = 2 := by decide +kernel

theorem witness_SettingsReadAndWrite :
    Met .settingsRead 0#16 [] up (fun _ r => r.payload = [])
      ∧ Met .settingsWrite 0#16 (List.replicate 21 0xFF) up fun _ r => r.payload.length = 21 := by decide +kernel

theorem witness_ClockRead : Met .clockRead 0#16 [] up fun _ r => r.payload = [] := by decide +kernel

theorem witness_ClockSetAndSecondEvents :
    Met .clockSet 0#16 [0xFF, 0xFF, 0xFF, 0xFF] up (fun s r => r.payload.length = 4 ∧ s.tiu.exporting = false)
      ∧ ∀ t ∈ [59, 4294967294, 4294967295],
          ({ up with bck.boxTime := t } : State).bck.boxTime = t := by decide +kernel

theorem witness_ClockSetAndSecondEvents_refused :
    ∀ p ∈ [[], [1, 2, 3], [1, 2, 3, 4, 5]], Said .clockSet .clockSet 0#16 (.plain p) up .badField := by decide +kernel

/-- Client 0 falls due at 600 seconds. -/
def due (power : PowerState) : State :=
  { up.setClient 0 { person .source 1 with schedule := some { period := 1440, nextDue := 700, lead := 100 } } with
    bxp.power := power }

theorem witness_DueEvaluation :
    (∀ c ∈ [0, 15], c < 16) ∧ up.tiu.load = .loaded ∧ State.reset.tiu.load ≠ .loaded
      ∧ (∀ p ∈ [PowerState.standby, .standbyEntry, .run],
          let s := due p
          ((s.client 0).schedule.any fun x => decide (x.nextDue ≤ s.bck.boxTime + x.lead)) = true
            ∧ s.bxp.due.getLsbD 0 = false ∧ s.bxp.power = p)
      ∧ (up.client 15).schedule = none := by decide +kernel

/-! ### Witnesses: clients, reads -/

/-- A CLIENT_SET payload: client, role, an address that ends in the byte given, a quota. -/
def setPayload (client role last : Byte) (quota : List Byte) : List Byte :=
  [client, role, 2, 0, 0, 0, 0, last] ++ List.replicate 16 0x41 ++ quota

/-- What a CLIENT_SET of record `c` as `role` must meet beside its first bytes. -/
def settable (c : Nat) (role : Role) (s : State) (r : Request) : Bool :=
  decide (Changeable s) && decide (r.payload.length = 28) && (slice r.payload 2 6).any (fun b => decide (b ≠ 0#8))
    && !((slice r.payload 2 6).getD 0 0#8).getLsbD 0 && decide (field r.payload 24 4 ≤ 16777215)
    && (List.range 16).all (fun k => decide (k = c) || !(s.client k).active
      || decide ((s.client k).address ≠ slice r.payload 2 6))
    && (decide ((s.client c).role = .viewer) || decide (role ≠ .viewer)
      || (decide (s.collectionsOwned c (s.client c).generation = 0) && decide (s.streamsOpenOf c = 0)))

theorem witness_ClientSet :
    Met .clientSet 0#16 (setPayload 15 1 9 [0, 0, 0, 0]) up (fun s r =>
        settable 15 .source s r = true ∧ byteAt r.payload 0 = 15 ∧ byteAt r.payload 1 = 1 ∧ (s.client 15).active = false)
      ∧ Met .clientSet 0#16 (setPayload 255 3 9 [0xFF, 0xFF, 0xFF, 0]) (up.setClient 0 (person .source 1)) (fun s r =>
        settable 1 .family s r = true ∧ byteAt r.payload 0 = 255 ∧ byteAt r.payload 1 = 3 ∧ (s.client 1).active = false
          ∧ ∀ k < 1, (s.client k).active = true)
      ∧ Met .clientSet 0#16 (setPayload 0 2 9 [1, 0, 0, 0]) (up.setClient 0 (person .viewer 1)) (fun s r =>
        settable 0 .viewer s r = true ∧ byteAt r.payload 0 = 0 ∧ byteAt r.payload 1 = 2 ∧ (s.client 0).active = true)
      ∧ Met .clientSet 0#16 (setPayload 0 2 9 [1, 0, 0, 0]) (up.setClient 0 (person .source 1)) (fun s r =>
        settable 0 .viewer s r = true ∧ (s.client 0).active = true ∧ (s.client 0).role ≠ .viewer) := by decide +kernel

/-- `up` with every client ACTIVE, at the address that ends in 1. -/
def crowded : State := { up with clients := Vector.replicate 16 (person .source 1) }

/-- `up` with client 0 the owner of an album that is being retired. -/
def owner : State :=
  (up.setClient 0 (person .family 1)).setColl 1023 { Coll.free with state := .retiring, kind := .album, owner := (0, 1) }

theorem witness_ClientSet_refused :
    (∀ p ∈ [[], setPayload 16 1 9 [0, 0, 0, 0], setPayload 254 1 9 [0, 0, 0, 0], setPayload 0 0 9 [0, 0, 0, 0],
          setPayload 0 4 9 [0, 0, 0, 0], setPayload 0 1 9 [0, 0, 0, 1], [0, 1] ++ List.replicate 26 0,
          [0, 1, 1] ++ List.replicate 25 0],
        Said .clientSet .clientSet 0#16 (.plain p) up .badField)
      ∧ Said .clientSet .clientSet 0#16 (.plain (setPayload 255 1 1 [0, 0, 0, 0])) crowded .full
      ∧ (∀ c ∈ [1, 15, 255], Said .clientSet .clientSet 0#16 (.plain (setPayload c 1 1 [0, 0, 0, 0]))
          (up.setClient 0 (person .source 1)) .addressTaken)
      ∧ Said .clientSet .clientSet 0#16 (.plain (setPayload 0 2 1 [0, 0, 0, 0])) owner .ownsRecords
      ∧ Said .clientSet .clientSet 0#16 (.plain (setPayload 0 1 1 [0, 0, 0, 0])) owner .ok := by decide +kernel

theorem witness_ClientRetireAndScheduleSet :
    Met .clientRetire 0#16 [15] (up.setClient 15 (person .source 255)) (fun s r =>
        Changeable s ∧ byteAt r.payload 0 = 15 ∧ (s.client 15).active = true ∧ r.payload.length = 1
          ∧ s.collectionsOwned 15 (s.client 15).generation = 0 ∧ s.streamsOpenOf 15 = 0 ∧ s.plansOpenOf 15 = 0
          ∧ (s.client 15).holdStatus = .empty)
      ∧ Met .scheduleSet 0#16 ([0, 0] ++ List.replicate 8 0xFF) (up.setClient 0 (person .source 1)) (fun s r =>
        Changeable s ∧ (s.client 0).active = true ∧ r.payload.length = 10 ∧ byteAt r.payload 1 = 0)
      ∧ (∀ role ∈ [Role.source, .viewer],
          Met .scheduleSet 0#16 ([0, 1] ++ le 2 40320 ++ le 4 0 ++ le 2 3600) (up.setClient 0 (person role 1)) fun s r =>
            Changeable s ∧ r.payload.length = 10 ∧ byteAt r.payload 1 = 1 ∧ 1 ≤ field r.payload 2 2
              ∧ field r.payload 2 2 ≤ 40320 ∧ field r.payload 8 2 ≤ 3600 ∧ (s.client 0).role = role) := by decide +kernel

theorem witness_ClientRetireAndScheduleSet_refused :
    let ready := up.setClient 0 (person .source 1)
    let on (period lead : Nat) : List Byte := [0, 1] ++ le 2 period ++ le 4 0 ++ le 2 lead
    (∀ p ∈ [[], [16], [0, 0]], Said .clientRetire .clientRetire 0#16 (.plain p) ready .badField)
      ∧ Said .clientRetire .clientRetire 0#16 (.plain [15]) ready .noSuch
      ∧ (∀ s ∈ [owner, ready.setStream 7 { Stream.closed with state := .halted, client := 0 },
            ready.setPlan 15 { Plan.free with state := .ready, client := 0 },
            up.setClient 0 { person .source 1 with holdStatus := .one }],
          Said .clientRetire .clientRetire 0#16 (.plain [0]) s .ownsRecords)
      ∧ (∀ p ∈ [[], 16 :: (on 1 0).drop 1, [0, 2] ++ (on 1 0).drop 2, on 0 0, on 40321 0, on 1 3601],
          Said .scheduleSet .scheduleSet 0#16 (.plain p) ready .badField)
      ∧ Said .scheduleSet .scheduleSet 0#16 (.plain (on 1 3600)) up .noSuch
      ∧ Said .scheduleSet .scheduleSet 0#16 (.plain (on 40320 0)) (up.setClient 0 (person .viewer 1)) .state := by
  decide +kernel

/-- Tables with one of each: an OPEN snapshot 3 of client 0, an OPEN album 5, a COMPLETE object 9 in both. -/
def filled : State :=
  let snapshot : Coll := { Coll.free with state := .open, owner := (0, 1), members := [9] }
  let object : Obj := { Obj.free with state := .complete, owner := (0, 1), holders := 2, recipe := [.indexed 32] }
  let chunk : Chunk :=
    { state := .present, digest := BitVec.ofNat 256 (2 ^ 236), length := 100, loc := some { bay := 1, block := 7 },
      refcount := 1, payer := some (0, 1), writer := none }
  { up.setClient 0 (person .source 1) with
    oct := ⟨[(9, object)], [(3, snapshot), (5, { snapshot with kind := .album })], 100⟩, chunks := [(32, chunk)] }

theorem witness_ReadsAnswerTheRecordAndChangeNothing :
    (Met .clientRead 0#16 [15] up fun s r => Readable s ∧ r.payload.length = 1 ∧ byteAt r.payload 0 < 16)
      ∧ (Met .streamRead 7#16 [] up fun s r => Readable s ∧ r.aux.toNat < 8)
      ∧ (Met .collectionRead 0#16 [0xFF, 3] up fun s r => Readable s ∧ field r.payload 0 2 < 1024)
      ∧ (Met .membersFetch 0#16 [5, 0, 0xFF, 0xFF, 0x0F, 0] filled fun s r =>
          Readable s ∧ field r.payload 2 4 < 1048576 ∧ (s.coll (field r.payload 0 2)).state ≠ .free)
      ∧ (Met .objectRead 0#16 [0xFF, 0xFF, 0x0F, 0, 0, 0, 0, 0, 0, 1] up fun s r =>
          Readable s ∧ field r.payload 0 4 < 1048576 ∧ field r.payload 8 2 ≤ 256)
      ∧ (∀ n ∈ [1, 512], Met .releaseTake 1#16 (le 2 n) up fun s r =>
          Changeable s ∧ r.payload.length = 2 ∧ 1 ≤ field r.payload 0 2 ∧ field r.payload 0 2 ≤ 512)
      ∧ (Met .bayStatus 0#16 [] up fun _ r => r.payload = [])
      ∧ (Met .filterSet 1#16 [0] filled fun s r =>
          Readable s ∧ r.payload.length = 1 ∧ (s.client (byteAt r.payload 0)).active = true)
      ∧ (Met .templateSet 1#16 [3] up fun s r => s.template (byteAt r.payload 0) = none)
      ∧ Met .templateSet 1#16 [0] { up with nwu.templates := put up.nwu.templates 0 (some ⟨0, [1], [1], List.replicate 60 0⟩) }
          fun s r => byteAt r.payload 0 < 4 ∧ s.template (byteAt r.payload 0) ≠ none := by decide +kernel

theorem witness_ReadsAnswerTheRecordAndChangeNothing_refused :
    (∀ p ∈ [[], [16]], Said .clientRead .clientRead 0#16 (.plain p) up .badField)
      ∧ (∀ x ∈ [(8#16, []), (0xFFFF#16, []), (7#16, [0])], Said .streamRead .streamRead x.1 (.plain x.2) up .badField)
      ∧ (∀ p ∈ [[], [0, 4]], Said .collectionRead .collectionRead 0#16 (.plain p) up .badField)
      ∧ (∀ p ∈ [[], [0, 4, 0, 0, 0, 0], [0, 0, 0, 0, 0x10, 0]], Said .membersFetch .membersFetch 0#16 (.plain p) up .badField)
      ∧ Said .membersFetch .membersFetch 0#16 (.plain [0xFF, 3, 0xFF, 0xFF, 0x0F, 0]) up .noSuch := by decide +kernel

theorem witness_ReadsAnswerTheRecordAndChangeNothing_refused_too :
    (∀ p ∈ [[], [0, 0, 0x10, 0, 0, 0, 0, 0, 0, 0], [0, 0, 0, 0, 0, 0, 0, 0, 1, 1]],
        Said .objectRead .objectRead 0#16 (.plain p) up .badField)
      ∧ (∀ p ∈ [[], [0, 0], [1, 2]], Said .releaseTakeLastBatch .releaseTake 1#16 (.plain p) up .badField)
      ∧ Said .bayStatus .bayStatus 0#16 (.plain [0]) up .badField
      ∧ (∀ p ∈ [[], [16]], Said .filterRead .filterSet 1#16 (.plain p) up .badField)
      ∧ Said .filterRead .filterSet 1#16 (.plain [15]) up .noSuch
      ∧ ∀ p ∈ [[], [4]], Said .templateRead .templateSet 1#16 (.plain p) up .badField := by decide +kernel

theorem witness_ReadsWithUnstatedBytes :
    (Met .chunkRead 0#16 (0 :: le 4 33554431 ++ List.replicate 28 0) up fun s r =>
        Readable s ∧ r.payload.length = 33 ∧ byteAt r.payload 0 = 0 ∧ field r.payload 1 4 < 33554432)
      ∧ (Met .chunkRead 0#16 (1 :: digestBytes (BitVec.ofNat 256 (2 ^ 236))) filled fun s r =>
        r.payload.length = 33 ∧ byteAt r.payload 0 = 1 ∧ s.findDigest (digestOf (slice r.payload 1 32)) = some 32)
      ∧ (Met .chunkRead 0#16 (1 :: List.replicate 32 0) filled fun s r =>
        r.payload.length = 33 ∧ s.findDigest (digestOf (slice r.payload 1 32)) = none)
      ∧ (Met .walkStatus 0#16 [] up fun s r => Readable s ∧ r.payload = [])
      ∧ Met .powerStatus 0#16 [] up fun _ r => r.payload = [] := by decide +kernel

theorem witness_ReadsWithUnstatedBytes_refused :
    (∀ p ∈ [[], 2 :: List.replicate 32 0, 0 :: le 4 33554432 ++ List.replicate 28 0],
        Said .chunkRead .chunkRead 0#16 (.plain p) up .badField)
      ∧ Said .walkStatus .walkStatus 0#16 (.plain [0]) up .badField
      ∧ Said .powerStatus .powerStatus 0#16 (.plain [0]) up .badField := by decide +kernel

theorem witness_RecordLayouts :
    ((up.client 0).address.length = 6 ∧ (up.client 0).label.length = 16 ∧ (up.client 0).schedule = none
        ∧ ({ up.client 0 with schedule := some ⟨40320, 4294967295, 3600⟩ } : Client).schedule = some ⟨40320, 4294967295, 3600⟩)
      ∧ (filled.coll 3).closed = none ∧ ({ filled.coll 3 with closed := some 0 } : Coll).closed = some 0
      ∧ up.bpc.queue.length ≤ 4 ∧ 0 ∉ up.bpc.queue
      ∧ ({ up with bpc.queue := [3, 0] } : State).bpc.queue = [3] ++ 0 :: [] ∧ 0 ∉ [3]
      ∧ (up.bay 0).timer = none ∧ ({ up.bay 3 with timer := some (.idle, 900) } : Bay).timer = some (.idle, 900)
      ∧ (∀ f ∈ [StandbyFailure.due 15, .network 0], ({ up with bxp.lastFailure := f } : State).bxp.lastFailure = f)
      ∧ up.bxp.timer = none ∧ State.reset.bxp.timer = some (.wake, 30)
      ∧ ({ up with bpc.queue := [0, 1, 2, 3] } : State).bpc.queue.length ≤ 4
      ∧ (let x : Stream := { Stream.closed with outstanding := [⟨0, .owedNew 32⟩, ⟨1, .owedPrivate 5 100⟩] }
         x.window.length = 48 ∧ x.outstanding[1]? = some ⟨1, .owedPrivate 5 100⟩)
      ∧ (((filled.object 9).recipe.drop 0).take 1)[0]? = some (.indexed 32)
      ∧ [0#8, 0#8].length = 2 ∧ (filled.chunk 32).payer = some (0, 1) ∧ Chunk.empty.payer = none
      ∧ Grant.free.expiry = none ∧ ({ Grant.free with expiry := some 601 } : Grant).expiry = some 601 := by
  decide +kernel

/-! ### Witnesses: streams -/

/-- Stream 1 with the default parameters in the state given, for object 9 and snapshot 3 of `filled`, on bay 2. -/
def backup (state : StreamState) (items : List Item) : Stream :=
  { Stream.closed with
    state := state, client := 0, generation := 1, object := 9, collection := 3, bay := 2, bayHeld := true, lmin := 8192,
    ltgt := 32768, lmax := 131072, outstanding := items }

/-- `filled` with that stream, its object BUILDING and its slot reserved. -/
def writing (state : StreamState) (items : List Item) : State :=
  let object : Obj := { Obj.free with state := .building, owner := (0, 1), recipe := [.indexed 32] }
  let snapshot : Coll := { Coll.free with state := .open, owner := (0, 1), reserved := 1 }
  { filled.setStream 1 (backup state items) with oct := ⟨[(9, object)], [(3, snapshot)], 100⟩ }

theorem witness_StreamOpen :
    Table.sorted filled.oct.objects = true
      ∧ Met .streamOpen 0#16 [0, 3, 0, 3] filled fun s r =>
        Changeable s ∧ s.bxp.power = .run ∧ r.payload.length = 4 ∧ (s.stream 0).state = .closed ∧ (s.client 0).active = true
          ∧ (s.client 0).role ≠ .viewer ∧ (s.coll 3).state = .open ∧ (s.coll 3).owner = (0, (s.client 0).generation)
          ∧ (s.bay 3).state ≠ .empty ∧ Table.lowestFree 1048576 s.oct.objects = some 0
          ∧ (s.coll 3).members.length + (s.coll 3).reserved < 262144
          ∧ (1 + 1 + 63) / 64 ≤ (1 + 63) / 64 + s.oct.freePages := by decide +kernel

theorem witness_StreamOpen_fields :
    ∀ p ∈ [[], [16, 3, 0, 3], [0, 0, 4, 3], [0, 3, 0, 4]],
      Said .streamOpen .streamOpen 0#16 (.plain p) filled .badField := by decide +kernel

/-- `filled` with collection 3 changed. -/
def withColl (f : Coll → Coll) : State := filled.setColl 3 (f (filled.coll 3))

/-- Each check fails alone, with those before it met. -/
theorem witness_StreamOpen_refused :
    ∀ x ∈ [({ filled with bxp.power := .standbyEntry }, Status.state),
        ({ filled with streams := Vector.replicate 8 (backup .halted []) }, .full),
        (filled.setClient 0 (Client.free 1), .noSuch), (filled.setClient 0 (person .viewer 1), .state),
        (withColl fun _ => Coll.free, .noSuch), (withColl fun l => { l with state := .closed }, .state),
        (withColl fun l => { l with owner := (0, 2) }, .state),
        ({ filled with bpc.bays := put filled.bpc.bays 3 { filled.bay 3 with state := .empty } }, .bayLost),
        (withColl fun l => { l with reserved := 262143 }, .full),
        ({ withColl fun l => { l with reserved := 63 } with oct.freePages := 0 }, .poolFull),
        (withColl fun l => { l with reserved := 262142 }, .ok)],
      Said .streamOpen .streamOpen 0#16 (.plain [0, 3, 0, 3]) x.1 x.2 := by decide +kernel

/-- No object is FREE where every number below the bound is listed. -/
theorem witness_StreamOpen_lowestFree :
    Table.lowestFree 2 [(0, Obj.free), (1, Obj.free)] = none ∧ Table.lowestFree 2 [(1, Obj.free)] = some 0 := by decide

theorem witness_StreamDataAdmission :
    (Met .streamData 1#16 [1] (writing .open []) fun s r =>
        Changeable s ∧ r.aux.toNat = 1 ∧ r.payload ≠ [] ∧ (s.stream 1).state = .open
          ∧ (s.stream 1).outstanding.length + (1 + 8191) / 8192 + 0 ≤ 64)
      ∧ (Met .streamData 257#16 [] (writing .open []) fun s r =>
        r.aux.toNat = 1 + 256 ∧ (s.stream 1).outstanding.length + (0 + 8191) / 8192 + 1 ≤ 64)
      ∧ Met .streamData 257#16 [1] (writing .open (List.replicate 63 { ordinal := 0, kind := .pending 32 })) fun s _ =>
        64 < (s.stream 1).outstanding.length + (1 + 8191) / 8192 + 1 := by decide +kernel

theorem witness_StreamDataAdmission_refused :
    (∀ x ∈ [(8#16, [1]), (255#16, [1]), (513#16, [1]), (1#16, [])],
        Said .streamData .streamData x.1 (.plain x.2) (writing .open []) .badField)
      ∧ ∀ st ∈ [StreamState.closed, .ended, .finishing, .halted],
          Said .streamData .streamData 257#16 (.plain []) (writing st []) .state := by decide +kernel

theorem witness_WindowValuesAndBoundaryTest :
    (List.replicate 48 0#8).length = 48
      ∧ (∀ n ∈ [8191, 8192, 32767, 32768, 131071, 131072],
        let x := { backup .open [] with chunkLength := n }
        x.window = List.replicate 48 0 ∧ x.ltgt = 2 ^ 15 ∧ x.lmin < x.ltgt ∧ x.ltgt < x.lmax ∧ x.chunkLength = n)
      ∧ (∀ k ∈ List.range' 1 48, ((List.replicate 48 0#8).getD (k - 1) 0#8).toNat = 0) := by decide +kernel

theorem witness_BytesOfAStream :
    ∀ n ∈ [0, 68719476734, 68719476735],
      let s := writing .open []
      let t := s.setStream 1 { s.stream 1 with position := n, chunkLength := if n = 0 then 0 else 1 }
      (t.stream 1).state = .open ∧ (t.stream 1).position = n
        ∧ ((t.stream 1).chunkLength = 0 ↔ n = 0) := by decide +kernel

theorem witness_BucketSearchAndVerdicts :
    let d := BitVec.ofNat 256 (2 ^ 236)
    let s (st : ChunkState) : State := filled.setChunk 32 { filled.chunk 32 with state := st }
    filled.findDigest d = some 32 ∧ filled.findDigest 0 = none ∧ filled.emptyWay 0 = some 0 ∧ filled.emptyWay d = some 33
      ∧ (∀ st ∈ [ChunkState.present, .reserved, .rewriting, .needsWriter, .damaged],
          (s st).findDigest d = some 32 ∧ ((s st).chunk 32).state = st
            ∧ (s st).rtu.deferred.length + (s st).rtu.reserved < 256)
      ∧ ¬ (({ filled with rtu.reserved := 256 } : State).rtu.deferred.length + 256 < 256)
      ∧ ({ filled with chunks := (List.range 16).map fun k => (k, filled.chunk 32) } : State).findDigest 0 = none
      ∧ ({ filled with chunks := (List.range 16).map fun k => (k, filled.chunk 32) } : State).emptyWay 0 = none
      ∧ (let q := (writing .open []).setClient 0 { person .source 1 with quota := some 1, charged := 1048570 }
         q.chargeAnswer 0 1 7 = .quota ∧ q.chargeAnswer 0 1 6 = .ok ∧ (q.stream 1).client = 0 ∧ (q.client 0).active = true
           ∧ (present 1 0 7 q).1 = .halt .quota)
      ∧ (let s := asked .clientRead 0#16 (.plain [15]) up
         s.slc.offered .clt = some (req .clientRead 0#16 (.plain [15])) ∧ Readable s)
      ∧ (asked .clientSet 0#16 (.plain [15]) up).slc.offered .clt = some (req .clientSet 0#16 (.plain [15]))
      ∧ up.slc.offered .clt = none
      ∧ (0 + 63) / 64 + ({ filled with oct.freePages := 0 } : State).oct.freePages < (0 + 1 + 63) / 64 := by decide +kernel

/-- R70: a CLIENT_READ between the charge of 100 bytes and the refund shows charged 110, and the refund takes it back to 10. -/
theorem test_a_read_before_the_refund_sees_the_charge :
    let s := asked .clientRead 0#16 (.plain [0]) (writing .open [])
    let t := takenBetween 1 (charge 0 1 100 s)
    (t.slc.outgoing.map fun p => match p with
        | .response _ _ _ bytes => (bytes.getD 0 0xFF#8, field bytes 32 6)
        | _ => (0#8, 0)) = [(0#8, 110)]
      ∧ ((refund 0 1 100 t).client 0).charged = 10 := by decide +kernel

/-- R64, R92, R97, R111: with a recorded chunk the object is handed on with an order, its recipe emptied or not; with none
it is freed and no order stands. -/
theorem test_which_aborted_objects_are_freed :
    let s (ordinal : Nat) (recipe : List Ref) (items : List Item) : State :=
      let u := writing .halted items
      (u.setObject 9 { u.object 9 with recipe := recipe }).setStream 1 { u.stream 1 with ordinal := ordinal }
    let dropped : Ref := .priv none 7 0 false
    let item : Item := { ordinal := 0, kind := .owedPrivate 0 7 }
    let after (u : State) := (((abortStream 1 u).object 9).state, ((abortStream 1 u).object 9).recipe, (abortStream 1 u).rtu.orders)
    after (s 1 [dropped] [item]) = (.retiring, [], [.object 9])
      ∧ after (s 2 [dropped, .indexed 32] [item]) = (.retiring, [.indexed 32], [.object 9])
      ∧ after (s 0 [] []) = (.free, [], []) := by decide +kernel

theorem witness_HaltsAndSettlement :
    (∀ st ∈ [StreamState.closed, .halted, .open, .ended, .finishing], ((writing st []).stream 1).state = st)
      ∧ slot none (writing .finishing []).slc.deferred 1 = none
      ∧ slot none (put up.slc.deferred 1 (some (7#8, 1#16))) 1 = some (7#8, 1#16) := by decide +kernel

/-- The digest item of these witnesses. -/
def owedItem (k : ItemKind) : Item := { ordinal := 0, kind := k }

theorem witness_StreamCommit :
    (let s := asked .streamCommit 1#16 (.batch [] false) (writing .open [])
     Offered s .streamCommit (req .streamCommit 1#16 (.batch [] false)) ∧ Changeable s ∧ (s.stream 1).state ≠ .closed)
      ∧ ((writing .closed []).stream 1).state = .closed ∧ ((writing .open []).stream 1).outstanding = []
      ∧ 1 ≤ (Loc.extent { bay := 1, block := 7 } 1).length
      ∧ (∀ k ∈ [ItemKind.owedNew 32, .owedPrivate 5 100, .owedRewrite 32],
          let s := writing .open [owedItem k]
          (s.stream 1).outstanding.find? (fun j => (match j.kind with | .pending _ => false | _ => true)
            && decide (j.ordinal = 0)) = some (owedItem k))
      ∧ (filled.chunk 32).loc = some { bay := 1, block := 7 }
      ∧ filled.rtu.conflicts (Loc.extent { bay := 2, block := 17179869183 } 100) = false
      ∧ (Loc.extent { bay := 2, block := 0 } 100).overlaps (Loc.extent { bay := 1, block := 7 } 100) = false
      ∧ (Loc.extent { bay := 1, block := 7 } 100).overlaps (Loc.extent { bay := 1, block := 7 } 100) = true := by
  decide +kernel

theorem witness_StreamCommit_refused :
    (∀ a ∈ [8, 65535], Said .streamCommit .streamCommit (BitVec.ofNat 16 a) (.batch [] true) up .badField)
      ∧ ∀ a ∈ [0, 7], Said .streamCommit .streamCommit (BitVec.ofNat 16 a) (.batch [] true) up .state := by decide +kernel

theorem witness_StreamFinishAndCompletion :
    (∀ st ∈ [StreamState.open, .ended], Met .streamFinish 1#16 [] (writing st []) fun s r =>
        Changeable s ∧ r.aux.toNat = 1 ∧ (s.stream 1).state = st)
      ∧ ((writing .finishing []).stream 1).state = .finishing ∧ ((writing .finishing []).stream 1).outstanding = []
      ∧ ((writing .finishing [owedItem (.pending 32)]).stream 1).outstanding ≠ []
      ∧ [1, 2, 9].Pairwise (· < ·) := by decide +kernel

theorem witness_StreamFinishAndCompletion_refused :
    (∀ x ∈ [(8#16, []), (65535#16, []), (1#16, [0])],
        Said .streamFinish .streamFinish x.1 (.plain x.2) (writing .ended []) .badField)
      ∧ ∀ st ∈ [StreamState.closed, .open, .finishing, .halted],
          Said .streamFinish .streamFinish 1#16 (.plain []) (writing st []) .state := by decide +kernel

theorem witness_StreamAbort :
    (∀ st ∈ [StreamState.closed, .halted], Met .streamAbort 1#16 [] (writing st []) fun s r =>
        Changeable s ∧ r.aux.toNat = 1 ∧ (s.stream 1).state = st)
      ∧ slot none (put up.slc.deferred 1 (some (7#8, 1#16))) 1 = some (7#8, 1#16)
      ∧ (let s := writing .open []
         let t := s.setObject 9 { s.object 9 with recipe := [] }
         let u := s.setStream 1 { s.stream 1 with ordinal := 1 }
         t.TablesSound ∧ (t.stream 1).outstanding = [] ∧ slot none t.slc.deferred 1 = none ∧ (t.stream 1).ordinal = 0
           ∧ (t.object (t.stream 1).object).recipe = [] ∧ u.TablesSound ∧ (u.stream 1).ordinal ≠ 0
           ∧ (u.stream 1).outstanding = [] ∧ slot none u.slc.deferred 1 = none ∧ (u.object (u.stream 1).object).recipe ≠ [])
      ∧ (let s := writing .open [owedItem (.owedNew 32), owedItem (.pending 32)]
         (s.stream 1).outstanding.length = 2 ∧ slot none s.slc.deferred 1 = none ∧ s.TablesSound) := by decide +kernel

theorem witness_StreamAbort_refused :
    (∀ x ∈ [(8#16, []), (65535#16, []), (1#16, [0])],
        Said .streamAbort .streamAbort x.1 (.plain x.2) (writing .halted []) .badField)
      ∧ Said .streamAbort .streamAbort 1#16 (.plain []) (writing .closed []) .state := by decide +kernel

/-! ### Witnesses: collections, the walk, grants -/

/-- `filled` with object 9 changed. -/
def withObject (f : Obj → Obj) : State := filled.setObject 9 (f (filled.object 9))

theorem witness_CollectionRequests :
    (∀ role ∈ [Role.source, .viewer], Met .collectionOpen 0#16 [0, 2] (filled.setClient 0 (person role 1)) fun s r =>
        Changeable s ∧ r.payload.length = 2 ∧ (s.client 0).active = true ∧ (s.client 0).role = role
          ∧ Table.lowestFree 1024 s.oct.colls = some 0)
      ∧ Table.lowestFree 2 [(0, Coll.free), (1, Coll.free)] = none
      ∧ (∀ st ∈ [CollState.free, .open, .closed, .retiring], ∀ kind ∈ [CollKind.snapshot, .album], ∀ n ∈ [0, 1],
          Met .collectionClose 0#16 [3, 0] (withColl fun l => { l with state := st, kind := kind, reserved := n }) fun s r =>
            Changeable s ∧ r.payload.length = 2 ∧ (s.coll 3).state = st ∧ (s.coll 3).kind = kind ∧ (s.coll 3).reserved = n)
      ∧ (Met .retireCollection 0#16 [3, 0] filled fun s _ =>
          s.rtu.walk = .idle ∧ (s.rtu.orders ++ [Order.coll 3]).find?
            ({ s with oct.colls := Table.write Coll.free s.oct.colls 3 { s.coll 3 with state := .retiring } } :
              State).walkable = some (.coll 3))
      ∧ ({ filled with rtu.walk := .walking } : State).rtu.walk ≠ .idle
      ∧ (let x := { person .source 1 with schedule := some { period := 1, nextDue := 600, lead := 60 } }
         x.active = true ∧ 600 + 60 < 600 + 2 * (1 * 60) ∧ (∀ j < 2, 1 ≤ j → 600 + j * (1 * 60) ≤ 600 + 60)) := by
  decide +kernel

theorem witness_CollectionRequests_refused :
    (∀ p ∈ [[], [16, 1], [0, 0], [0, 3]], Said .collectionOpen .collectionOpen 0#16 (.plain p) filled .badField)
      ∧ Said .collectionOpen .collectionOpen 0#16 (.plain [15, 1]) filled .noSuch
      ∧ Said .collectionOpen .collectionOpen 0#16 (.plain [0, 2]) (filled.setClient 0 (person .viewer 1)) .state
      ∧ (∀ p ∈ [[], [0, 4]], Said .collectionClose .collectionClose 0#16 (.plain p) filled .badField
          ∧ Said .retireCollection .retireCollection 0#16 (.plain p) filled .badField)
      ∧ (∀ x ∈ [(withColl fun _ => Coll.free, Status.noSuch), (withColl fun l => { l with state := .retiring }, .retiring),
            (withColl fun l => { l with reserved := 1 }, .streamsOpen)],
          Said .collectionClose .collectionClose 0#16 (.plain [3, 0]) x.1 x.2
            ∧ Said .retireCollection .retireCollection 0#16 (.plain [3, 0]) x.1 x.2)
      ∧ ∀ s ∈ [withColl fun l => { l with kind := .album }, withColl fun l => { l with state := .closed }],
          Said .collectionClose .collectionClose 0#16 (.plain [3, 0]) s .state := by decide +kernel

theorem witness_MemberBatches :
    (let b := Body.batch [le 4 9 ++ [0, 0, 0, 0]] true
     ∀ k ∈ [Kind.memberAdd, .memberRemove], ∀ kind ∈ [CollKind.snapshot, .album], ∀ st ∈ [CollState.open, .closed],
       let s := asked k 3#16 b (withColl fun l => { l with state := st, kind := kind })
       Offered s k (req k 3#16 b) ∧ Changeable s ∧ (s.coll 3).state = st ∧ (s.coll 3).kind = kind)
      ∧ (∀ st ∈ [ObjectState.free, .building, .retiring, .complete],
          ((withObject fun o => { o with state := st, length := 1 }).object 9).state = st)
      ∧ (9 ∈ (filled.coll 3).members ∧ 8 ∉ (filled.coll 3).members)
      ∧ (262144 ≤ ((withColl fun l => { l with reserved := 262143 }).coll 3).members.length + 262143
          ∧ ((withColl fun l => { l with reserved := 262142 }).coll 3).members.length + 262142 < 262144)
      ∧ (64 + 63) / 64 + 0 < (64 + 1 + 63) / 64
      ∧ (1 < (filled.object 9).holders ∧ ((withObject fun o => { o with holders := 1 }).object 9).holders = 1) := by
  decide +kernel

theorem witness_MemberBatches_refused :
    ∀ x ∈ [(Instr.memberAdd, Kind.memberAdd, filled, Status.state),
        (.memberRemove, .memberRemove, withColl fun l => { l with state := .closed }, .state)],
      (∀ a ∈ [1024, 65535], Said x.1 x.2.1 (BitVec.ofNat 16 a) (.batch [] true) filled .badField)
        ∧ Said x.1 x.2.1 1023#16 (.batch [] true) filled .noSuch
        ∧ Said x.1 x.2.1 3#16 (.batch [] true) (withColl fun l => { l with state := .retiring }) .retiring
        ∧ Said x.1 x.2.1 3#16 (.batch [] true) x.2.2.1 x.2.2.2 := by decide +kernel

/-- The order of object 9 joins: at an IDLE walk with the object held by a plan or not, behind an order that the walk can
take or that a plan holds back, and where the walk does not run or is not IDLE. -/
theorem witness_MemberBatches_orders :
    let freed (held : Nat) : State := withObject fun o => { o with state := .retiring, planHolds := held }
    let joined (s : State) : Option Order × List Order :=
      ((appendOrder (.object 9) s).rtu.current, (appendOrder (.object 9) s).rtu.orders)
    let behind (o : Order) (s : State) : State := { s with rtu.orders := [o] }
    joined (freed 0) = (some (.object 9), [.object 9]) ∧ joined (freed 1) = (none, [.object 9])
      ∧ joined (behind (.coll 3) (freed 0)) = (some (.coll 3), [.coll 3, .object 9])
      ∧ joined (behind (.object 8) ((freed 0).setObject 8 { Obj.free with state := .retiring, planHolds := 1 }))
          = (some (.object 9), [.object 8, .object 9])
      ∧ joined { freed 0 with rtu.walk := .paused } = (none, [.object 9])
      ∧ joined { freed 0 with tiu.exporting := true } = (none, [.object 9]) := by decide +kernel

/-- A walk in WALKING at the order given, with `n` extents listed for release. -/
def walkingAt (o : Order) (n : Nat) (s : State) : State :=
  { s with rtu := { s.rtu with
    orders := [o], current := some o, walk := .walking, release := List.replicate n { bay := 0, block := 0, length := 1 } } }

/-- The record arrays are in canonical form. -/
def tidy (s : State) : Bool := decide s.TablesSound

theorem witness_WalkSteps :
    (filled.tiu.load = .loaded ∧ filled.tiu.exporting = false ∧ tidy filled = true)
      ∧ (let s : State := { (withColl fun l => { l with state := .retiring }) with rtu.orders := [.coll 3] }
         tidy s = true ∧ s.rtu.walk = .idle ∧ s.rtu.orders.find? s.walkable = some (.coll 3))
      ∧ filled.rtu.orders.find? filled.walkable = none
      ∧ (let s := walkingAt (.object 9) 0 filled
         s.rtu.walk = .walking ∧ s.rtu.current = some (.object 9) ∧ s.rtu.nested = none ∧ (s.object 9).recipe ≠ [])
      ∧ (let s := walkingAt (.coll 3) 0 filled
         s.rtu.walk = .walking ∧ s.rtu.current = some (.coll 3) ∧ (s.coll 3).members ≠ []
           ∧ ({ s with rtu.nested := some 9 } : State).rtu.nested = some 9)
      ∧ (∀ m ∈ [1, 2], ∀ held ∈ [0, 1],
          let s := walkingAt (.coll 3) 0 (withObject fun o => { o with holders := m, planHolds := held })
          tidy s = true ∧ s.rtu.walk = .walking ∧ s.rtu.current = some (.coll 3) ∧ s.rtu.nested = none
            ∧ (s.coll 3).members = 9 :: [] ∧ (s.object 9).holders = m ∧ (s.object 9).planHolds = held)
      ∧ (∀ n ∈ [4095, 4096],
          let s := walkingAt (.object 9) n (withObject fun o => { o with state := .retiring })
          s.rtu.nested = none ∧ s.rtu.current = some (.object 9) ∧ (s.object 9).recipe = .indexed 32 :: []
            ∧ s.rtu.release.length = n)
      ∧ (let s := walkingAt (.object 9) 4096 (withObject fun o => { o with recipe := [.priv none 5 0 false] })
         (s.object 9).recipe = .priv none 5 0 false :: [])
      ∧ (let s := walkingAt (.object 9) 0 (withObject fun o => { o with recipe := [] })
         (s.object 9).recipe = [] ∧ s.rtu.nested = none ∧ s.rtu.current = some (.object 9) ∧ tidy s = true
           ∧ ({ s with rtu.nested := some 9 } : State).rtu.nested = some 9)
      ∧ (let s := walkingAt (.coll 3) 0 (withColl fun l => { l with members := [] })
         s.rtu.walk = .walking ∧ s.rtu.nested = none ∧ (s.coll 3).members = [] ∧ tidy s = true) := by decide +kernel

theorem witness_ChargesRefundsAndDecrements :
    (¬ ((up.client 15).active = true ∧ (up.client 15).generation = 0))
      ∧ (let x := { person .source 1 with quota := some 1, charged := 1048576 }
         x.active = true ∧ x.generation = 1 ∧ 1 * 1048576 < x.charged + 1 ∧ x.charged + 0 ≤ 1 * 1048576)
      ∧ (filled.chunk 32).refcount = 1 ∧ (filled.chunk 32).payer = some (0, 1)
      ∧ ∀ n ∈ [2, 16777214, 16777215], ({ filled.chunk 32 with refcount := n, payer := none } : Chunk).refcount = n := by
  decide +kernel

theorem witness_ReleaseTakeAndDeferredCheck :
    (∀ n ∈ [1, 512], Met .releaseTake 0#16 (le 2 n) filled fun s r =>
        Changeable s ∧ r.payload.length = 2 ∧ field r.payload 0 2 = n)
      ∧ (filled.tiu.load = .loaded ∧ filled.tiu.exporting = false ∧ State.reset.tiu.load ≠ .loaded)
      ∧ ((5#32 : Epoch) - 5#32).toNat < 2147483648 ∧ ¬ ((4#32 : Epoch) - 5#32).toNat < 2147483648 := by decide +kernel

theorem witness_ReleaseTakeAndDeferredCheck_refused :
    ∀ x ∈ [(2#16, [1, 0]), (65535#16, [1, 0]), (0#16, []), (0#16, [0, 0]), (0#16, [1, 2])],
      Said .releaseTake .releaseTake x.1 (.plain x.2) filled .badField := by decide +kernel

/-- The entry of a GRANT_SET: ANY_VIEWER or a client, on album 5 or all albums of client 0. -/
def grantEntryOf (grantee target on mode : Byte) : List Byte :=
  [grantee, target, on, 0, mode] ++ le 2 1439 ++ le 2 0 ++ [1] ++ le 4 4294967295 ++ [0, 0]

/-- `filled` with grant 2 of ANY_VIEWER on album 5. -/
def granted (mode : Mode) : State :=
  filled.setGrant 2
    { live := true, grantee := .anyViewer, target := .album 5, mode := mode, windowStart := 0, windowEnd := 1439,
      expiry := some 601 }

theorem witness_GrantRequests :
    (let b := Body.batch [grantEntryOf 255 1 5 3] true
     let s := asked .grantSet 0#16 b filled
     Offered s .grantSet (req .grantSet 0#16 b) ∧ Changeable s)
      ∧ (∀ k ∈ [0, 1, 2, 3], let e := grantEntryOf 255 1 5 (BitVec.ofNat 8 k)
          byteAt e 0 = 255 ∧ byteAt e 1 = 1 ∧ field e 2 2 = 5 ∧ byteAt e 4 = k ∧ byteAt e 9 ≤ 1)
      ∧ (let e := grantEntryOf 15 2 0 0
         byteAt e 0 = 15 ∧ (filled.client 15).active = false ∧ byteAt e 1 = 2 ∧ field e 2 2 = 0
           ∧ (filled.client 0).active = true)
      ∧ ((filled.coll 5).state = .open ∧ (filled.coll 5).kind = .album)
      ∧ ((granted .allow).grantOf .anyViewer (.album 5) = some 2 ∧ filled.grantOf .anyViewer (.album 5) = none
          ∧ Table.lowestFree 256 filled.grants = some 0 ∧ Table.lowestFree 2 [(0, Grant.free), (1, Grant.free)] = none)
      ∧ (Met .grantClear 0#16 [0, 2, 0, 0, 0] (granted .deny) fun s r =>
          Changeable s ∧ r.payload.length = 5 ∧ byteAt r.payload 0 = 0 ∧ (s.grant 2).live = true ∧ (s.grant 3).live = false)
      ∧ (Met .grantClear 0#16 [1, 255, 1, 5, 0] (granted .deny) fun s r =>
          byteAt r.payload 1 = 255 ∧ byteAt r.payload 2 = 1 ∧ field r.payload 3 2 = 5
            ∧ s.grantOf .anyViewer (.album 5) = some 2)
      ∧ (∀ n ∈ [1, 256], Met .grantRead 0#16 ([0, 255] ++ le 2 n ++ [0]) (granted .deny) fun s r =>
          Readable s ∧ r.payload.length = 5 ∧ byteAt r.payload 0 = 0 ∧ field r.payload 2 2 = n)
      ∧ (Met .grantRead 0#16 [1, 15, 2, 15, 0] (granted .deny) fun s r =>
          byteAt r.payload 1 < 16 ∧ byteAt r.payload 2 = 2 ∧ field r.payload 3 2 = 15
            ∧ s.grantOf (.client 15) (.allOf 15) = none) := by decide +kernel

theorem witness_GrantRequests_refused :
    ((filled.coll 4).state = .free ∧ (filled.coll 3).kind = .snapshot ∧ (filled.coll 3).state ≠ .free
          ∧ (let s := filled.setColl 5 { filled.coll 5 with state := .retiring }
             (s.coll 5).state = .retiring ∧ (s.coll 5).kind = .album))
      ∧ (byteAt (grantEntryOf 16 1 5 3) 0 = 16 ∧ byteAt (grantEntryOf 0 2 16 3) 1 = 2 ∧ field (grantEntryOf 0 2 16 3) 2 2 = 16
          ∧ byteAt (grantEntryOf 0 1 5 4) 4 = 4)
      ∧ (∀ p ∈ [[], [2, 0, 0, 0, 0], [1, 16, 1, 5, 0], [1, 255, 3, 0, 0]],
          Met .grantClear 0#16 p filled fun s r => Changeable s ∧ (r.payload.length ≠ 5 ∨ 1 ≤ byteAt r.payload 0))
      ∧ (∀ n ∈ [0, 257], Met .grantRead 0#16 ([0, 0] ++ le 2 n ++ [0]) filled fun s r =>
          Readable s ∧ byteAt r.payload 0 ≠ 2 ∧ field r.payload 2 2 = n) := by decide +kernel

theorem witness_AccessDecisionAndItsReading :
    (∀ m ∈ [Mode.deny, .inWindow, .outOfWindow, .allow],
        let s := granted m
        s.TablesSound ∧ s.grants.length = 1 ∧ (s.grant 2).live = true ∧ (s.grant 2).mode = m
          ∧ (∀ e ∈ (s.grant 2).expiry, s.bck.boxTime < e) ∧ (s.grant 2).grantee = .anyViewer
          ∧ (s.grant 2).target = .album 5)
      ∧ filled.grants = []
      ∧ (Met .grantRead 0#16 [2, 0, 5, 0, 0] (granted .deny) fun s r =>
          Readable s ∧ r.payload.length = 5 ∧ byteAt r.payload 0 = 2 ∧ byteAt r.payload 1 = 0 ∧ field r.payload 2 2 = 5
            ∧ (s.client 0).active = true ∧ (s.coll 5).kind = .album ∧ (s.decision 0 5 (s.coll 5).owner.1).basis = .owner)
      ∧ (Met .grantRead 0#16 [2, 15, 5, 0, 0] ((granted .deny).setClient 15 (person .viewer 1)) fun s _ =>
          (s.client 15).active = true ∧ (s.decision 15 5 (s.coll 5).owner.1).basis = .grant 2 3)
      ∧ (filled.decision 15 5 0).basis = .noGrant ∧ (filled.client 15).active = false ∧ (filled.coll 1023).state = .free
      ∧ (filled.coll 3).kind = .snapshot ∧ ((withColl fun l => { l with state := .retiring, kind := .album }).coll 3).state
          = .retiring := by decide +kernel

theorem witness_AccessDecisionAndItsReading_scopes : (granted .deny).GrantsSound := by
  decide +kernel

/-! ### Witnesses: plans -/

/-- Plan 0 on object 9 in the state given. -/
def reading (state : PlanState) (bays : BitVec 4) : Plan :=
  { Plan.free with state := state, client := 0, object := 9, epoch := 1, heldBays := bays }

/-- `filled` with that plan open. -/
def planned (state : PlanState) (bays : BitVec 4) : State :=
  (withObject fun o => { o with planHolds := 1 }).setPlan 0 (reading state bays)

theorem witness_PlanOpenAndScanToItsEnd :
    (∀ k ∈ [3, 5], Met .planOpen 0#16 ([0] ++ le 2 k ++ le 4 9) filled fun s r =>
        Readable s ∧ s.bxp.power = .run ∧ r.payload.length = 7 ∧ (s.plan 0).state = .free ∧ (s.client 0).active = true
          ∧ (s.coll k).state = .open ∧ (s.object 9).state = .complete ∧ 9 ∈ (s.coll k).members
          ∧ (s.decision 0 5 0).allowed = true)
      ∧ (∀ k ∈ [3, 5], Met .planOpen 0#16 ([15] ++ le 2 k ++ le 4 9) (filled.setClient 15 (person .viewer 1)) fun s r =>
        r.payload.length = 7 ∧ (s.client 15).active = true ∧ 15 ≠ (s.coll k).owner.1 ∧ (s.decision 15 5 0).allowed = false)
      ∧ (let x := { reading .scanning 0 with scanPos := some 0, scanBays := some 2 }
         let s := (withObject fun o => { o with recipe := [.indexed 32, .indexed 32] }).setPlan 0 x
         (s.plan 0).scanPos = some 0 ∧ (s.plan 0).scanBays = some 2 ∧ (s.object (s.plan 0).object).recipe[0]? = some (.indexed 32)
           ∧ 0 + 1 < (s.object (s.plan 0).object).recipe.length ∧ 1 + 1 = (s.object (s.plan 0).object).recipe.length
           ∧ (s.plan 0).state = .scanning ∧ (s.plan 0).heldBays = 0 ∧ (s.bay 1).state ≠ .empty)
      ∧ (filled.plan 0).scanPos = none := by decide +kernel

/-- A scan of bays 1 and 2 ends where the plan holds none, bay 1 (by a fetch) or bay 2; with the bays of `filled`, of reset,
and in BAY_LOST. -/
theorem witness_PlanOpenAndScanToItsEnd_ends :
    ∀ p ∈ [0, 15], ∀ st ∈ [PlanState.scanning, .bayLost], ∀ held ∈ [0#4, 2#4, 6#4],
      let x := { reading st held with scanPos := some 1, scanBays := some 6 }
      ((filled.setPlan p x).plan p).scanBays = some 6 ∧ ((filled.setPlan p x).plan p).state = st
        ∧ ((filled.setPlan p x).plan p).heldBays = held ∧ (filled.bay 2).state ≠ .empty ∧ (State.reset.bay 2).state = .empty := by
  decide +kernel

theorem witness_PlanOpenAndScanToItsEnd_fields :
    ∀ p ∈ [[], [16] ++ le 2 3 ++ le 4 9, [0] ++ le 2 1024 ++ le 4 9, [0] ++ le 2 3 ++ le 4 1048576],
      Said .planOpen .planOpen 0#16 (.plain p) filled .badField := by decide +kernel

/-- Each check fails alone, with those before it met. -/
theorem witness_PlanOpenAndScanToItsEnd_refused :
    ∀ x ∈ [({ filled with bxp.power := .standbyEntry }, Status.state),
        ({ filled with rpb.plans := Vector.replicate 16 (reading .ready 0) }, .full),
        (filled.setClient 0 (Client.free 1), .noSuch), (withColl fun l => { l with state := .retiring }, .noSuch),
        (withObject fun o => { o with state := .retiring }, .noSuch), (withColl fun l => { l with members := [8] }, .noSuch),
        (withColl fun l => { l with state := .closed }, .ok)],
      Said .planOpen .planOpen 0#16 (.plain ([0] ++ le 2 3 ++ le 4 9)) x.1 x.2 := by decide +kernel

theorem witness_PlanFetchAndDone :
    (∀ st ∈ [PlanState.free, .ready], Met .planDone 0#16 [] (filled.setPlan 0 (reading st 0)) fun s r =>
        Readable s ∧ r.payload = [] ∧ (s.plan 0).state = st)
      ∧ (∀ st ∈ [PlanState.free, .ready], ∀ n ∈ [1, 512],
          Met .planFetch 0#16 (le 4 0 ++ le 2 n) (filled.setPlan 0 (reading st 0)) fun s r =>
            r.payload.length = 6 ∧ field r.payload 4 2 = n ∧ (s.plan 0).state = st)
      ∧ ((planned .ready 2).plan 0).heldBays.getLsbD 1 = true ∧ ((planned .ready 0).plan 0).heldBays.getLsbD 3 = false
      ∧ (State.reset.bay 3).state = .empty ∧ (filled.bay 3).state ≠ .empty
      ∧ (filled.rtu.walk = .idle ∧ filled.tiu.load = .loaded
          ∧ let s : State := { (withObject fun o => { o with state := .retiring }) with rtu.orders := [.object 9] }
            s.rtu.orders.find? s.walkable = some (.object 9))
      ∧ (planned .ready 2).rtu.orders.find? filled.walkable = none
      ∧ ({ planned .ready 2 with tiu.exporting := true } : State).tiu.exporting = true
      ∧ ((filled.setChunk 32 { filled.chunk 32 with state := .damaged }).chunk 32).state = .damaged := by decide +kernel

theorem witness_PlanFetchAndDone_refused :
    let run (n : Nat) : List Byte := le 4 0 ++ le 2 n
    (∀ x ∈ [(16#16, run 1), (255#16, run 1), (0#16, []), (0#16, run 0), (0#16, run 513)],
        Said .planFetch .planFetch x.1 (.plain x.2) (planned .ready 2) .badField)
      ∧ (∀ a ∈ [15, 0xFF0F], Said .planFetch .planFetch (BitVec.ofNat 16 a) (.plain (run 512)) filled .state)
      ∧ (∀ x ∈ [(16#16, []), (255#16, []), (0#16, [0])],
        Said .planDone .planDone x.1 (.plain x.2) (planned .ready 2) .badField)
      ∧ ∀ a ∈ [15, 0xFF0F], Said .planDone .planDone (BitVec.ofNat 16 a) (.plain []) filled .state := by decide +kernel

/-- A check of ordinal 0 with `n` bytes so far. -/
def checking (n : Nat) : CheckContext :=
  { ordinal := 0, loc := { bay := 1, block := 7 }, expected := 100, received := n, running := Running.start }

theorem witness_PlanCheck :
    let payload (n : Nat) := le 4 0 ++ [1] ++ le 6 7 ++ [0] ++ List.replicate n 1
    (∀ n ∈ [1, 100, 101], ∀ last ∈ [0, 1],
        Met .planCheck (BitVec.ofNat 16 (256 * (2 + last))) (payload n) (planned .ready 2) fun s r =>
          Readable s ∧ r.aux.toNat = 0 + 256 * (2 + last) ∧ 12 ≤ r.payload.length ∧ field r.payload 0 4 = 0
            ∧ byteAt r.payload 4 = 1 ∧ field r.payload 5 6 = 7 ∧ (s.plan 0).state ≠ .free
            ∧ (s.object (s.plan 0).object).recipe[0]? = some (.indexed 32) ∧ (s.locate (.indexed 32)).length = 100)
      ∧ (∀ n ∈ [0, 99], ∀ last ∈ [0, 1],
        Met .planCheck (BitVec.ofNat 16 (256 * last)) (payload 1)
          (filled.setPlan 0 { reading .ready 2 with check := some (checking n) }) fun s r =>
            r.aux.toNat = 0 + 256 * (0 + last) ∧ (s.plan 0).check = some (checking n))
      ∧ (filled.chunk 32).loc = some { bay := 1, block := 7 } ∧ (filled.chunk 32).state = .present
      ∧ (filled.chunk 33).loc ≠ some { bay := 1, block := 7 }
      ∧ (filled.tiu.exporting = false ∧ ({ filled with tiu.exporting := true } : State).tiu.exporting = true) := by
  decide +kernel

theorem witness_PlanCheck_refused :
    let payload (ordinal block : Nat) (bay : Byte) := le 4 ordinal ++ [bay] ++ le 6 block ++ [0, 1]
    let joined := filled.setPlan 0 { reading .ready 2 with check := some (checking 1) }
    (∀ x ∈ [(16#16, payload 0 7 1), (0x2FF#16, payload 0 7 1), (0x400#16, payload 0 7 1), (0x200#16, payload 0 7 4),
          (0x200#16, (payload 0 7 1).take 11), (0x200#16, payload 1 7 1), (0#16, payload 0 7 1)],
        Said .planCheck .planCheck x.1 (.plain x.2) (planned .ready 2) .badField)
      ∧ Said .planCheck .planCheck 0x20F#16 (.plain (payload 0 7 1)) (planned .ready 2) .state
      ∧ (∀ x ∈ [(0#16, payload 0 8 1), (0x100#16, payload 0 7 2)], Said .planCheck .planCheck x.1 (.plain x.2) joined .badField)
      ∧ Said .planCheck .planCheck 0#16 (.plain (payload 1 7 1))
          (joined.setObject 9 { filled.object 9 with recipe := [.indexed 32, .indexed 32] }) .badField
      ∧ Said .planCheck .planCheck 0#16 (.plain (payload 0 7 1)) joined .ok := by decide +kernel

/-! ### Witnesses: bays and power -/

/-- `up` with bay 1 as given. -/
def bayed (f : Bay → Bay) : State := { up with bpc.bays := put up.bpc.bays 1 (f (up.bay 1)) }

theorem witness_BayRequestsHoldsAndQueue :
    (∀ st ∈ [BayState.empty, .off], ∀ manual ∈ [true, false],
        Met .bayHold 0#16 [1] (bayed fun x => { x with state := st, manual := manual }) fun s r =>
          r.payload.length = 1 ∧ byteAt r.payload 0 = 1 ∧ s.bxp.power = .run ∧ (s.bay 1).state = st
            ∧ (s.bay 1).manual = manual)
      ∧ (Met .bayHold 0#16 [3] leaving fun s _ => s.bxp.power ≠ .run)
      ∧ (Met .bayRelease 0#16 [3] up fun _ r => r.payload.length = 1 ∧ byteAt r.payload 0 = 3)
      ∧ (let b : Bpc := { up.bpc with queue := [1] }
         b.queue = 1 :: [] ∧ b.totalDraw + 5 ≤ 12 ∧ b.totalDraw + 5 ≤ 5 ∧ 4 < b.totalDraw + 5)
      ∧ ∀ st ∈ [BayState.off, .queued, .spinningUp, .ready, .spinningDown], ∀ n ∈ [0, 1, 2],
          let x := (bayed fun x => { x with state := st, streamHolds := n }).bay 1
          x.state = st ∧ x.streamHolds = n ∧ x.planHolds = 0 ∧ x.manual = false := by decide +kernel

theorem witness_BayRequestsHoldsAndQueue_refused :
    ∀ p ∈ [[], [4], [0, 0]], Said .bayHold .bayHold 0#16 (.plain p) up .badField
      ∧ Said .bayRelease .bayRelease 0#16 (.plain p) up .badField := by decide +kernel

theorem witness_BayTimersPresenceAndReports :
    (let s := (bayed fun x => { x with state := .ready, planHolds := 1 }).setPlan 0 (reading .waiting 2)
     (s.plan 0).state = .waiting ∧ (s.plan 0).heldBays.getLsbD 1 = true
       ∧ (∀ k < 4, (s.plan 0).heldBays.getLsbD k = true → (s.bay k).state = .ready))
      ∧ (up.plan 0).state ≠ .waiting
      ∧ (∀ t ∈ [(BayTimer.spinUp, 0), (.idle, 0), (.spinDown, 0), (.spinUp, 1)], ∀ n ∈ [0, 1],
          let x := (bayed fun x => { x with timer := some t, respin := true, streamHolds := n }).bay 1
          x.timer = some t ∧ x.respin = true ∧ x.streamHolds = n)
      ∧ (∀ n ∈ [1, 2], ∀ here ∈ [true, false],
          let x := (bayed fun x => { x with differ := n, present := here }).bay 1
          x.differ = n ∧ x.present = here) := by decide +kernel

theorem witness_StandbyEntryAndAbandonment :
    (∀ k ∈ [Kind.standbyEnter, .returnPrior], ∀ back ∈ [true, false],
        Met k 0#16 [] { up with bxp.returnStandby := back } fun s r =>
          r.payload = [] ∧ s.bxp.power = .run ∧ s.bxp.returnStandby = back ∧ s.bxp.due = 0
            ∧ s.slc.latched.getLsbD 6 = false ∧ s.tiu.load ≠ .loading ∧ s.tiu.exporting = false)
      ∧ ((∀ i < 4, (up.bay i).manual = false) ∧ (∀ c < 16, (up.client c).holdStatus = .empty)
          ∧ (∀ i < 8, (up.stream i).state = .closed) ∧ ∀ p < 16, (up.plan p).state = .free)
      ∧ ((writing .open []).stream 1).state ≠ .closed ∧ ((planned .ready 0).plan 0).state ≠ .free
      ∧ ((bayed fun x => { x with manual := true }).bay 1).manual = true
      ∧ (∀ k ∈ [Kind.standbyEnter, .returnPrior], Met k 0#16 [] leaving fun s r => r.payload = [] ∧ s.bxp.power ≠ .run)
      ∧ (let s : State := { leaving with bxp.sleepAcked := true }
         s.bxp.power = .standbyEntry ∧ s.bxp.sleepAcked = true ∧ s.bpc.allStopped = true)
      ∧ (let s : State := { leaving with bxp.timer := some (.handshake, 0) }
         s.bxp.power = .standbyEntry ∧ s.bxp.sleepAcked = false ∧ s.bxp.timer = some (.handshake, 0))
      ∧ leaving.bxp.timer ≠ some (.handshake, 0) ∧ ({ leaving with slc.link := .sleep } : State).slc.link = .sleep := by
  decide +kernel

/-- The link sleeps with and without an ATTENTION owed; every bay is stopped, or bay 1 is not. -/
theorem witness_StandbyEntryAndAbandonment_ends :
    (∀ owed ∈ [true, false],
        let s : State := { leaving with slc := { leaving.slc with link := .sleep, owed := owed, outgoing := [] } }
        s.slc.link = .sleep ∧ s.slc.owed = owed ∧ (s.pendingNotices ||| 16#11) &&& s.slc.enables ≠ 0#11
          ∧ .attention ∉ s.slc.outgoing)
      ∧ (∀ i < 4, (leaving.bay i).state = .off ∨ (leaving.bay i).state = .empty)
      ∧ ¬ (((bayed fun x => { x with state := .spinningDown }).bay 1).state = .off
          ∨ ((bayed fun x => { x with state := .spinningDown }).bay 1).state = .empty) := by decide +kernel

theorem witness_StandbyEntryAndAbandonment_payload :
    ∀ k ∈ [Kind.standbyEnter, .returnPrior], Met k 0#16 [0] up fun _ r => r.payload ≠ [] := by decide +kernel

theorem witness_WakeTimersAndButton :
    (∀ n ∈ [0, 1, 2], let s : State := { State.reset with bxp := { State.reset.bxp with
        failures := n, timer := some (.wake, 0) } }
        s.bxp.power = .waking ∧ s.bxp.timer = some (.wake, 0) ∧ s.bxp.failures = n)
      ∧ (let s : State := { State.reset with bxp := { State.reset.bxp with phase := .pause, timer := some (.pause, 0) } }
         s.bxp.power = .waking ∧ s.bxp.timer = some (.pause, 0))
      ∧ State.reset.bxp.timer ≠ some (.wake, 0)
      ∧ ∀ p ∈ [PowerState.run, .standbyEntry, .standby, .halted, .waking],
          ({ up with bxp.power := p } : State).bxp.power = p := by decide +kernel

/-! ### Witnesses: the network side -/

/-- A frame of `n` bytes from 02:00:00:00:00:01, all others 7. -/
def frame (n : Nat) : List Byte := List.replicate 6 7 ++ [2, 0, 0, 0, 0, 1] ++ List.replicate (n - 12) 7

/-- In watch mode, with client 3 watching for 7 at offset 0 under the hold status given. -/
def watching (power : PowerState) (hold : HoldStatus) (held : List (List Byte)) : State :=
  let c := up.setClient 3 { person .family 1 with
    filters := [{ offset := 0, pattern := [7], mask := [0xFF] }], holdStatus := hold, held := held }
  { c with bxp := { up.bxp with power := power }, nwu := { up.nwu with mode := .watch } }

theorem witness_FramesInAndOut :
    (∀ n ∈ [60, 1518], (frame n).length = n) ∧ (frame 59).length < 60 ∧ 1518 < (frame 1519).length
      ∧ (up.nwu.mode = .pass ∧ ({ up with nwu.receive := List.replicate 63 ⟨false, []⟩ } : State).nwu.receive.length < 64
          ∧ 64 ≤ ({ up with nwu.receive := List.replicate 64 ⟨false, []⟩ } : State).nwu.receive.length)
      ∧ (let x : Template := { offset := 0, pattern := [7], mask := [0xFF], reply := frame 60 }
         let s : State := { watching .standby .empty [] with nwu.templates := put up.nwu.templates 3 (some x) }
         s.nwu.mode = .watch ∧ s.template 3 = some x ∧ x.matchesFrame (frame 60) = true ∧ ∀ j < 3, s.template j = none)
      ∧ (∀ p ∈ [PowerState.standby, .standbyEntry, .waking],
          ∀ h ∈ [(HoldStatus.empty, 0), (.one, 1), (.two, 2), (.lost, 2)],
          let s := watching p h.1 (List.replicate h.2 (frame 60))
          s.nwu.mode = .watch ∧ s.tiu.load = .loaded ∧ s.bxp.power = p ∧ (s.client 3).active = true
            ∧ slice (frame 60) 6 6 = (s.client 3).address ∧ (s.client 3).holdStatus = h.1
            ∧ ((s.client 3).filters.any fun x => x.matchesFrame (frame 60)) = true
            ∧ (∀ j < 3, (s.client j).active = false) ∧ ∀ k < 4, s.template k = none)
      ∧ (∀ n ∈ [14, 1518], Met .frameOut 0#16 (frame n) up fun s r => r.payload.length = n ∧ s.nwu.transmit.length < 4)
      ∧ (∀ n ∈ [13, 1519], Met .frameOut 0#16 (frame n) up fun _ r => r.payload.length < 14 ∨ 1518 < r.payload.length)
      ∧ (Met .frameOut 0#16 (frame 14) { up with nwu.transmit := List.replicate 4 [] } fun s _ => 4 ≤ s.nwu.transmit.length)
      ∧ (Met .frameOut 0#16 (frame 14) (watching .standby .empty []) fun s _ => s.nwu.mode = .watch)
      ∧ (let s : State := { up with nwu.transmit := [[1]] }
         s.nwu.onWire = none ∧ s.nwu.transmit = [1] :: [] ∧ ({ s with nwu.onWire := some [1] } : State).nwu.onWire ≠ none) := by
  decide +kernel

theorem witness_FiltersAndTemplates :
    (∀ n ∈ [1, 32], let f : Filter := ⟨1499, List.replicate n 1, List.replicate n 2⟩
        let bytes := le 1 0 ++ le 1 2 ++ [f, f].flatMap fun f => le 2 f.offset ++ le 1 f.pattern.length ++ f.pattern ++ f.mask
        Met .filterSet 0#16 bytes filled (fun s r =>
          Changeable s ∧ (s.client 0).active = true ∧ [f, f].length ≤ 2 ∧ f.mask.length = f.pattern.length ∧ r.payload = bytes))
      ∧ (Met .filterSet 0#16 [0, 0, 9] filled fun _ r => r.payload = (le 1 0 ++ le 1 ([] : List Filter).length ++ []) ++ [9])
      ∧ (Met .templateSet 0#16 [3, 0] up fun _ r => r.payload = le 1 3 ++ [0#8])
      ∧ (∀ n ∈ [(1, 60), (64, 128)], let x : Template := ⟨1499, List.replicate n.1 1, List.replicate n.1 2, List.replicate n.2 3⟩
          let bytes := le 1 3 ++ [1#8] ++ le 2 x.offset ++ le 1 x.pattern.length ++ le 1 x.reply.length ++ x.pattern ++ x.mask
            ++ x.reply
          Met .templateSet 0#16 bytes up fun _ r => r.payload = bytes ∧ x.pattern.length = n.1 ∧ x.reply.length = n.2) := by
  decide +kernel

theorem witness_FiltersAndTemplates_refused :
    let filter (offset n : Nat) : List Byte := le 2 offset ++ le 1 n ++ List.replicate (2 * n) 1
    let template (offset n reply : Nat) : List Byte :=
      [3, 1] ++ le 2 offset ++ le 1 n ++ le 1 reply ++ List.replicate (2 * n + reply) 1
    (∀ x ∈ [(2#16, [0, 0]), (65535#16, [0, 0]), (0#16, []), (0#16, [0]), (0#16, [16, 0]), (0#16, [0, 3]),
          (0#16, [0, 1] ++ filter 1500 1), (0#16, [0, 1] ++ filter 0 0), (0#16, [0, 1] ++ filter 0 33),
          (0#16, [0, 2] ++ filter 0 1)],
        Said .filterSet .filterSet x.1 (.plain x.2) filled .badField)
      ∧ Said .filterSet .filterSet 0#16 (.plain ([15, 1] ++ filter 1499 32)) filled .noSuch
      ∧ ∀ x ∈ [(2#16, [3, 0]), (65535#16, [3, 0]), (0#16, []), (0#16, [4, 0]), (0#16, [3, 2]), (0#16, [3, 0, 0]),
          (0#16, template 1500 1 60), (0#16, template 0 0 60), (0#16, template 0 65 60), (0#16, template 0 1 59),
          (0#16, template 0 1 129), (0#16, template 0 1 60 ++ [1])],
        Said .templateSet .templateSet x.1 (.plain x.2) up .badField := by decide +kernel

/-! ### Witnesses: images -/

/-- In LOADING with a trailer whose counts agree: nothing was imported. -/
def importing : State :=
  { up with tiu := { up.tiu with
    load := .loading, cursor := { ImportCursor.start with trailer := some (List.replicate 9 0) } } }

theorem witness_ImageTransfersAndFreeze :
    (∀ k ∈ [Kind.tablesInit, .imageExport], Met k 0#16 [] up fun s r =>
        r.payload = [] ∧ s.bxp.power = .run ∧ s.tiu.exporting = false ∧ s.tiu.load = .loaded
          ∧ (∀ i < 8, (s.stream i).state = .closed) ∧ ∀ p < 16, (s.plan p).state = .free)
      ∧ (∀ l ∈ [LoadState.unloaded, .loading, .loaded, .loadFailed], ∀ x ∈ [true, false],
          ∀ k ∈ [Kind.imageImport, .imageCancel],
          Met k 0#16 [] { up with tiu := { up.tiu with load := l, exporting := x } } fun s r =>
            r.payload = [] ∧ s.tiu.load = l ∧ s.tiu.exporting = x ∧ s.bxp.power = .run)
      ∧ (∀ l ∈ [LoadState.unloaded, .loading, .loaded, .loadFailed], ∀ x ∈ [true, false], ∀ n ∈ [1, 255],
          ∀ a ∈ [0, 1],
          Met .imageNext (BitVec.ofNat 16 a) (le 2 n) { up with tiu := { up.tiu with load := l, exporting := x } } fun s r =>
            r.payload.length = 2 ∧ field r.payload 0 2 = n ∧ s.tiu.load = l ∧ s.tiu.exporting = x)
      ∧ (0 + 1 < up.image.length ∧ up.image.length ≤ 0 + ((up.image.drop 0).take 255).length) := by decide +kernel

/-- The refusals: outside RUN, and in each load state with the exporting flag set. -/
theorem witness_ImageTransfersAndFreeze_refused :
    (∀ k ∈ [Kind.tablesInit, .imageExport], Met k 0#16 [] leaving fun s _ => s.bxp.power ≠ .run)
      ∧ (∀ l ∈ [LoadState.unloaded, .loading, .loaded, .loadFailed],
          Met .imageExport 0#16 [] { up with tiu := { up.tiu with load := l, exporting := true } } fun s _ =>
            s.tiu.load = l) := by decide +kernel

/-- A count or an aux that IMAGE_NEXT does not take. -/
theorem witness_ImageTransfersAndFreeze_counts :
    (∀ n ∈ [0, 256], Met .imageNext 1#16 (le 2 n) up fun _ r => r.payload.length = 2 ∧ field r.payload 0 2 = n)
      ∧ (Met .imageNext 2#16 (le 2 1) up fun _ r => 1 < r.aux.toNat)
      ∧ Met .imageNext 0#16 [1] up fun _ r => r.payload.length ≠ 2 := by decide +kernel

theorem witness_ImageTransfersAndFreeze_payload :
    up.bxp.power = .run ∧ up.tiu.exporting = false ∧ up.tiu.load = .loaded
      ∧ ∀ k ∈ [Kind.tablesInit, .imageExport, .imageImport, .imageCancel], Met k 0#16 [0] up fun _ r => r.payload ≠ [] := by
  decide +kernel

theorem witness_ImageTransfersAndFreeze_walks :
    (let s := walkingAt (.object 9) 4096 (withObject fun o => { o with state := .retiring })
     s.tiu.load = .loaded ∧ s.tiu.exporting = false ∧ s.rtu.current = some (.object 9) ∧ s.rtu.nested = none
       ∧ (s.object 9).recipe.head? = some (.indexed 32) ∧ 4096 ≤ (makeDeferredCheck s).rtu.release.length)
      ∧ (let s : State := { (withObject fun o => { o with state := .retiring }) with rtu.orders := [.object 9] }
         s.rtu.current = none ∧ s.rtu.orders.find? s.walkable = some (.object 9))
      ∧ up.rtu.current = none ∧ up.rtu.orders.find? up.walkable = none := by decide +kernel

theorem witness_ImagePutAndEnd :
    (∀ l ∈ [LoadState.unloaded, .loading, .loaded, .loadFailed],
        let b := Body.batch [imageRecord 1 0 0 Settings.default.bytes] true
        let s := asked .imagePut 0#16 b { up with tiu := { up.tiu with load := l } }
        Offered s .imagePut (req .imagePut 0#16 b) ∧ s.tiu.load = l)
      ∧ (let s : State := { up with tiu := { up.tiu with load := .loading } }
         s.tiu.inOrder (ImageEntry.ofBytes (imageRecord 1 0 0 Settings.default.bytes)) = true
           ∧ s.tiu.inOrder (ImageEntry.ofBytes (imageRecord 1 1 0 [])) = false
           ∧ (match applyRecord (ImageEntry.ofBytes (imageRecord 1 0 0 Settings.default.bytes)) s with
              | .written _ _ _ => true | .refused _ => false) = true
           ∧ (match applyRecord (ImageEntry.ofBytes (imageRecord 2 0 16 [])) s with
              | .written _ _ _ => false | .refused _ => true) = true)
      ∧ (Met .imageEnd 0#16 [] importing fun s r =>
          r.payload = [] ∧ s.tiu.load = .loading ∧ s.tiu.cursor.trailer = some s.tiu.cursor.applied ∧ s.oct.objects = []
            ∧ s.chunks = [] ∧ s.oct.colls = [] ∧ s.rtu.release = [] ∧ s.rtu.deferred = [])
      ∧ (Met .imageEnd 0#16 [] { importing with tiu.cursor := ImportCursor.start } fun s _ =>
          s.tiu.load = .loading ∧ s.tiu.cursor.trailer ≠ some s.tiu.cursor.applied)
      ∧ Met .imageEnd 0#16 [] up fun s _ => s.tiu.load ≠ .loading := by decide +kernel

/-- An import that awaits the mask of a filter of pattern 7 at offset 0. -/
def awaiting : State := { importing with tiu := { importing.tiu with
  cursor := { importing.tiu.cursor with filterHead := some (0, [7]) } } }

/-- The grant of `granted` in an image record. -/
def grantContent : List Byte := slice ((granted .deny).grantRecord 2) 0 16

theorem witness_ImagePutAndEnd_records :
    (let e : ImageEntry := ⟨2, 1, 0, []⟩
     e.code = 2 ∧ e.part ≠ 0 ∧ importing.tiu.cursor.filterHead = none ∧ awaiting.tiu.cursor.filterHead = some (0, [7]))
      ∧ (byteAt [1#8] 0 = 1 ∧ byteAt [2#8] 0 = 2 ∧ byteAt [0#8] 0 ≠ 1 ∧ byteAt [0#8] 0 ≠ 2)
      ∧ imageGrant grantContent = some ((granted .deny).grant 2) ∧ imageGrant [] = none
      ∧ field (1#8 :: le 4 1023) 1 4 < 1024 ∧ field (2#8 :: le 4 1048575) 1 4 < 1048576
      ∧ ¬ (field (1#8 :: le 4 1024) 1 4 < 1024) := by decide +kernel

/-- `importing` with the tables given. -/
def imported (objects : Table Obj) (colls : Table Coll) (chunks : Table Chunk) (release : List Extent)
    (deferred : List Deferred) : State :=
  { importing with
    oct := ⟨objects, colls, 100⟩, chunks := chunks, rtu := { Rtu.empty with release := release, deferred := deferred } }

/-- A live entry that is pinned, at block 7 of bay 1. -/
def pinned : Chunk := { filled.chunk 32 with refcount := 16777215 }

/-- The failing record of each check of IMAGE_END stands first in its table, and the checks before it pass. -/
theorem witness_ImagePutAndEnd_failed_checks :
    let o : Obj := { Obj.free with state := .retiring, owner := (0, 1) }
    let c : Coll := { Coll.free with state := .retiring, owner := (0, 1) }
    let x : Extent := { bay := 1, block := 7, length := 100 }
    (let s := imported [(9, { o with recipe := [.indexed 32] })] [] [] [] []
     s.tiu.cursor.trailer = some s.tiu.cursor.applied
       ∧ FirstAt s.oct.objects (fun y => ∃ h, .indexed h ∈ y.2.recipe ∧ (s.chunk h).state = .empty) 0
           (9, { o with recipe := [.indexed 32] }))
      ∧ FirstAt (imported [] [] [(32, filled.chunk 32)] [] []).chunks
          (fun y => y.2.refcount ≠ 16777215 ∧ y.2.refcount ≠ 0) 0 (32, filled.chunk 32)
      ∧ (let s := imported [] [(3, { c with members := [9] })] [] [] []
         FirstAt s.oct.colls (fun y => ∃ m ∈ y.2.members, (s.object m).state = .free) 0 (3, { c with members := [9] }))
      ∧ (let s := imported [(9, { o with holders := 1 })] [] [] [] []
         (∀ y ∈ s.oct.objects, y.2.recipe = []) ∧ s.chunks = [] ∧ s.oct.colls = []
           ∧ FirstAt s.oct.objects (fun y => y.2.holders ≠ 0) 0 (9, { o with holders := 1 }))
      ∧ (let s := imported [] [(3, c)] [] [] []
         (∀ y ∈ s.oct.colls, y.2.members = []) ∧ s.oct.objects = []
           ∧ FirstAt s.oct.colls (fun y => y.2.state = .retiring ∧ .coll y.1 ∉ s.rtu.orders) 0 (3, c))
      ∧ (let s := imported [(9, o)] [] [] [] []
         (∀ y ∈ s.oct.objects, y.2.recipe = [] ∧ y.2.holders = 0) ∧ s.oct.colls = []
           ∧ FirstAt s.oct.objects (fun y => y.2.state = .retiring ∧ .object y.1 ∉ s.rtu.orders) 0 (9, o))
      ∧ (let s := imported [] [] [(32, pinned)] [x] []
         (∀ y ∈ s.chunks, y.2.refcount = 16777215) ∧ s.oct.objects = [] ∧ s.oct.colls = []
           ∧ FirstAt s.rtu.release
               (fun y => ∃ e ∈ s.chunks, ∃ l, e.2.loc = some l ∧ y.overlaps (l.extent e.2.length) = true) 0 x)
      ∧ (let s := imported [] [] [(32, pinned)] [] [{ extent := x, tag := 0 }]
         s.rtu.release = []
           ∧ FirstAt (s.rtu.deferred.map Deferred.extent)
               (fun y => ∃ e ∈ s.chunks, ∃ l, e.2.loc = some l ∧ y.overlaps (l.extent e.2.length) = true) 0 x) := by
  intro o c x
  refine ⟨⟨by decide +kernel, [], [], rfl, rfl, ⟨32, by simp, by decide +kernel⟩, nofun⟩,
    ⟨[], [], rfl, rfl, by decide +kernel, nofun⟩, ⟨[], [], rfl, rfl, ⟨9, by simp, by decide +kernel⟩, nofun⟩,
    ⟨by simp [imported, o, Obj.free], rfl, rfl, [], [], rfl, rfl, by simp, nofun⟩,
    ⟨by simp [imported, c, Coll.free], rfl, [], [], rfl, rfl, by decide +kernel, nofun⟩,
    ⟨by simp [imported, o, Obj.free], rfl, [], [], rfl, rfl, by decide +kernel, nofun⟩,
    ⟨by simp [imported, pinned], rfl, rfl, [], [], rfl, rfl,
      ⟨(32, pinned), by simp [imported], { bay := 1, block := 7 }, by decide +kernel, by decide +kernel⟩, nofun⟩,
    rfl, [], [], rfl, rfl,
      ⟨(32, pinned), by simp [imported], { bay := 1, block := 7 }, by decide +kernel, by decide +kernel⟩, nofun⟩

theorem witness_ImageRecordsReadBack :
    (255 < 256 ∧ 4294967295 < 4294967296 ∧ (List.replicate 53 1#8).length ≤ 53)
      ∧ (-720 ≤ Settings.default.zone + -720 ∧ Settings.default.lmax < 4294967296)
      ∧ ((filled.client 0).active = true ∧ (filled.client 0).role ≠ .unset ∧ (filled.client 0).address.length = 6
          ∧ (filled.client 0).label.length = 16 ∧ (filled.client 0).quota = none ∧ (filled.client 0).schedule = none)
      ∧ ((filled.coll 5).state ≠ .free ∧ (filled.coll 5).reserved = 0 ∧ (filled.coll 5).closed = none)
      ∧ ((filled.object 9).state = .complete ∧ (filled.object 9).planHolds = 0)
      ∧ (∀ x ∈ (filled.object 9).recipe, x = .indexed 32)
      ∧ ((filled.chunk 32).state = .present ∧ (filled.chunk 32).writer = none ∧ (filled.chunk 32).payer = some (0, 1))
      ∧ ((granted .allow).grant 2).live = true ∧ ((granted .allow).grant 2).windowEnd < 1440 := by decide +kernel

/-! ### Witnesses: the whole part -/

theorem witness_OnlyTheseCommandsChange :
    (∃ t, exec .clockRead up = .next t) ∧ (∀ sense, Instr.clockRead ≠ .powerOnReset sense)
      ∧ ∀ sense, Instr.clockRead ≠ .secondEvent sense := ⟨⟨_, rfl⟩, nofun, nofun⟩

theorem witness_StepKeepsBaysAndStandby :
    let s : State := { asked .bayHold 0#16 (.plain [1]) up with pending := [.bayHold] }
    ∃ t, step s = .next t ∧ decide s.BaysSound = true ∧ decide s.StandbySound = true ∧ t ≠ s :=
  ⟨_, rfl, by decide +kernel⟩

theorem witness_StepKeepsTheNetworkSide :
    let s : State := { watching .standby .empty [] with pending := [.frameReceived (frame 60) true], slc.link := .down }
    ∃ t, step s = .next t ∧ decide s.NetworkSound = true ∧ t.bxp.power = .waking := ⟨_, rfl, by decide +kernel⟩

theorem witness_StepKeepsTablesAndSizes :
    let s : State := { asked .retireCollection 0#16 (.plain [3, 0]) filled with pending := [.retireCollection] }
    ∃ t, step s = .next t ∧ tidy s = true ∧ decide s.SizesSound = true ∧ (t.coll 3).state = .retiring :=
  ⟨_, rfl, by decide +kernel⟩

theorem witness_StepKeepsTablesAndSizes_grants :
    let b := Body.batch [grantEntryOf 255 1 5 3] true
    let s : State := { asked .grantSet 0#16 b (granted .deny) with pending := [.grantSet] }
    decide s.GrantsSound = true
      ∧ (match step s with
         | .next t => decide t.GrantsSound && decide (t.grants.map (fun g => (g.1, g.2.mode)) = [(2, .allow)])
         | _ => false) = true := by decide +kernel

end Sys2Proof.Tests
end

section
/-!
PROOFS. The notices on the service link (Table 1.7, R16, R18, R19): the bits of the pending set, the code of the first
notice of a set, and the three requests that read and change the sets.
-/

namespace Sys2Proof.Machine

/-! ### A request of the SLC whose checks pass -/

/-- A command that takes its request of any form under checks answers it when the checks pass. -/
theorem answers_of_firstFail_none {i : Instr} {k : Kind} {s t : State} {r : Request} {st : Status} {rec : List Byte}
    (checks : Request → List (Bool × Status)) (f : Request → State → State)
    (hi : exec i s = take k anyForm (fun r => guarded (checks r) r (f r)) s) (ho : Offered s k r)
    (hc : firstFail (checks r) = none) (hf : f r s.quiet = answer r st rec t) : Answers i s r st rec t := by
  obtain ⟨hoffered, hkind⟩ := ho
  rw [Answers, Ends, hi, take_offered k anyForm _ s r hoffered hkind rfl, guarded_pass _ _ _ _ hc, hf]

/-- The one check of a request that has a length stated for its payload passes at that length (R11). -/
theorem firstFail_hasLength {r : Request} {n : Nat} (h : r.payload.length = n) :
    firstFail [(!r.hasLength n, .badField)] = none := by
  simp [Request.hasLength, h]

/-! ### The bits of the pending set -/

/-- The bit of a notice stands in a set of 11 (R16). -/
theorem Notice.bit_lt (n : Notice) : n.bit < 11 := by
  cases n <;> decide

/-- The set of one notice has that notice's bit alone. -/
theorem Notice.getLsbD_setIf (n : Notice) (b : Bool) (k : Nat) :
    (n.setIf b).getLsbD k = true ↔ k = n.bit ∧ b = true := by
  cases b with
  | false => simp [Notice.setIf]
  | true => simp [Notice.setIf, Notice.set, ← BitVec.twoPow_eq, n.bit_lt, eq_comm]

/-- A stream that is halted is found among the 8 contexts. -/
theorem any_halted_iff (s : State) :
    (s.streams.toList.any fun x => decide (x.state = .halted)) = true ↔ ∃ i < 8, (s.stream i).state = .halted := by
  simp only [List.any_eq_true, decide_eq_true_eq, Vector.mem_toList_iff, Vector.mem_iff_getElem]
  constructor
  · rintro ⟨x, ⟨i, hi, rfl⟩, hx⟩
    exact ⟨i, hi, by rwa [State.stream, slot_of_lt _ _ _ hi]⟩
  · rintro ⟨i, hi, hx⟩
    rw [State.stream, slot_of_lt _ _ _ hi] at hx
    exact ⟨_, ⟨i, hi, rfl⟩, hx⟩

/-- A set is not empty when it has some bit. -/
theorem ne_zero_iff_exists_getLsbD {w : Nat} (x : BitVec w) : x ≠ 0#w ↔ ∃ c < w, x.getLsbD c = true := by
  simp only [Ne, BitVec.zero_iff_eq_false, not_forall, Bool.not_eq_false]
  exact ⟨fun ⟨c, h⟩ => ⟨c, BitVec.lt_of_getLsbD h, h⟩, fun ⟨c, _, h⟩ => ⟨c, h⟩⟩

/-- A notice is pending when its flag is latched or it is a level notice whose condition holds (Table 1.7, R16). -/
theorem State.getLsbD_pendingNotices (s : State) (k : Nat) :
    s.pendingNotices.getLsbD k = true ↔ s.slc.latched.getLsbD k = true
      ∨ k = 1 ∧ s.rtu.walk = .paused
      ∨ k = 2 ∧ s.rtu.release ≠ []
      ∨ k = 3 ∧ (∃ i < 8, (s.stream i).state = .halted)
      ∨ k = 5 ∧ (∃ c < 16, s.bxp.due.getLsbD c = true)
      ∨ k = 10 ∧ s.bck.clockSet = false := by
  rw [← any_halted_iff, ← ne_zero_iff_exists_getLsbD]
  simp only [State.pendingNotices, State.levelNotices, BitVec.getLsbD_or, Notice.getLsbD_setIf, Notice.bit,
    Bool.or_eq_true, decide_eq_true_eq, Bool.not_eq_true', List.isEmpty_eq_false_iff, or_assoc]

/-- A notice that is no level notice is pending exactly when its flag is latched. -/
theorem State.getLsbD_pendingNotices_latched (s : State) {k : Nat} (hk : k ∈ [0, 4, 6, 7, 8, 9]) :
    s.pendingNotices.getLsbD k = s.slc.latched.getLsbD k := by
  have hlevel : k ≠ 1 ∧ k ≠ 2 ∧ k ≠ 3 ∧ k ≠ 5 ∧ k ≠ 10 := by
    simp only [List.mem_cons, List.not_mem_nil, or_false] at hk
    omega
  obtain ⟨h1, h2, h3, h5, h10⟩ := hlevel
  rw [Bool.eq_iff_iff, s.getLsbD_pendingNotices]
  simp [h1, h2, h3, h5, h10]

/-! ### The code of the first notice of a set -/

/-- The empty set has the code 00h (R18). -/
@[simp] theorem topNotice_zero : topNotice 0#11 = 0#8 := rfl

/-- A set's code is that of its lowest bit (R18). -/
theorem topNotice_of_lowest {set : BitVec 11} {k : Nat} (hk : k < 11) (hset : set.getLsbD k = true)
    (hlow : ∀ j < k, set.getLsbD j = false) : topNotice set = noticeCodes.getD k 0#8 := by
  have hfind : (List.range 11).find? (fun i => set.getLsbD i) = some k :=
    List.find?_range_eq_some.2 ⟨hset, List.mem_range.2 hk, fun j hj => by simp [hlow j hj]⟩
  rw [topNotice, hfind, Option.elim_some]

/-! ### The three requests -/

/-- NOTICE_READ without payload answers the notice record and changes nothing (R18). -/
theorem noticeRead_answers {s : State} {r : Request} (ho : Offered s .noticeRead r) (hp : r.payload = []) :
    Answers .noticeRead s r .ok s.noticeRecord s.quiet :=
  answers_of_firstFail_none (fun r => [(!r.hasLength 0, .badField)]) (fun r s => answer r .ok s.noticeRecord s) rfl ho
    (firstFail_hasLength (by rw [hp]; rfl)) (by rw [State.quiet_noticeRecord])

/-- NOTICE_CLEAR answers the sets of the state whose named flags are cleared (R19). -/
theorem noticeClear_answers {s : State} {r : Request} (ho : Offered s .noticeClear r) (hp : r.payload.length = 2) :
    Answers .noticeClear s r .ok (clearNotices (noticeSet r.payload) s.quiet).noticeSets
      (clearNotices (noticeSet r.payload) s.quiet) :=
  answers_of_firstFail_none (fun r => [(!r.hasLength 2, .badField)])
    (fun r s => answer r .ok (clearNotices (noticeSet r.payload) s).noticeSets (clearNotices (noticeSet r.payload) s))
    rfl ho (firstFail_hasLength hp) rfl

/-- NOTICE_MASK answers the pending set, into which the enables do not enter, and the enables that it sets (R19). -/
theorem noticeMask_answers {s : State} {r : Request} (ho : Offered s .noticeMask r) (hp : r.payload.length = 2) :
    Answers .noticeMask s r .ok (noticeBytes s.pendingNotices ++ noticeBytes (noticeSet r.payload))
      (maskNotices (noticeSet r.payload) s.quiet) :=
  answers_of_firstFail_none (fun r => [(!r.hasLength 2, .badField)])
    (fun r s => answer r .ok (maskNotices (noticeSet r.payload) s).noticeSets (maskNotices (noticeSet r.payload) s))
    rfl ho (firstFail_hasLength hp) rfl

/-! ### The statements -/

/-- Settles O16: the record is that of R18, and its first byte is the code of the lowest bit of the pending enabled set. -/
theorem noticeRead : Obligations.NoticeRead := by
  intro s r ho hp
  refine ⟨topNotice s.pendingEnabled, noticeRead_answers ho hp, fun hempty => ?_, fun k hk hset hlow => ?_⟩
  · rw [State.pendingEnabled, hempty, topNotice_zero]
  · exact topNotice_of_lowest hk hset hlow

/-- Settles O17: the pending set bit by bit, then the two requests over the state with the sets changed. -/
theorem noticesPendingClearedAndMasked : Obligations.NoticesPendingClearedAndMasked := by
  refine ⟨fun s => ⟨fun k hk => s.getLsbD_pendingNotices_latched hk, ?_, ?_, ?_, ?_, ?_⟩,
    fun s r hp => ⟨fun ho => noticeClear_answers ho hp, fun ho => noticeMask_answers ho hp⟩⟩
  all_goals rw [s.getLsbD_pendingNotices]; simp

end Sys2Proof.Machine
end

section
/-!
PROOFS. The box clock (R26, R27): the local minute of day, the record of CLOCK_READ, and the request that reads it.
-/

namespace Sys2Proof.Machine

/-- The local minute is the remainder of R27, which is nonnegative also when the sum is negative. -/
theorem State.minute_eq (s : State) :
    s.minute = ((((s.bck.boxTime / 60 : Nat) : Int) + s.slc.settings.zone) % 1440).toNat := rfl

/-- CLOCK_READ without payload answers the clock record and changes nothing (R26). -/
theorem clockRead_answers {s : State} {r : Request} (ho : Offered s .clockRead r) (hp : r.payload = []) :
    Answers .clockRead s r .ok s.clockRecord s.quiet :=
  answers_of_firstFail_none (fun r => [(!r.hasLength 0, .badField)]) (fun r s => answer r .ok s.clockRecord s) rfl ho
    (firstFail_hasLength (by rw [hp]; rfl)) (by rw [State.quiet_clockRecord])

/-- Settles O20: the record answered is that of Table 2.2, and its local minute is a remainder modulo 1,440. -/
theorem clockRead : Obligations.ClockRead := by
  intro s r ho hp m
  have hrecord : s.clockRecord = le 4 s.bck.boxTime ++ [if s.bck.clockSet then 1#8 else 0#8]
      ++ le 2 (BitVec.ofInt 16 s.slc.settings.zone).toNat ++ le 2 m.toNat := by
    rw [State.clockRecord, flagByte, leSigned, s.minute_eq]; rfl
  exact ⟨hrecord ▸ clockRead_answers ho hp, Int.emod_nonneg _ (by decide), Int.emod_lt_of_pos _ (by decide)⟩

end Sys2Proof.Machine
end

section
/-!
PROOFS. The boundary computation (R54, R55): the window as it slides, the sums A and B by window position, the parity of T,
and the boundary test one range of chunk lengths at a time.
-/

namespace Sys2Proof.Machine

/-! ### The window -/

/-- The bytes that join a window push as many of the oldest out of it (R49). -/
theorem foldl_slideWindow {w : List Byte} (h : w ≠ []) (p : List Byte) :
    p.foldl slideWindow w = (w ++ p).drop p.length := by
  induction p generalizing w with
  | nil => simp
  | cons b bs ih =>
    have hslid : slideWindow w b ≠ [] := by simp [slideWindow]
    obtain ⟨a, as, rfl⟩ := List.exists_cons_of_ne_nil h
    rw [List.foldl_cons, ih hslid]
    simp [slideWindow]

/-- The window after at least as many bytes as it holds is the last of them (R49). -/
theorem foldl_slideWindow_eq_drop {w p : List Byte} (h : w ≠ []) (hp : w.length ≤ p.length) :
    p.foldl slideWindow w = p.drop (p.length - w.length) := by
  rw [foldl_slideWindow h, List.drop_append, List.drop_of_length_le hp, List.nil_append]

/-! ### The sums by window position -/

/-- The byte wk of R54, counted from 1, as a number. -/
def windowByte (w : List Byte) (k : Nat) : Nat := (w.getD (k - 1) 0#8).toNat

/-- The bytes at positions 1, 2, … are the window's bytes in order. -/
theorem map_windowByte (w : List Byte) : (List.range' 1 w.length).map (windowByte w) = w.map BitVec.toNat := by
  apply List.ext_getElem
  · simp
  · intro i hi _
    have hi' : i < w.length := by simpa using hi
    simp [windowByte, hi']

/-- A is the sum over the window positions, plus 31 (R54). -/
theorem windowA_eq_sum (w : List Byte) :
    windowA w = ((List.range' 1 w.length).map (windowByte w)).sum + 31 := by
  rw [map_windowByte, windowA]

/-- The sum of `n` bytes is at most 255 · n. -/
theorem sum_toNat_le (w : List Byte) : (w.map BitVec.toNat).sum ≤ 255 * w.length := by
  have h := List.sum_le_card_nsmul (w.map BitVec.toNat) 255 fun x hx => by
    obtain ⟨b, -, rfl⟩ := List.mem_map.1 hx
    exact Nat.le_of_lt_succ b.isLt
  simpa [mul_comm] using h

/-- A lies between 31 and the value of a window of bytes FFh (R54). -/
theorem windowA_bounds (w : List Byte) : 31 ≤ windowA w ∧ windowA w ≤ 255 * w.length + 31 :=
  ⟨Nat.le_add_left .., Nat.add_le_add_right (sum_toNat_le w) 31⟩

/-- The weighted sum by position, the first position being `k`. -/
theorem weightedSum_eq_sum (k : Nat) (w : List Byte) :
    weightedSum k w = ((List.range' k w.length).map fun j => j * (w.getD (j - k) 0#8).toNat).sum := by
  induction w generalizing k with
  | nil => rfl
  | cons b bs ih =>
    have htail : ((List.range' (k + 1) bs.length).map fun j => j * (bs.getD (j - (k + 1)) 0#8).toNat)
        = (List.range' (k + 1) bs.length).map fun j => j * ((b :: bs).getD (j - k) 0#8).toNat := by
      refine List.map_congr_left fun j hj => ?_
      have hkj : k + 1 ≤ j := (List.mem_range'_1.1 hj).1
      rw [show j - k = (j - (k + 1)) + 1 by omega, List.getD_cons_succ]
    rw [weightedSum, ih, htail, List.length_cons, List.range'_succ, List.map_cons, List.sum_cons, Nat.sub_self,
      List.getD_cons_zero]

/-- B is the sum of k · wk modulo 65,536 (R54). -/
theorem windowB_eq_sum (w : List Byte) :
    windowB w = ((List.range' 1 w.length).map fun k => k * windowByte w k).sum % 65536 := by
  rw [windowB, weightedSum_eq_sum]; rfl

/-! ### The parity of T -/

/-- Modulo 2 the terms k · v k + v k of odd k vanish, and those of even k leave v k. -/
theorem sum_mul_add_sum_mod_two (v : Nat → Nat) (ks : List Nat) :
    ((ks.map fun k => k * v k).sum + (ks.map v).sum) % 2
      = ((ks.filter fun k => decide (k % 2 = 0)).map v).sum % 2 := by
  induction ks with
  | nil => rfl
  | cons k ks ih =>
    simp only [List.map_cons, List.sum_cons]
    rcases Nat.mod_two_eq_zero_or_one k with hk | hk
    · have hterm : k * v k % 2 = 0 := by simp [Nat.mul_mod, hk]
      rw [List.filter_cons_of_pos (by simpa using hk), List.map_cons, List.sum_cons]
      omega
    · have hterm : k * v k % 2 = v k % 2 := by simp [Nat.mul_mod, hk]
      rw [List.filter_cons_of_neg (by simp [hk])]
      omega

/-- Because 40,503 is odd, T has the parity of 1 plus the bytes at even positions (R54). -/
theorem windowT_mod_two (w : List Byte) :
    windowT w % 2
      = (1 + (((List.range' 1 w.length).filter fun k => decide (k % 2 = 0)).map (windowByte w)).sum) % 2 := by
  have hpar := sum_mul_add_sum_mod_two (windowByte w) (List.range' 1 w.length)
  have hA := windowA_eq_sum w
  have hB := windowB_eq_sum w
  rw [windowT]
  omega

/-- A window of 48 bytes of one value has an odd T, since 24 of its positions are even (R54). -/
theorem windowT_odd_of_repeated {w : List Byte} (hlen : w.length = 48)
    (h : ∀ k ∈ List.range' 1 48, windowByte w k = windowByte w 1) : windowT w % 2 = 1 := by
  have hconst : ((List.range' 1 48).filter fun k => decide (k % 2 = 0)).map (windowByte w)
      = List.replicate 24 (windowByte w 1) :=
    List.map_congr_left (fun k hk => h k (List.mem_of_mem_filter hk))
  rw [windowT_mod_two, hlen, hconst, List.sum_replicate, smul_eq_mul]
  omega

/-- An odd number is no multiple of 2 to a positive power. -/
theorem mod_two_pow_ne_zero {t n : Nat} (ht : t % 2 = 1) (hn : n ≠ 0) : t % 2 ^ n ≠ 0 := fun h => by
  have hdvd : 2 ∣ t := (dvd_pow_self 2 hn).trans (Nat.dvd_of_mod_eq_zero h)
  omega

/-! ### The boundary test -/

/-- Below Lmin no boundary lies (R55). -/
theorem boundary_of_lt_lmin {lmin ltgt lmax len : Nat} (w : List Byte) (h : len < lmin) :
    boundary lmin ltgt lmax len w = false := by
  simp [boundary, h]

/-- At Lmax a boundary is forced (R55). -/
theorem boundary_of_lmax_le {lmin ltgt lmax len : Nat} (w : List Byte) (hmin : lmin ≤ len) (h : lmax ≤ len) :
    boundary lmin ltgt lmax len w = true := by
  simp [boundary, Nat.not_lt.2 hmin, h]

/-- From Lmin up to Ltgt = 2^g the test examines g + 1 bits of T (R55). -/
theorem boundary_iff_of_lt_ltgt {lmin g lmax len : Nat} (w : List Byte) (hmin : lmin ≤ len) (hmax : len < lmax)
    (h : len < 2 ^ g) : boundary lmin (2 ^ g) lmax len w = true ↔ windowT w % 2 ^ (g + 1) = 0 := by
  simp [boundary, Nat.not_lt.2 hmin, Nat.not_le.2 hmax, h, Nat.log2_two_pow]

/-- From Ltgt = 2^g up to Lmax the test examines g − 1 bits of T (R55). -/
theorem boundary_iff_of_ltgt_le {lmin g lmax len : Nat} (w : List Byte) (hmin : lmin ≤ len) (hmax : len < lmax)
    (h : 2 ^ g ≤ len) : boundary lmin (2 ^ g) lmax len w = true ↔ windowT w % 2 ^ (g - 1) = 0 := by
  simp [boundary, Nat.not_lt.2 hmin, Nat.not_le.2 hmax, Nat.not_lt.2 h, Nat.log2_two_pow]

/-- An odd T makes no boundary below Lmax, whichever width the test has (R55). -/
theorem boundary_of_odd {lmin g lmax len : Nat} {w : List Byte} (hg : 2 ≤ g) (hmax : len < lmax)
    (hodd : windowT w % 2 = 1) : boundary lmin (2 ^ g) lmax len w = false := by
  rcases Nat.lt_or_ge len lmin with hmin | hmin
  · exact boundary_of_lt_lmin w hmin
  · rw [Bool.eq_false_iff, Ne]
    rcases Nat.lt_or_ge len (2 ^ g) with htgt | htgt
    · rw [boundary_iff_of_lt_ltgt w hmin hmax htgt]
      exact mod_two_pow_ne_zero hodd (by omega)
    · rw [boundary_iff_of_ltgt_le w hmin hmax htgt]
      exact mod_two_pow_ne_zero hodd (by omega)

/-! ### A stream's own test -/

/-- A chunk that has not passed Lmax and makes no boundary is below Lmax, where the boundary is forced (R55). -/
theorem Stream.chunkLength_lt_lmax_of_not_atBoundary {x : Stream} (hle : x.chunkLength ≤ x.lmax) (hmin : x.lmin ≤ x.lmax)
    (h : x.atBoundary = false) : x.chunkLength < x.lmax := by
  refine hle.lt_of_ne fun hmax => ?_
  have hforced : x.atBoundary = true := boundary_of_lmax_le x.window (hmax ▸ hmin) hmax.ge
  simp [h] at hforced

/-! ### The statement -/

/-- Settles O30: the window is the last 48 bytes by induction over those taken, T's parity comes from the sums by position,
and the boundary test is read off range by range, an odd T failing both widths. -/
theorem windowValuesAndBoundaryTest : Obligations.WindowValuesAndBoundaryTest := by
  refine ⟨fun w p hw hp => ?_, fun w hw => ?_⟩
  · have hne : w ≠ [] := List.ne_nil_of_length_pos (by omega)
    rw [foldl_slideWindow_eq_drop hne (by omega), hw]
  · intro v ks
    have hA := windowA_eq_sum w
    have hB := windowB_eq_sum w
    have hT := windowT_mod_two w
    rw [hw] at hA hB hT
    obtain ⟨hlow, hhigh⟩ := windowA_bounds w
    refine ⟨⟨hA, hlow, by omega⟩, hB, rfl, by rw [hT]; rfl, windowT_odd_of_repeated hw, ?_⟩
    rintro x g rfl htgt - hmin hmax
    have htest : x.atBoundary = boundary x.lmin (2 ^ g) x.lmax x.chunkLength x.window := by rw [← htgt]; rfl
    refine ⟨boundary_of_lt_lmin _, fun hlen hlt => ?_, fun hlen hlt => ?_, fun hlen => ?_, fun hg hlt heven => ?_,
      fun b hlt => ⟨rfl, hlt, Stream.chunkLength_lt_lmax_of_not_atBoundary hlt (hmin.trans hmax).le⟩⟩
    · rw [htest, boundary_iff_of_lt_ltgt _ hlen (hlt.trans hmax) (htgt ▸ hlt)]
    · rw [htest, boundary_iff_of_ltgt_le _ (hmin.le.trans hlen) hlt (htgt ▸ hlen)]
    · exact boundary_of_lmax_le _ (hlen ▸ (hmin.trans hmax).le) hlen.ge
    · have hodd : windowT x.window % 2 = 1 := by
        rw [hT, Nat.add_mod]
        exact congrArg (fun n => (1 % 2 + n) % 2) heven
      rw [htest, boundary_of_odd hg hlt hodd]

end Sys2Proof.Machine
end

section
/-!
PROOFS. The access decision (chapter 7): the minutes of a window (R131), the grant in force of a scope (R132, R134), the
first of the four scopes that has one (R133), and the request that reads the decision (R139).
-/

namespace Sys2Proof.Machine

/-! ### Windows -/

/-- A window that starts before it ends lies between its two minutes (R131). -/
theorem insideWindow_of_lt {start stop : Nat} (h : start < stop) (m : Nat) :
    insideWindow start stop m = (decide (start ≤ m) && decide (m < stop)) := if_pos h

/-- A window that starts after it ends runs over midnight (R131). -/
theorem insideWindow_of_gt {start stop : Nat} (h : stop < start) (m : Nat) :
    insideWindow start stop m = (decide (start ≤ m) || decide (m < stop)) := by
  rw [insideWindow, if_neg h.asymm, if_pos h]

/-- A window whose two minutes are equal is empty (R131). -/
@[simp] theorem insideWindow_self (start m : Nat) : insideWindow start start m = false := by
  simp [insideWindow]

/-- A window over midnight is the rest of the day beside the window between the same minutes (R131). -/
theorem insideWindow_eq_not {start stop : Nat} (h : stop < start) (m : Nat) :
    insideWindow start stop m = !insideWindow stop start m := by
  rw [insideWindow_of_gt h, insideWindow_of_lt h, Bool.not_and, Bool.or_comm, ← decide_not, ← decide_not]
  simp only [not_le, not_lt]

/-- The minutes of the day inside a window that starts before it ends are those from its start up to its end. -/
theorem filter_insideWindow_of_lt {start stop day : Nat} (h : start < stop) (hday : stop ≤ day) :
    (List.range day).filter (insideWindow start stop) = List.Ico start stop := by
  have hsplit : insideWindow start stop = fun m => decide (start ≤ m) && decide (m < stop) :=
    funext (insideWindow_of_lt h)
  rw [hsplit, ← List.filter_filter, ← List.Ico.zero_bot, List.Ico.filter_lt, List.Ico.filter_le, Nat.zero_max,
    Nat.min_eq_right hday]

/-- The number of minutes inside a window that starts before it ends (R131). -/
theorem length_filter_insideWindow_of_lt {start stop day : Nat} (h : start < stop) (hday : stop ≤ day) :
    ((List.range day).filter (insideWindow start stop)).length = stop - start := by
  rw [filter_insideWindow_of_lt h hday, List.Ico.length]

/-- The number of minutes inside a window over midnight: those of the day that the window between leaves (R131). -/
theorem length_filter_insideWindow_of_gt {start stop day : Nat} (h : stop < start) (hday : start ≤ day) :
    ((List.range day).filter (insideWindow start stop)).length = day - start + stop := by
  have hinner := length_filter_insideWindow_of_lt h hday
  have hday' := List.length_eq_length_filter_add (l := List.range day) (insideWindow stop start)
  rw [← funext (insideWindow_eq_not h), List.length_range, hinner] at hday'
  omega

/-! ### The grant in force of a scope -/

/-- Grant `g` of number `n` is LIVE on a scope and not expired at the box time of `s` (R132, R134). -/
def State.InForce (s : State) (scope : Grantee × Target) (n : Nat) (g : Grant) : Prop :=
  (n, g) ∈ s.grants ∧ g.live = true ∧ (∀ e, g.expiry = some e → s.bck.boxTime < e)
    ∧ g.grantee = scope.1 ∧ g.target = scope.2

/-- A LIVE grant is not expired when its expiry, if it has one, lies ahead (R134). -/
theorem Grant.expired_eq_false_iff {g : Grant} {t : Nat} (hlive : g.live = true) :
    g.expired t = false ↔ ∀ e, g.expiry = some e → t < e := by
  cases h : g.expiry <;> simp [Grant.expired, h, hlive]

/-- A grant that a rising table lists is the record read at its number. -/
theorem State.grant_of_mem {s : State} (ht : s.TablesSound) {n : Nat} {g : Grant} (h : (n, g) ∈ s.grants) :
    s.grant n = g := by
  obtain ⟨-, -, -, hsorted, -⟩ := ht
  exact Table.read_of_mem _ _ ((Table.sorted_iff _).1 hsorted) n g h

/-- The record that stands for a scope is a LIVE grant on it (R129). -/
theorem State.mem_of_grantOf {s : State} {scope : Grantee × Target} {n : Nat} (h : s.grantOf scope.1 scope.2 = some n) :
    ∃ g, (n, g) ∈ s.grants ∧ g.live = true ∧ g.grantee = scope.1 ∧ g.target = scope.2 := by
  obtain ⟨⟨m, g⟩, hfind, rfl⟩ := Option.map_eq_some_iff.1 h
  have hscope := List.find?_some hfind
  simp only [Bool.and_eq_true, decide_eq_true_eq, and_assoc] at hscope
  exact ⟨g, List.mem_of_find?_eq_some hfind, hscope⟩

/-- With one LIVE grant at most on a scope, the one there is stands for it (R129). -/
theorem State.grantOf_of_mem {s : State} (hg : s.GrantsSound) {scope : Grantee × Target} {n : Nat} {g : Grant}
    (hmem : (n, g) ∈ s.grants) (hlive : g.live = true) (hwho : g.grantee = scope.1) (hon : g.target = scope.2) :
    s.grantOf scope.1 scope.2 = some n := by
  have hsome : (s.grantOf scope.1 scope.2).isSome = true := by
    rw [State.grantOf, Option.isSome_map, List.find?_isSome]
    exact ⟨(n, g), hmem, by simp [hlive, hwho, hon]⟩
  obtain ⟨m, hm⟩ := Option.isSome_iff_exists.1 hsome
  obtain ⟨x, hx, hxlive, hxwho, hxon⟩ := State.mem_of_grantOf hm
  have hsame := hg (m, x) hx (n, g) hmem hxlive hlive (hxwho.trans hwho.symm) (hxon.trans hon.symm)
  obtain ⟨rfl, -⟩ := Prod.mk.inj hsame
  exact hm

/-- The grant that the decision finds for a scope is the one in force there (R132, R134). -/
theorem State.grantInForce_eq_some_iff {s : State} (ht : s.TablesSound) (hg : s.GrantsSound) {scope : Grantee × Target}
    {n : Nat} : s.grantInForce scope.1 scope.2 = some n ↔ ∃ g, s.InForce scope n g := by
  rw [State.grantInForce, Option.filter_eq_some_iff, Bool.not_eq_true']
  constructor
  · rintro ⟨hof, hexpired⟩
    obtain ⟨g, hmem, hlive, hwho, hon⟩ := State.mem_of_grantOf hof
    rw [State.grant_of_mem ht hmem, Grant.expired_eq_false_iff hlive] at hexpired
    exact ⟨g, hmem, hlive, hexpired, hwho, hon⟩
  · rintro ⟨g, hmem, hlive, hexpired, hwho, hon⟩
    rw [State.grant_of_mem ht hmem, Grant.expired_eq_false_iff hlive]
    exact ⟨State.grantOf_of_mem hg hmem hlive hwho hon, hexpired⟩

/-- The decision finds no grant for a scope where none is in force. -/
theorem State.grantInForce_eq_none {s : State} (ht : s.TablesSound) (hg : s.GrantsSound) {scope : Grantee × Target}
    (h : ∀ n g, ¬ s.InForce scope n g) : s.grantInForce scope.1 scope.2 = none :=
  Option.eq_none_iff_forall_ne_some.2 fun n hn => by
    obtain ⟨g, hforce⟩ := (State.grantInForce_eq_some_iff ht hg).1 hn
    exact h n g hforce

/-! ### The search over the scopes -/

/-- With no grant for any scope the read is refused (R132 step 3). -/
theorem decideFrom_of_none {s : State} {l : List (Grantee × Target)} (k : Nat)
    (h : ∀ x ∈ l, s.grantInForce x.1 x.2 = none) : decideFrom s k l = { allowed := false, basis := .noGrant } := by
  induction l generalizing k with
  | nil => rfl
  | cons x l ih =>
    obtain ⟨hx, hl⟩ := List.forall_mem_cons.1 h
    rw [decideFrom, hx]
    exact ih (k + 1) hl

/-- The first scope with a grant decides by that grant; those after it are not looked at (R132 step 2). -/
theorem decideFrom_of_first {s : State} {l : List (Grantee × Target)} {x : Grantee × Target} {i n : Nat} (k : Nat)
    (hx : l[i]? = some x) (hn : s.grantInForce x.1 x.2 = some n)
    (hfirst : ∀ j < i, ∀ y, l[j]? = some y → s.grantInForce y.1 y.2 = none) :
    decideFrom s k l = { allowed := (s.grant n).allows s.minute, basis := .grant n (k + i) } := by
  induction l generalizing k i with
  | nil => simp at hx
  | cons y l ih =>
    cases i with
    | zero =>
      obtain rfl : y = x := by simpa using hx
      rw [decideFrom, hn]
      rfl
    | succ i =>
      have hy : s.grantInForce y.1 y.2 = none := hfirst 0 i.succ_pos y rfl
      rw [decideFrom, hy]
      have hrest := ih (k + 1) (by simpa using hx) fun j hj z hz => hfirst (j + 1) (Nat.succ_lt_succ hj) z hz
      rwa [Nat.add_right_comm] at hrest

/-- Scope `k` of Table 7.4, numbered from 1. -/
def scopeAt (c a o k : Nat) : Grantee × Target :=
  (if k = 1 ∨ k = 2 then .client c else .anyViewer, if k = 1 ∨ k = 3 then .album a else .allOf o)

/-- The four scopes are looked at in the order of their numbers (Table 7.4). -/
theorem scopes_eq_map (c a o : Nat) : scopes c a o = [1, 2, 3, 4].map (scopeAt c a o) := rfl

/-- The scope at place `i` has number `i + 1`. -/
theorem scopes_getElem? {c a o i : Nat} {x : Grantee × Target} (h : (scopes c a o)[i]? = some x) :
    x = scopeAt c a o (i + 1) := by
  match i with
  | 0 | 1 | 2 | 3 => exact (Option.some.inj h).symm
  | i + 4 => simp [scopes] at h

/-- The owner reads its album (R132 step 1). -/
theorem State.decision_owner (s : State) (a o : Nat) : s.decision o a o = { allowed := true, basis := .owner } := if_pos rfl

/-- Another client's read without a grant in force is refused (R132 step 3). -/
theorem State.decision_of_noGrant {s : State} (ht : s.TablesSound) (hg : s.GrantsSound) {c a o : Nat} (hc : c ≠ o)
    (h : ∀ k ∈ [1, 2, 3, 4], ∀ n g, ¬ s.InForce (scopeAt c a o k) n g) :
    s.decision c a o = { allowed := false, basis := .noGrant } := by
  rw [State.decision, if_neg hc, scopes_eq_map]
  refine decideFrom_of_none 1 (List.forall_mem_map.2 fun k hk => ?_)
  exact State.grantInForce_eq_none ht hg (h k hk)

/-- Another client's read is decided by the mode of the grant in force on the first scope that has one (R132 step 2,
R133). -/
theorem State.decision_of_first {s : State} (ht : s.TablesSound) (hg : s.GrantsSound) {c a o k n : Nat} {g : Grant}
    (hc : c ≠ o) (hk : k ∈ [1, 2, 3, 4]) (hforce : s.InForce (scopeAt c a o k) n g)
    (hfirst : ∀ j, 1 ≤ j → j < k → ∀ m x, ¬ s.InForce (scopeAt c a o j) m x) :
    s.decision c a o = { allowed := g.allows s.minute, basis := .grant n k } := by
  have hrange : 1 ≤ k ∧ k ≤ 4 := by
    simp only [List.mem_cons, List.not_mem_nil, or_false] at hk
    omega
  obtain ⟨i, rfl⟩ := Nat.exists_eq_add_of_le' hrange.1
  have hplace : (scopes c a o)[i]? = some (scopeAt c a o (i + 1)) := by
    have hlt : i < (scopes c a o).length := hrange.2
    rw [← scopes_getElem? (List.getElem?_eq_getElem hlt)]
    exact List.getElem?_eq_getElem hlt
  have hgrant := (State.grantInForce_eq_some_iff ht hg).2 ⟨g, hforce⟩
  rw [State.decision, if_neg hc, decideFrom_of_first 1 hplace hgrant fun j hj y hy => ?_,
    State.grant_of_mem ht hforce.1, Nat.add_comm 1 i]
  rw [scopes_getElem? hy]
  exact State.grantInForce_eq_none ht hg (hfirst (j + 1) (Nat.le_add_left 1 j) (Nat.succ_lt_succ hj))

/-! ### The record of a decision -/

/-- A decision that no grant made names none, and lies inside no window (R139). -/
theorem State.decisionRecord_of_owner (s : State) {d : Decision} (h : d.basis = .owner) :
    s.decisionRecord d =
      [flagByte d.allowed, 0#8, 0xFF#8, 0#8] ++ (le 4 s.bck.boxTime ++ le 2 s.minute) ++ [0#8] := by
  simp [State.decisionRecord, h, flagByte]

/-- The record of a read refused without a grant (R139). -/
theorem State.decisionRecord_of_noGrant (s : State) {d : Decision} (h : d.basis = .noGrant) :
    s.decisionRecord d =
      [flagByte d.allowed, 2#8, 0xFF#8, 0#8] ++ (le 4 s.bck.boxTime ++ le 2 s.minute) ++ [0#8] := by
  simp [State.decisionRecord, h, flagByte]

/-- The record of a decision by a grant names the grant and its scope, and says whether the local minute lies inside the
grant's window, whatever its mode (R139). -/
theorem State.decisionRecord_of_grant (s : State) {d : Decision} {n k : Nat} (h : d.basis = .grant n k) :
    s.decisionRecord d =
      [flagByte d.allowed, 1#8, BitVec.ofNat 8 n, BitVec.ofNat 8 k] ++ (le 4 s.bck.boxTime ++ le 2 s.minute)
        ++ [flagByte (insideWindow (s.grant n).windowStart (s.grant n).windowEnd s.minute)] := by
  simp [State.decisionRecord, h]

/-! ### GRANT_READ with selector 2 -/

/-- A command that takes its request under checks of the state answers it when the checks pass. -/
theorem answers_of_checks_pass {i : Instr} {k : Kind} {form : Request → Bool} {s t : State} {r : Request} {st : Status}
    {rec : List Byte} (checks : State → Request → List (Bool × Status)) (f : Request → State → State)
    (hi : exec i s = take k form (fun r s => guarded (checks s r) r (f r) s) s) (ho : Offered s k r)
    (hform : form r = true) (hc : firstFail (checks s.quiet r) = none) (hf : f r s.quiet = answer r st rec t) :
    Answers i s r st rec t := by
  obtain ⟨hoffered, hkind⟩ := ho
  rw [Answers, Ends, hi, take_offered k form _ s r hoffered hkind hform, guarded_pass _ _ _ _ hc, hf]

/-- The checks of a decision's reading that depend on the reader's and the album's records (R139). -/
def readerAndAlbumChecks (s : State) (c a : Nat) : List (Bool × Status) :=
  [(!(s.client c).active, .noSuch), (decide ((s.coll a).state = .free), .noSuch),
    (decide ((s.coll a).kind = .snapshot), .state), (decide ((s.coll a).state = .retiring), .retiring)]

/-- A request of the stated length with its fields in range, in LOADED, is checked against those records alone. -/
theorem firstFail_grantDecisionChecks {s : State} {r : Request} (hload : Readable s) (hlen : r.payload.length = 5)
    (hc : byteAt r.payload 1 < 16) (ha : field r.payload 2 2 < 1024) :
    firstFail (grantDecisionChecks s r) =
      firstFail (readerAndAlbumChecks s (byteAt r.payload 1) (field r.payload 2 2)) := by
  have hclient : ¬ 15 < byteAt r.payload 1 := by omega
  have hcoll : ¬ Config.collectionCount ≤ field r.payload 2 2 := Nat.not_le.2 ha
  simp only [grantDecisionChecks, readGate, State.loaded, Request.hasLength, hload, hlen, hclient, hcoll, decide_true,
    decide_false, Bool.not_true, List.cons_append, List.nil_append, firstFail_pass, readerAndAlbumChecks]

section
variable {s : State} {r : Request} (ho : Offered s .grantRead r) (hload : Readable s) (hlen : r.payload.length = 5)
  (hsel : byteAt r.payload 0 = 2) (hc : byteAt r.payload 1 < 16) (ha : field r.payload 2 2 < 1024)
include ho hload hlen hsel hc ha

/-- A decision's reading is refused with the first of those checks that fails. -/
theorem grantReadDecision_refused {st : Status}
    (hfail : firstFail (readerAndAlbumChecks s (byteAt r.payload 1) (field r.payload 2 2)) = some st) :
    Refused .grantReadDecision s r st :=
  refused_of_firstFail grantDecisionChecks (fun _ r => grantDecisionTaken r) rfl ho (decide_eq_true hsel)
    ((firstFail_grantDecisionChecks (s := s.quiet) hload hlen hc ha).trans hfail)

/-- A decision's reading whose checks pass answers the decision's record and changes nothing (R139). -/
theorem grantReadDecision_answers
    (hpass : firstFail (readerAndAlbumChecks s (byteAt r.payload 1) (field r.payload 2 2)) = none) :
    Answers .grantReadDecision s r .ok
      (s.decisionRecord (s.decision (byteAt r.payload 1) (field r.payload 2 2) (s.coll (field r.payload 2 2)).owner.1))
      s.quiet :=
  answers_of_checks_pass grantDecisionChecks grantDecisionTaken rfl ho (decide_eq_true hsel)
    ((firstFail_grantDecisionChecks (s := s.quiet) hload hlen hc ha).trans hpass) rfl

end

/-! ### The statement -/

/-- Settles O43: the minutes of the three kinds of window, the search over the four scopes with at most one grant in force
on each, and the checks of the reading one record at a time. -/
theorem accessDecisionAndItsReading : Obligations.AccessDecisionAndItsReading := by
  refine ⟨⟨fun start stop hstart hstop => ⟨fun h => ⟨fun m _ => ?_, ?_⟩, fun h => ⟨fun m _ => ?_, ?_⟩, ?_⟩,
    fun s c a o ht hg => ⟨?_, fun hc hnone => State.decision_of_noGrant ht hg hc hnone, ?_⟩⟩, ?_⟩
  · simp [insideWindow_of_lt h]
  · exact length_filter_insideWindow_of_lt h hstop.le
  · simp [insideWindow_of_gt h]
  · exact length_filter_insideWindow_of_gt h hstart.le
  · rintro rfl m -
    exact insideWindow_self start m
  · rintro rfl
    exact s.decision_owner a c
  · intro k n g hc hk hforce hfirst
    rw [State.decision_of_first ht hg hc hk hforce hfirst]
    refine ⟨fun hmode => ?_, fun hmode => ?_, fun hmode => ?_, fun hmode => ?_⟩
    all_goals rw [Grant.allows, hmode]
  · rintro s r _ _ ho hload hlen hsel rfl hc rfl ha
    have hrefused {st} := grantReadDecision_refused (st := st) ho hload hlen hsel hc ha
    have hanswers := grantReadDecision_answers ho hload hlen hsel hc ha
    refine ⟨fun hfree => hrefused ?_, fun hactive => ⟨fun hstate => hrefused ?_, fun hstate hkind => hrefused ?_,
      fun hstate hkind => hrefused ?_, fun hstate hkind => ?_⟩⟩
    · simp [readerAndAlbumChecks, hfree]
    · simp [readerAndAlbumChecks, hactive, hstate]
    · simp [readerAndAlbumChecks, hactive, hstate, hkind]
    · simp [readerAndAlbumChecks, hactive, hstate, hkind]
    · have hrecord := hanswers (by rcases hstate with h | h <;> simp [readerAndAlbumChecks, hactive, hkind, h])
      refine ⟨fun hb => ?_, fun hb => ?_, fun n k hb => ?_⟩
      · rwa [s.decisionRecord_of_owner hb] at hrecord
      · rwa [s.decisionRecord_of_noGrant hb] at hrecord
      · rwa [s.decisionRecord_of_grant hb] at hrecord

end Sys2Proof.Machine
end

section
/-!
PROOFS. The changes a command can make, once for all commands: `Change c s u` says that `u` is what command `c` itself makes
of `s`, before a request is answered and the step ends. Every command but POWER_ON_RESET comes to one of them
(`exec_changes`), and an invariant is kept by every command when every change, every answer and the end of a step keep it
(`exec_keeps`).
-/

namespace Sys2Proof.Machine

/-- What command `c` can make of state `s` by itself. A request that is refused or that only reads changes nothing but for
its answer, which stands apart (`exec_changes`). -/
inductive Change : Instr → State → State → Prop where
  | nothing (c : Instr) (s : State) : Change c s s
  | headerReceived (header : HeaderArrival) (underHold : Bool) (s : State) :
      Change (.headerReceived header underHold) s (headerArrives header underHold s)
  | packetComplete (payload : List Byte) (check : Half) (s : State) :
      Change (.packetComplete payload check) s (completePacket payload check s)
  | packetBreak (s : State) : Change .packetBreak s (breakPacket s)
  | batchComplete (payload : List Byte) (s : State) : Change (.batchComplete payload) s (completeBatch payload s)
  | batchBreak (received : List Byte) (s : State) : Change (.batchBreak received) s (breakBatch received s)
  | transmitPacket (s : State) : Change .transmitPacket s (transmit s)
  | packetSendEnd (s : State) : Change .packetSendEnd s (endSending s)
  | trainingStart (s : State) : Change .trainingStart s (beginTraining s)
  | trainingComplete (s : State) : Change .trainingComplete s (completeTraining s)
  | trainingLost (s : State) : Change .trainingLost s (loseTraining s)
  | hostIdle (s : State) : Change .hostIdle s (idleSignal s)
  | hostWake (s : State) : Change .hostWake s (wakeSignal s)
  | sleepAck (s : State) : Change .sleepAck s (ackSignal s)
  | hostReset (s : State) : Change .hostReset s (resetSignal s)
  | receiveLineQuiet (s : State) : Change .receiveLineQuiet s (endDiscard s)
  | linkStatus (s : State) : Change .linkStatus s { s with slc.acked := true }
  | linkStatusClearCounts (s : State) :
      Change .linkStatusClearCounts s { s with slc.acked := true, slc.linkErrors := 0, slc.breaks := 0 }
  | noticeClear (set : BitVec 11) (s : State) : Change .noticeClear s (clearNotices set s)
  | noticeMask (set : BitVec 11) (s : State) : Change .noticeMask s (maskNotices set s)
  | settingsWrite (x : Settings) (s : State) : Change .settingsWrite s (replaceSettings x s)
  | secondEvent (sense : Vector Bool 4) (s : State) : Change (.secondEvent sense) s (secondPasses sense s)
  | clockSet (r : Request) (s : State) : Change .clockSet s (setClock (field r.payload 0 4) s)
  | clientSet (r : Request) (s : State) (h : firstFail (clientSetChecks s r) = none) :
      Change .clientSet s (setClientRecord ((s.clientChosen (byteAt r.payload 0)).getD 16) r.payload s)
  | clientRetire (r : Request) (s : State) (h : firstFail (clientRetireChecks s r) = none) :
      Change .clientRetire s (retireClient (byteAt r.payload 0) s)
  | scheduleSet (c : Nat) (sch : Option Schedule) (s : State) : Change .scheduleSet s (writeSchedule c sch s)
  | streamOpen (r : Request) (s : State) (h : firstFail (streamOpenChecks s r) = none) :
      Change .streamOpen s
        (openStream (OpenFields.ofBytes r.payload) (s.closedStream.getD 0) (s.freeObject.getD 0) s)
  | streamData (r : Request) (s : State) (h : firstFail (streamDataChecks s r) = none) :
      Change .streamData s (takePacket r.auxLow r.payload r.isEnd s).2
  | streamCommit (r : Request) (s : State)
      (h : firstFail (changeGate s ++ streamNumberChecks r ++ closedCheck s r) = none) :
      Change .streamCommit s (commitEntries r.auxNat r.entries [] s).2
  | streamFinish (r : Request) (s : State) (h : firstFail (streamFinishChecks s r) = none) :
      Change .streamFinish s (streamFinishTaken r s)
  | streamCompletion (stream : Fin 8) (s : State) :
      Change (.streamCompletion stream) s (completeIfFinished stream.val s)
  | streamAbort (r : Request) (s : State)
      (h : firstFail (changeGate s ++ streamNumberChecks r ++ [(!r.hasLength 0, .badField)] ++ closedCheck s r) = none) :
      Change .streamAbort s (abortStream r.auxNat s)
  | collectionOpen (r : Request) (s : State) :
      Change .collectionOpen s (s.setColl (s.freeColl.getD 0) (Coll.created_ s r))
  | collectionClose (n : Nat) (s : State) : Change .collectionClose s (closeSnapshot n s)
  | memberAdd (c : Nat) (es : List (List Byte)) (s : State) :
      Change .memberAdd s (memberEntries (memberAddEntry c) es [] s).2
  | memberRemove (c : Nat) (es : List (List Byte)) (s : State) :
      Change .memberRemove s (memberEntries (memberRemoveEntry c) es [] s).2
  | retireCollection (n : Nat) (s : State) : Change .retireCollection s (retireColl n s)
  | walkOrderTake (s : State) : Change .walkOrderTake s (takeIfIdle s)
  | memberRemoval (s : State) : Change .memberRemoval s (memberRemoval s)
  | referenceRemoval (s : State) : Change .referenceRemoval s (referenceRemoval s)
  | objectFree (s : State) : Change .objectFree s (objectFree s)
  | collectionFree (s : State) : Change .collectionFree s (collectionFree s)
  | releaseTake (count : Nat) (s : State) :
      Change .releaseTake s (resumeWalk (makeDeferredCheck (takeExtents count s)))
  | deferredCheck (s : State) : Change .deferredCheck s (makeDeferredCheck s)
  | grantSet (es : List (List Byte)) (s : State) : Change .grantSet s (grantEntries es [] s).2
  | grantClear (n : Nat) (s : State) : Change .grantClear s (s.setGrant n Grant.free)
  | planOpen (r : Request) (s : State) (h : firstFail (planOpenChecks s r) = none) :
      Change .planOpen s (openPlan (s.freePlan.getD 0) (PlanFields.ofBytes r.payload) s)
  | scanStep (plan : Fin 16) (s : State) : Change (.scanStep plan) s (scanStep plan.val s)
  | planFetch (r : Request) (s : State) (h : firstFail (planFetchChecks s r) = none) (run : List Ref) :
      Change .planFetch s (fetchRefs r.auxLow (field r.payload 0 4) run [] s).2
  | planCheckSet (r : Request) (s : State) (h : firstFail (planCheckChecks s r) = none) (c : Option CheckContext) :
      Change .planCheck s (setCheck r.auxLow c s)
  | planCheckDone (r : Request) (s : State) (h : firstFail (planCheckChecks s r) = none) (ref : Ref) (c : CheckContext)
      (same : Bool) :
      Change .planCheck s
        (applyCheck (s.plan r.auxLow).object c.ordinal ref c.loc same (setCheck r.auxLow none s)).2.2
  | planDone (r : Request) (s : State)
      (h : firstFail (readGate s ++ planNumberChecks r ++ [(!r.hasLength 0, .badField), freePlanCheck s r]) = none) :
      Change .planDone s (closePlan r.auxLow s)
  | bayHold (i : Nat) (s : State) (hi : i < 4) (hpower : s.bxp.power = .run) (hempty : s.bpc.isEmpty i = false) :
      Change .bayHold s (holdBay .manual i s)
  | bayRelease (i : Nat) (s : State) (hi : i < 4) : Change .bayRelease s (releaseBay .manual i s)
  | spinUpStart (s : State) : Change .spinUpStart s (examineQueue s)
  | spinUpExpiry (bay : Fin 4) (s : State) (h : s.bayTimerOut bay.val .spinUp = true) :
      Change (.spinUpExpiry bay) s (spinUpDone bay.val s)
  | idleTimerExpiry (bay : Fin 4) (s : State) (h : s.bayTimerOut bay.val .idle = true) :
      Change (.idleTimerExpiry bay) s (idleDone bay.val s)
  | spinDownExpiry (bay : Fin 4) (s : State) (h : s.bayTimerOut bay.val .spinDown = true) :
      Change (.spinDownExpiry bay) s (spinDownDone bay.val s)
  | presenceLoss (bay : Fin 4) (s : State) (h : s.presenceChange bay.val true = true) :
      Change (.presenceLoss bay) s (bayLoss bay.val s)
  | presenceArrival (bay : Fin 4) (s : State) (h : s.presenceChange bay.val false = true) :
      Change (.presenceArrival bay) s (bayArrival bay.val s)
  | standbyEnter (r : Request) (s : State) (h : firstFail (standbyEnterChecks s r) = none) :
      Change .standbyEnter s (acceptStandby s)
  | standbyEntryComplete (s : State) : Change .standbyEntryComplete s (completeStandby s)
  | handshakeTimerExpiry (s : State) (h : s.bxp.power = .standbyEntry) :
      Change .handshakeTimerExpiry s (abandonStandby .handshakeTimeout s)
  | returnPrior (r : Request) (s : State) (h : firstFail (returnPriorChecks s r) = none) :
      Change .returnPrior s (returnToStandby s)
  | wakeTimerExpiry (s : State) (h : s.bxp.power = .waking) : Change .wakeTimerExpiry s (wakeFails s)
  | pauseTimerExpiry (s : State) (h : s.bxp.power = .waking) : Change .pauseTimerExpiry s (pauseEnds s)
  | buttonPress (s : State) : Change .buttonPress s (pressButton s)
  | frameReceived (frame : List Byte) (good : Bool) (s : State) :
      Change (.frameReceived frame good) s (frameTaken frame s)
  | frameOut (frame : List Byte) (s : State) : Change .frameOut s (queueTransmit frame s)
  | frameTransmitStart (s : State) : Change .frameTransmitStart s (transmitStarts s)
  | frameTransmitEnd (s : State) : Change .frameTransmitEnd s (transmitEnds s)
  | filterSet (c : Nat) (fs : List Filter) (s : State) : Change .filterSet s (writeFilters c fs s)
  | templateSet (n : Nat) (x : Option Template) (s : State) : Change .templateSet s (writeTemplate n x s)
  | tablesInit (r : Request) (s : State) (h : firstFail (tablesInitChecks s r) = none) :
      Change .tablesInit s (initTables s)
  | imageExport (r : Request) (s : State) (h : firstFail (imageExportChecks s r) = none) :
      Change .imageExport s (startExport s)
  | imageNext (count : Nat) (s : State) : Change .imageNext s (exportBatch count s)
  | imageCancelExport (s : State) : Change .imageCancel s (endExport s)
  | imageCancelImport (s : State) : Change .imageCancel s (failImport s)
  | imageImport (r : Request) (s : State) (h : firstFail (imageImportChecks s r) = none) :
      Change .imageImport s (startImport s)
  | imagePut (es : List (List Byte)) (whole : Bool) (s : State) :
      Change .imagePut s (failUnless whole (putEntries es [] s).2)
  | imageEndLoaded (s : State) : Change .imageEnd s (finishImport s)
  | imageEndFailed (s : State) : Change .imageEnd s (failImport s)

/-- What command `c` comes to in state `s` before the step ends: one of its changes, and the answer to its request if it
takes one. -/
def ComesTo (c : Instr) (s v : State) : Prop :=
  ∃ u, Change c s u ∧ (v = u ∨ ∃ r st rec n, v = answer r st rec (u.spend n))

/-- A change without an answer. -/
theorem Change.comes {c : Instr} {s u : State} (h : Change c s u) : ComesTo c s u := ⟨u, h, .inl rfl⟩

/-- A change with an answer. -/
theorem Change.answered {c : Instr} {s u : State} (h : Change c s u) (r : Request) (st : Status) (rec : List Byte) :
    ComesTo c s (answer r st rec u) := ⟨u, h, .inr ⟨r, st, rec, 0, rfl⟩⟩

/-- A change with an answer that spends free bytes. -/
theorem Change.answeredSpending {c : Instr} {s u : State} (h : Change c s u) (r : Request) (st : Status) (rec : List Byte)
    (n : Nat) : ComesTo c s (answer r st rec (u.spend n)) := ⟨u, h, .inr ⟨r, st, rec, n, rfl⟩⟩

/-- A request answered over the unchanged state. -/
theorem comesTo_answer (c : Instr) (r : Request) (st : Status) (rec : List Byte) (s : State) :
    ComesTo c s (answer r st rec s) := (Change.nothing c s).answered r st rec

/-- A command that is an event comes to its change. -/
theorem comesTo_of_event {c : Instr} {f : State → State} {s t : State} (h : event f s = .next t)
    (hf : ComesTo c s.quiet (f s.quiet)) : ∃ v, ComesTo c s.quiet v ∧ t = settle s.quiet v := by
  cases h
  exact ⟨_, hf, rfl⟩

/-- An event that has its effect only under a condition. -/
theorem comesTo_of_event_if {c : Instr} {p : State → Prop} [DecidablePred p] {f : State → State} {s t : State}
    (h : event (fun s => if p s then f s else s) s = .next t) (hf : p s.quiet → Change c s.quiet (f s.quiet)) :
    ∃ v, ComesTo c s.quiet v ∧ t = settle s.quiet v := by
  refine comesTo_of_event h ?_
  by_cases hp : p s.quiet
  · simpa only [if_pos hp] using (hf hp).comes
  · simpa only [if_neg hp] using (Change.nothing c s.quiet).comes

/-- A command that takes a request comes to the request's effect, or to nothing. -/
theorem comesTo_of_take {c : Instr} {k : Kind} {form : Request → Bool} {f : Request → State → State} {s t : State}
    (h : take k form f s = .next t) (hf : ∀ r, ComesTo c s.quiet (f r s.quiet)) :
    ∃ v, ComesTo c s.quiet v ∧ t = settle s.quiet v := by
  obtain rfl | ⟨r, -, -, -, rfl⟩ := take_next k form f s t h
  · exact ⟨_, (Change.nothing c _).comes, rfl⟩
  · exact ⟨_, hf r, rfl⟩

/-- A request under checks comes to its refusal or, past the checks, to its effect. -/
theorem comesTo_guarded {c : Instr} {checks : List (Bool × Status)} {r : Request} {f : State → State} {s : State}
    (hf : firstFail checks = none → ComesTo c s (f s)) : ComesTo c s (guarded checks r f s) := by
  unfold guarded
  split
  next st _ => exact comesTo_answer c r st _ s
  next hpass => exact hf hpass

/-- The same for a request whose every answer carries the power record. -/
theorem comesTo_powerGuarded {c : Instr} {checks : List (Bool × Status)} {r : Request} {f : State → State} {s : State}
    (hf : firstFail checks = none → Change c s (f s)) : ComesTo c s (powerGuarded checks r f s) := by
  unfold powerGuarded
  split
  next st _ => exact (Change.nothing c s).answeredSpending r st _ 1
  next hpass => exact (hf hpass).answeredSpending r .ok _ 1

/-! ### Requests whose effect depends on the state -/

/-- An admitted packet is taken; one that is not admitted changes nothing. -/
theorem comesTo_streamDataTaken {r : Request} {s : State} (h : firstFail (streamDataChecks s r) = none) :
    ComesTo .streamData s (streamDataTaken r s) := by
  simp only [streamDataTaken]
  split
  · exact (Change.streamData r s h).answered r _ _
  · exact comesTo_answer _ _ _ _ _

/-- A plan opens, or is denied. -/
theorem comesTo_planOpenTaken {r : Request} {s : State} (h : firstFail (planOpenChecks s r) = none) :
    ComesTo .planOpen s (planOpenTaken r s) := by
  simp only [planOpenTaken]
  split
  · exact (Change.planOpen r s h).answered r _ _
  · exact comesTo_answer _ _ _ _ _

/-- A packet of a checked read sets or ends the check context, or completes the check. -/
theorem comesTo_planCheckTaken {r : Request} {s : State} (h : firstFail (planCheckChecks s r) = none) :
    ComesTo .planCheck s (planCheckTaken r s) := by
  unfold planCheckTaken
  split
  · exact (Change.nothing _ s).comes
  · split
    · exact comesTo_answer _ _ _ _ _
    · simp only [takeCheckBytes]
      split
      · exact (Change.planCheckSet r s h none).answered r _ _
      · split
        · split
          · exact (Change.planCheckSet r s h none).answered r _ _
          · exact (Change.planCheckDone r s h _ _ _).answered r _ _
        · exact (Change.planCheckSet r s h _).answered r _ _

/-- The bay number of a request past its BAD_FIELD checks (R158). -/
theorem byteAt_lt_of_bayNumberChecks {r : Request} (h : firstFail (bayNumberChecks r) = none) :
    byteAt r.payload 0 < 4 := by
  simp [bayNumberChecks, firstFail_none] at h
  omega

/-- A manual hold is placed on a bay that is neither held nor EMPTY, in RUN. -/
theorem comesTo_bayHoldTaken {r : Request} {s : State} (h : firstFail (bayNumberChecks r) = none) :
    ComesTo .bayHold s (bayHoldTaken r s) := by
  have hi := byteAt_lt_of_bayNumberChecks h
  simp only [bayHoldTaken]
  split
  · exact comesTo_answer _ _ _ _ _
  · split
    · exact comesTo_answer _ _ _ _ _
    · split
      · exact comesTo_answer _ _ _ _ _
      next hpower _ hempty =>
        exact (Change.bayHold _ s hi (not_not.1 hpower) (eq_false_of_ne_true hempty)).answered r _ _

/-- A batch of the image is handed out while the tables are being exported. -/
theorem comesTo_imageNextTaken (r : Request) (s : State) : ComesTo .imageNext s (imageNextTaken r s) := by
  simp only [imageNextTaken]
  split
  · exact (Change.imageNext _ s).answeredSpending r _ _ 4
  · split
    · exact (Change.nothing _ s).answeredSpending r _ _ 4
    · exact comesTo_answer _ _ _ _ _

/-- The last batch is given again without a change. -/
theorem comesTo_imageAgainTaken (r : Request) (s : State) : ComesTo .imageNextAgain s (imageAgainTaken r s) := by
  unfold imageAgainTaken
  split
  · exact (Change.nothing _ s).answeredSpending r _ _ 4
  · exact (Change.nothing _ s).answeredSpending r _ _ 4
  · exact comesTo_answer _ _ _ _ _

/-- IMAGE_CANCEL gives up the transfer under way. -/
theorem comesTo_imageCancelTaken (r : Request) (s : State) : ComesTo .imageCancel s (imageCancelTaken r s) := by
  unfold imageCancelTaken
  split
  · exact (Change.imageCancelExport s).answered r _ _
  · split
    · exact (Change.imageCancelImport s).answered r _ _
    · exact comesTo_answer _ _ _ _ _

/-- IMAGE_END loads the tables or fails. -/
theorem comesTo_imageEndTaken (r : Request) (s : State) : ComesTo .imageEnd s (imageEndTaken r s) := by
  unfold imageEndTaken
  split
  · exact (Change.imageEndLoaded s).answered r _ _
  · exact (Change.imageEndFailed s).answeredSpending r _ _ 4

/-- A walk step is taken in WALKING alone. -/
theorem comesTo_whileWalking {c : Instr} {f : State → State} {s : State} (h : Change c s (f s)) :
    ComesTo c s (whileWalking f s) := by
  unfold whileWalking
  split
  · exact h.comes
  · exact (Change.nothing c s).comes

/-! ### Every command -/

/-- Every command but POWER_ON_RESET comes to one of its changes, and the step ends. -/
theorem exec_changes {c : Instr} {s t : State} (h : exec c s = .next t) (hc : ∀ sense, c ≠ .powerOnReset sense) :
    ∃ v, ComesTo c s.quiet v ∧ t = settle s.quiet v := by
  cases c with
  | powerOnReset sense => exact absurd rfl (hc sense)
  | headerReceived header underHold =>
    unfold exec execHeaderReceived at h
    exact comesTo_of_event h (Change.headerReceived _ _ _).comes
  | packetComplete payload check =>
    unfold exec execPacketComplete at h
    exact comesTo_of_event h (Change.packetComplete _ _ _).comes
  | packetBreak =>
    unfold exec execPacketBreak at h
    exact comesTo_of_event h (Change.packetBreak _).comes
  | batchComplete payload =>
    unfold exec execBatchComplete at h
    exact comesTo_of_event h (Change.batchComplete _ _).comes
  | batchBreak received =>
    unfold exec execBatchBreak at h
    exact comesTo_of_event h (Change.batchBreak _ _).comes
  | transmitPacket =>
    unfold exec execTransmitPacket at h
    exact comesTo_of_event h (Change.transmitPacket _).comes
  | packetSendEnd =>
    unfold exec execPacketSendEnd at h
    exact comesTo_of_event h (Change.packetSendEnd _).comes
  | trainingStart =>
    unfold exec execTrainingStart at h
    exact comesTo_of_event h (Change.trainingStart _).comes
  | trainingComplete =>
    unfold exec execTrainingComplete at h
    exact comesTo_of_event h (Change.trainingComplete _).comes
  | trainingLost =>
    unfold exec execTrainingLost at h
    exact comesTo_of_event h (Change.trainingLost _).comes
  | hostIdle =>
    unfold exec execHostIdle at h
    exact comesTo_of_event h (Change.hostIdle _).comes
  | hostWake =>
    unfold exec execHostWake at h
    exact comesTo_of_event h (Change.hostWake _).comes
  | sleepAck =>
    unfold exec execSleepAck at h
    exact comesTo_of_event h (Change.sleepAck _).comes
  | hostReset =>
    unfold exec execHostReset at h
    exact comesTo_of_event h (Change.hostReset _).comes
  | linkStatus =>
    unfold exec execLinkStatus at h
    exact comesTo_of_take h fun r => comesTo_guarded fun _ => (Change.linkStatus _).answered r _ _
  | linkStatusClearCounts =>
    unfold exec execLinkStatusClearCounts at h
    exact comesTo_of_take h fun r => comesTo_guarded fun _ => (Change.linkStatusClearCounts _).answered r _ _
  | noticeRead =>
    unfold exec execNoticeRead at h
    exact comesTo_of_take h fun r => comesTo_guarded fun _ => comesTo_answer _ r _ _ _
  | noticeClear =>
    unfold exec execNoticeClear at h
    exact comesTo_of_take h fun r => comesTo_guarded fun _ => (Change.noticeClear _ _).answered r _ _
  | noticeMask =>
    unfold exec execNoticeMask at h
    exact comesTo_of_take h fun r => comesTo_guarded fun _ => (Change.noticeMask _ _).answered r _ _
  | settingsRead =>
    unfold exec execSettingsRead at h
    exact comesTo_of_take h fun r => comesTo_guarded fun _ => comesTo_answer _ r _ _ _
  | settingsWrite =>
    unfold exec execSettingsWrite at h
    exact comesTo_of_take h fun r => comesTo_guarded fun _ => (Change.settingsWrite _ _).answered r _ _
  | secondEvent sense =>
    unfold exec execSecondEvent at h
    exact comesTo_of_event h (Change.secondEvent _ _).comes
  | clockSet =>
    unfold exec execClockSet at h
    exact comesTo_of_take h fun r => comesTo_guarded fun _ => (Change.clockSet r _).answered r _ _
  | clockRead =>
    unfold exec execClockRead at h
    exact comesTo_of_take h fun r => comesTo_guarded fun _ => comesTo_answer _ r _ _ _
  | clientSet =>
    unfold exec execClientSet at h
    exact comesTo_of_take h fun r => comesTo_guarded fun hpass => (Change.clientSet r _ hpass).answered r _ _
  | clientRead =>
    unfold exec execClientRead at h
    exact comesTo_of_take h fun r => comesTo_guarded fun _ => comesTo_answer _ r _ _ _
  | clientRetire =>
    unfold exec execClientRetire at h
    exact comesTo_of_take h fun r => comesTo_guarded fun hpass => (Change.clientRetire r _ hpass).answered r _ _
  | scheduleSet =>
    unfold exec execScheduleSet at h
    exact comesTo_of_take h fun r => comesTo_guarded fun _ => (Change.scheduleSet _ _ _).answered r _ _
  | streamOpen =>
    unfold exec execStreamOpen at h
    exact comesTo_of_take h fun r => comesTo_guarded fun hpass => (Change.streamOpen r _ hpass).answered r _ _
  | streamData =>
    unfold exec execStreamData at h
    exact comesTo_of_take h fun r => comesTo_guarded fun hpass => comesTo_streamDataTaken hpass
  | streamCommit =>
    unfold exec execStreamCommit at h
    exact comesTo_of_take h fun r => comesTo_guarded fun hpass => (Change.streamCommit r _ hpass).answered r _ _
  | streamFinish =>
    unfold exec execStreamFinish at h
    exact comesTo_of_take h fun r => comesTo_guarded fun hpass => (Change.streamFinish r _ hpass).comes
  | streamCompletion stream =>
    unfold exec execStreamCompletion at h
    exact comesTo_of_event h (Change.streamCompletion _ _).comes
  | streamAbort =>
    unfold exec execStreamAbort at h
    exact comesTo_of_take h fun r => comesTo_guarded fun hpass => (Change.streamAbort r _ hpass).answered r _ _
  | streamRead =>
    unfold exec execStreamRead at h
    exact comesTo_of_take h fun r => comesTo_guarded fun _ => comesTo_answer _ r _ _ _
  | chunkRead =>
    unfold exec execChunkRead at h
    exact comesTo_of_take h fun r => comesTo_guarded fun _ => (Change.nothing _ _).answeredSpending r _ _ 2
  | collectionOpen =>
    unfold exec execCollectionOpen at h
    exact comesTo_of_take h fun r => comesTo_guarded fun _ => (Change.collectionOpen r _).answered r _ _
  | collectionClose =>
    unfold exec execCollectionClose at h
    exact comesTo_of_take h fun r => comesTo_guarded fun _ => (Change.collectionClose _ _).answered r _ _
  | memberAdd =>
    unfold exec execMemberAdd at h
    exact comesTo_of_take h fun r => comesTo_guarded fun _ => (Change.memberAdd _ _ _).answered r _ _
  | memberRemove =>
    unfold exec execMemberRemove at h
    exact comesTo_of_take h fun r => comesTo_guarded fun _ => (Change.memberRemove _ _ _).answered r _ _
  | collectionRead =>
    unfold exec execCollectionRead at h
    exact comesTo_of_take h fun r => comesTo_guarded fun _ => comesTo_answer _ r _ _ _
  | membersFetch =>
    unfold exec execMembersFetch at h
    exact comesTo_of_take h fun r => comesTo_guarded fun _ => comesTo_answer _ r _ _ _
  | objectRead =>
    unfold exec execObjectRead at h
    exact comesTo_of_take h fun r => comesTo_guarded fun _ => comesTo_answer _ r _ _ _
  | retireCollection =>
    unfold exec execRetireCollection at h
    exact comesTo_of_take h fun r => comesTo_guarded fun _ => (Change.retireCollection _ _).answered r _ _
  | walkOrderTake =>
    unfold exec execWalkOrderTake at h
    exact comesTo_of_event h (Change.walkOrderTake _).comes
  | memberRemoval =>
    unfold exec execMemberRemoval at h
    exact comesTo_of_event h (comesTo_whileWalking (Change.memberRemoval _))
  | referenceRemoval =>
    unfold exec execReferenceRemoval at h
    exact comesTo_of_event h (comesTo_whileWalking (Change.referenceRemoval _))
  | objectFree =>
    unfold exec execObjectFree at h
    exact comesTo_of_event h (comesTo_whileWalking (Change.objectFree _))
  | collectionFree =>
    unfold exec execCollectionFree at h
    exact comesTo_of_event h (comesTo_whileWalking (Change.collectionFree _))
  | releaseTake =>
    unfold exec execReleaseTake at h
    exact comesTo_of_take h fun r => comesTo_guarded fun _ => (Change.releaseTake _ _).answered r _ _
  | releaseTakeLastBatch =>
    unfold exec execReleaseTakeLastBatch at h
    exact comesTo_of_take h fun r => comesTo_guarded fun _ => comesTo_answer _ r _ _ _
  | deferredCheck =>
    unfold exec execDeferredCheck at h
    exact comesTo_of_event h (Change.deferredCheck _).comes
  | walkStatus =>
    unfold exec execWalkStatus at h
    exact comesTo_of_take h fun r => comesTo_guarded fun _ => (Change.nothing _ _).answeredSpending r _ _ 8
  | grantSet =>
    unfold exec execGrantSet at h
    exact comesTo_of_take h fun r => comesTo_guarded fun _ => (Change.grantSet _ _).answered r _ _
  | grantClear =>
    unfold exec execGrantClear at h
    exact comesTo_of_take h fun r => comesTo_guarded fun _ => (Change.grantClear _ _).answered r _ _
  | grantRead =>
    unfold exec execGrantRead at h
    exact comesTo_of_take h fun r => comesTo_guarded fun _ => comesTo_answer _ r _ _ _
  | grantReadDecision =>
    unfold exec execGrantReadDecision at h
    exact comesTo_of_take h fun r => comesTo_guarded fun _ => comesTo_answer _ r _ _ _
  | planOpen =>
    unfold exec execPlanOpen at h
    exact comesTo_of_take h fun r => comesTo_guarded fun hpass => comesTo_planOpenTaken hpass
  | scanStep plan =>
    unfold exec execScanStep at h
    exact comesTo_of_event h (Change.scanStep _ _).comes
  | planFetch =>
    unfold exec execPlanFetch at h
    exact comesTo_of_take h fun r => comesTo_guarded fun hpass => (Change.planFetch r _ hpass _).answered r _ _
  | planCheck =>
    unfold exec execPlanCheck at h
    exact comesTo_of_take h fun r => comesTo_guarded fun hpass => comesTo_planCheckTaken hpass
  | planDone =>
    unfold exec execPlanDone at h
    exact comesTo_of_take h fun r => comesTo_guarded fun hpass => (Change.planDone r _ hpass).answered r _ _
  | bayHold =>
    unfold exec execBayHold at h
    exact comesTo_of_take h fun r => comesTo_guarded fun hpass => comesTo_bayHoldTaken hpass
  | bayRelease =>
    unfold exec execBayRelease at h
    exact comesTo_of_take h fun r =>
      comesTo_guarded fun hpass => (Change.bayRelease _ _ (byteAt_lt_of_bayNumberChecks hpass)).answered r _ _
  | bayStatus =>
    unfold exec execBayStatus at h
    exact comesTo_of_take h fun r => comesTo_guarded fun _ => comesTo_answer _ r _ _ _
  | spinUpStart =>
    unfold exec execSpinUpStart at h
    exact comesTo_of_event h (Change.spinUpStart _).comes
  | spinUpExpiry bay =>
    unfold exec execSpinUpExpiry at h
    exact comesTo_of_event_if h fun hc => .spinUpExpiry _ _ hc
  | idleTimerExpiry bay =>
    unfold exec execIdleTimerExpiry at h
    exact comesTo_of_event_if h fun hc => .idleTimerExpiry _ _ hc
  | spinDownExpiry bay =>
    unfold exec execSpinDownExpiry at h
    exact comesTo_of_event_if h fun hc => .spinDownExpiry _ _ hc
  | presenceLoss bay =>
    unfold exec execPresenceLoss at h
    exact comesTo_of_event_if h fun hc => .presenceLoss _ _ hc
  | presenceArrival bay =>
    unfold exec execPresenceArrival at h
    exact comesTo_of_event_if h fun hc => .presenceArrival _ _ hc
  | standbyEnter =>
    unfold exec execStandbyEnter at h
    exact comesTo_of_take h fun r => comesTo_powerGuarded fun hpass => .standbyEnter r _ hpass
  | standbyEntryComplete =>
    unfold exec execStandbyEntryComplete at h
    exact comesTo_of_event h (Change.standbyEntryComplete _).comes
  | handshakeTimerExpiry =>
    unfold exec execHandshakeTimerExpiry at h
    exact comesTo_of_event_if h fun hc => .handshakeTimerExpiry _ hc.2.1
  | returnPrior =>
    unfold exec execReturnPrior at h
    exact comesTo_of_take h fun r => comesTo_powerGuarded fun hpass => .returnPrior r _ hpass
  | powerStatus =>
    unfold exec execPowerStatus at h
    exact comesTo_of_take h fun r => comesTo_guarded fun _ => (Change.nothing _ _).answeredSpending r _ _ 1
  | wakeTimerExpiry =>
    unfold exec execWakeTimerExpiry at h
    exact comesTo_of_event_if h fun hc => .wakeTimerExpiry _ hc.2
  | pauseTimerExpiry =>
    unfold exec execPauseTimerExpiry at h
    exact comesTo_of_event_if h fun hc => .pauseTimerExpiry _ hc.2
  | buttonPress =>
    unfold exec execButtonPress at h
    exact comesTo_of_event h (Change.buttonPress _).comes
  | frameReceived frame good =>
    unfold exec execFrameReceived at h
    exact comesTo_of_event_if h fun _ => .frameReceived _ good _
  | frameOut =>
    unfold exec execFrameOut at h
    exact comesTo_of_take h fun r => comesTo_guarded fun _ => (Change.frameOut _ _).answered r _ _
  | frameTransmitStart =>
    unfold exec execFrameTransmitStart at h
    exact comesTo_of_event h (Change.frameTransmitStart _).comes
  | frameTransmitEnd =>
    unfold exec execFrameTransmitEnd at h
    exact comesTo_of_event h (Change.frameTransmitEnd _).comes
  | filterSet =>
    unfold exec execFilterSet at h
    exact comesTo_of_take h fun r => comesTo_guarded fun _ => (Change.filterSet _ _ _).answered r _ _
  | filterRead =>
    unfold exec execFilterRead at h
    exact comesTo_of_take h fun r => comesTo_guarded fun _ => comesTo_answer _ r _ _ _
  | templateSet =>
    unfold exec execTemplateSet at h
    exact comesTo_of_take h fun r => comesTo_guarded fun _ => (Change.templateSet _ _ _).answered r _ _
  | templateRead =>
    unfold exec execTemplateRead at h
    exact comesTo_of_take h fun r => comesTo_guarded fun _ => comesTo_answer _ r _ _ _
  | tablesInit =>
    unfold exec execTablesInit at h
    exact comesTo_of_take h fun r => comesTo_guarded fun hpass => (Change.tablesInit r _ hpass).answeredSpending r _ _ 4
  | imageExport =>
    unfold exec execImageExport at h
    exact comesTo_of_take h fun r => comesTo_guarded fun hpass => (Change.imageExport r _ hpass).answeredSpending r _ _ 4
  | imageNext =>
    unfold exec execImageNext at h
    exact comesTo_of_take h fun r => comesTo_guarded fun _ => comesTo_imageNextTaken r _
  | imageNextAgain =>
    unfold exec execImageNextAgain at h
    exact comesTo_of_take h fun r => comesTo_guarded fun _ => comesTo_imageAgainTaken r _
  | imageCancel =>
    unfold exec execImageCancel at h
    exact comesTo_of_take h fun r => comesTo_guarded fun _ => comesTo_imageCancelTaken r _
  | imageImport =>
    unfold exec execImageImport at h
    exact comesTo_of_take h fun r => comesTo_guarded fun hpass => (Change.imageImport r _ hpass).answered r _ _
  | imagePut =>
    unfold exec execImagePut at h
    exact comesTo_of_take h fun r => comesTo_guarded fun _ => (Change.imagePut _ _ _).answered r _ _
  | imageEnd =>
    unfold exec execImageEnd at h
    exact comesTo_of_take h fun r => comesTo_guarded fun _ => comesTo_imageEndTaken r _
  | receiveLineQuiet =>
    unfold exec execReceiveLineQuiet at h
    exact comesTo_of_event h (Change.receiveLineQuiet _).comes

/-- What every change of a command keeps, every answer and the end of a step, the command keeps. -/
theorem exec_keeps {P : State → Prop} {c : Instr} {s t : State} (h : exec c s = .next t)
    (hc : ∀ sense, c ≠ .powerOnReset sense) (hchange : ∀ u, Change c s.quiet u → P u)
    (hanswer : ∀ r st rec n u, P u → P (answer r st rec (u.spend n)))
    (hsettle : ∀ u, P u → P (settle s.quiet u)) : P t := by
  obtain ⟨v, ⟨u, hu, rfl | ⟨r, st, rec, n, rfl⟩⟩, rfl⟩ := exec_changes h hc
  · exact hsettle _ (hchange _ hu)
  · exact hsettle _ (hanswer _ _ _ _ _ (hchange _ hu))

/-! ### Batches -/

/-- What each written image record and a failure keep, the entries of an IMAGE_PUT keep. -/
theorem putEntries_keeps {P : State → Prop}
    (hwritten : ∀ e s s' want head, P s → applyRecord e s = .written s' want head →
      P { s' with tiu := s'.tiu.after e want head })
    (hfail : ∀ s, P s → P (failImport s)) (es : List (List Byte)) (sts : List Status) {s : State} (h : P s) :
    P (putEntries es sts s).2 := by
  induction es generalizing sts s with
  | nil => exact h
  | cons e es ih =>
    refine ih _ ?_
    simp only [putEntry]
    split
    · exact h
    · split
      · exact hfail _ h
      · split
        · exact hfail _ h
        next hr => exact hwritten _ _ _ _ _ h hr

end Sys2Proof.Machine
end

section
/-!
PROOFS. The fields that only named commands change (R10, R16, R19, R20, R22, R25, R142, R185, R187).
-/

namespace Sys2Proof.Machine

/-- What O56 says of command `c` between the states `s` and `t`. -/
def KeptBy (c : Instr) (s t : State) : Prop :=
  (c ∉ [Instr.settingsWrite, .imagePut] → t.slc.settings = s.slc.settings)
    ∧ ((∀ sense, c ≠ .secondEvent sense) → c ≠ .clockSet → t.bck = s.bck)
    ∧ (c ∉ [Instr.tablesInit, .imageImport, .imagePut, .imageEnd, .imageCancel] → t.tiu.load = s.tiu.load)
    ∧ (c ∉ [Instr.imageExport, .imageNext, .imageCancel, .imageImport] → t.tiu.exporting = s.tiu.exporting)
    ∧ (c ≠ .planOpen → c ≠ .imageEnd → t.rpb.epoch = s.rpb.epoch)
    ∧ (c ≠ .templateSet → t.nwu.templates = s.nwu.templates)
    ∧ (c ≠ .noticeMask → t.slc.enables = s.slc.enables)
    ∧ (c ∉ [Instr.linkStatus, .linkStatusClearCounts, .trainingComplete] → t.slc.acked = s.slc.acked)
    ∧ ((∀ sense, c ≠ .secondEvent sense) →
        c ∉ [Instr.clockSet, .clientRetire, .retireCollection, .grantSet, .grantClear, .tablesInit, .imageImport, .imagePut] →
        t.grants = s.grants)
    ∧ (c ∉ [Instr.streamData, .streamCommit, .streamAbort, .hostReset, .trainingLost, .referenceRemoval, .releaseTake,
            .planCheck, .tablesInit, .imageImport, .imagePut] → t.chunks = s.chunks)

/-- The entries of an IMAGE_PUT keep the exporting flag. -/
theorem putEntries_exporting (es : List (List Byte)) (sts : List Status) (s : State) :
    (putEntries es sts s).2.tiu.exporting = s.tiu.exporting :=
  putEntries_keeps (P := fun u => u.tiu.exporting = s.tiu.exporting)
    (fun e u u' want head hu hr => by
      obtain ⟨-, hframe⟩ := applyRecord_frame e u u' want head hr
      simp [Tiu.after, hframe, hu])
    (fun u hu => hu) es sts rfl

/-- A command keeps in its own change the fields that it is not named for. -/
theorem Change.keptBy {c : Instr} {s u : State} (h : Change c s u) : KeptBy c s u := by
  cases h with
  | memberAdd n es s => 
    exact memberEntries_keeps (KeptBy _ s) _ es [] s (by simp [KeptBy]) fun m u hu => by simpa [KeptBy] using hu
  | memberRemove n es s => 
    exact memberEntries_keeps (KeptBy _ s) _ es [] s (by simp [KeptBy]) fun m u hu => by simpa [KeptBy] using hu
  | imageExport r s hpass =>
    have hload : s.tiu.load = .loaded := by
      simp [imageExportChecks, changeGate, State.loaded, firstFail_none] at hpass
      exact hpass.2.1
    simp [KeptBy, startExport, freezeWalk, Tiu.cleared, hload]
  | tablesInit r s hpass =>
    have hexport : s.tiu.exporting = false := by
      simp [tablesInitChecks, firstFail_none] at hpass
      exact hpass.2.1
    simp [KeptBy, initTables, Tiu.cleared, hexport]
  | imagePut es whole s => simp [KeptBy, putEntries_exporting]
  | _ => simp [KeptBy]

/-- Settles O56: every change keeps the fields that its command is not named for, an answer and the end of a step keep all of
them. -/
theorem onlyTheseCommandsChange : Obligations.OnlyTheseCommandsChange := by
  intro c s t h hc
  refine exec_keeps (P := KeptBy c s) h hc (fun u hu => ?_) (fun r st rec n u hu => ?_) (fun u hu => ?_)
  · simpa [KeptBy] using hu.keptBy
  · simpa [KeptBy] using hu
  · simpa [KeptBy] using hu

end Sys2Proof.Machine
end

section
/-!
PROOFS. The Bay Power Controller keeps its records sound (R155 to R165): one lemma for each operation on the controller.
-/

namespace Sys2Proof.Machine

/-! ### The four bays -/

/-- The total draw is that of the four bays. -/
theorem Bpc.totalDraw_eq (b : Bpc) :
    b.totalDraw = (b.bay 0).state.draw + (b.bay 1).state.draw + (b.bay 2).state.draw + (b.bay 3).state.draw := by
  obtain ⟨⟨⟨l⟩, hl⟩, q, f⟩ := b
  match l, hl with
  | [w, x, y, z], _ => simp [Bpc.totalDraw, Bpc.bay, slot, Nat.add_assoc]

@[simp] theorem Bpc.setBay_queue (b : Bpc) (i : Nat) (x : Bay) : (b.setBay i x).queue = b.queue := rfl
@[simp] theorem Bpc.setBay_force (b : Bpc) (i : Nat) (x : Bay) : (b.setBay i x).force = b.force := rfl

@[simp] theorem Bpc.bay_setBay_self (b : Bpc) {i : Nat} (x : Bay) (hi : i < 4) : (b.setBay i x).bay i = x :=
  slot_put_self _ _ _ _ hi

theorem Bpc.bay_setBay (b : Bpc) {i : Nat} (x : Bay) (hi : i < 4) (j : Nat) :
    (b.setBay i x).bay j = if j = i then x else b.bay j := by
  split
  next hj => subst hj; exact b.bay_setBay_self x hi
  next hj => exact slot_put_other _ _ _ _ _ hj

/-- The last of two writes at one entry stays. -/
@[simp] theorem put_put {α : Type} {n : Nat} (v : Vector α n) (i : Nat) (x y : α) : put (put v i x) i y = put v i y := by
  simp only [put]
  ext j hj
  simp only [Vector.getElem_setIfInBounds]
  split <;> rfl

/-- Outside the four bays there is none: a read gives an EMPTY bay. -/
theorem Bpc.bay_outside (b : Bpc) {i : Nat} (hi : 4 ≤ i) : b.bay i = Bay.atReset false := slot_outside _ _ _ hi

/-- A bay that is not EMPTY is one of the four. -/
theorem Bpc.lt_of_isEmpty_eq_false {b : Bpc} {i : Nat} (h : b.isEmpty i = false) : i < 4 := by
  by_contra hi
  simp [Bpc.isEmpty, b.bay_outside (not_lt.1 hi), Bay.atReset] at h

/-- A changed bay changes the total draw by its own. -/
theorem Bpc.totalDraw_setBay (b : Bpc) {i : Nat} (x : Bay) (hi : i < 4) :
    (b.setBay i x).totalDraw + (b.bay i).state.draw = b.totalDraw + x.state.draw := by
  simp only [Bpc.totalDraw_eq, b.bay_setBay x hi]
  interval_cases i <;> simp <;> omega

/-- A map over the four bays, read at one of them. -/
theorem Bpc.bay_map (b : Bpc) (f : Bay → Bay) {i : Nat} (hi : i < 4) :
    Bpc.bay { b with bays := b.bays.map f } i = f (b.bay i) := by
  simp [Bpc.bay, slot, hi]

/-! ### Changes of one bay -/

section
variable {budget : Nat} {b : Bpc} {i : Nat} {x : Bay}

/-- A bay that neither joins nor leaves the queue is replaced by one of no greater draw. -/
theorem Bpc.Sound.setBay (h : b.Sound budget) (hi : i < 4) (hx : x.Sound)
    (hq : x.state = .queued ↔ (b.bay i).state = .queued) (hd : x.state.draw ≤ (b.bay i).state.draw) :
    (b.setBay i x).Sound budget := by
  obtain ⟨hbays, hnodup, hlt, hmem, hdraw⟩ := h
  have htotal := b.totalDraw_setBay x hi
  refine ⟨fun j hj => ?_, hnodup, hlt, fun j hj => ?_, by omega⟩
  · rw [b.bay_setBay x hi]
    split
    · exact hx
    · exact hbays j hj
  · rw [b.bay_setBay x hi, Bpc.setBay_queue, hmem j hj]
    split
    next hji => rw [hq, hji]
    · rfl

/-- A bay leaves the queue for a state of no greater draw. -/
theorem Bpc.Sound.leaveQueue (h : b.Sound budget) (hi : i < 4) (hx : x.Sound) (hq : x.state ≠ .queued)
    (hd : x.state.draw ≤ (b.bay i).state.draw) :
    Bpc.Sound budget { b.setBay i x with queue := b.queue.filter (· ≠ i) } := by
  obtain ⟨hbays, hnodup, hlt, hmem, hdraw⟩ := h
  have htotal := b.totalDraw_setBay x hi
  refine ⟨fun j hj => ?_, hnodup.filter _, fun j hj => hlt j (List.mem_of_mem_filter hj), fun j hj => ?_, ?_⟩
  · change Bay.Sound ((b.setBay i x).bay j)
    rw [b.bay_setBay x hi]
    split
    · exact hx
    · exact hbays j hj
  · change _ ↔ ((b.setBay i x).bay j).state = .queued
    rw [b.bay_setBay x hi, List.mem_filter, hmem j hj]
    by_cases hji : j = i <;> simp [hji, hq]
  · change (b.setBay i x).totalDraw ≤ budget
    omega

/-- A bay joins the queue at its tail. -/
theorem Bpc.Sound.enterQueue (h : b.Sound budget) (hi : i < 4) (hx : x.Sound) (hq : x.state = .queued)
    (hold : (b.bay i).state ≠ .queued) :
    Bpc.Sound budget { b.setBay i x with queue := b.queue ++ [i] } := by
  obtain ⟨hbays, hnodup, hlt, hmem, hdraw⟩ := h
  have htotal := b.totalDraw_setBay x hi
  have hnot : i ∉ b.queue := fun hin => hold ((hmem i hi).1 hin)
  refine ⟨fun j hj => ?_, ?_, fun j hj => ?_, fun j hj => ?_, ?_⟩
  · change Bay.Sound ((b.setBay i x).bay j)
    rw [b.bay_setBay x hi]
    split
    · exact hx
    · exact hbays j hj
  · simpa [List.nodup_append, hnodup] using fun a ha => (ne_of_mem_of_not_mem ha hnot)
  · rcases List.mem_append.1 hj with hj | hj
    · exact hlt j hj
    · exact (List.mem_singleton.1 hj).symm ▸ hi
  · change _ ↔ ((b.setBay i x).bay j).state = .queued
    rw [b.bay_setBay x hi, List.mem_append, hmem j hj, List.mem_singleton]
    by_cases hji : j = i <;> simp [hji, hq]
  · change (b.setBay i x).totalDraw ≤ budget
    rw [hq] at htotal
    simp only [BayState.draw] at htotal
    omega

end

/-! ### The queue -/

/-- The heads of a queue that start leave sound records (R160). -/
theorem Bpc.startHeads_sound {cfg : Settings} (l : List Nat) (b : Bpc)
    (h : Bpc.Sound cfg.budget { b with queue := l }) : (Bpc.startHeads cfg b l).Sound cfg.budget := by
  induction l generalizing b with
  | nil => exact h
  | cons i rest ih =>
    rw [Bpc.startHeads]
    split
    next hfits =>
      refine ih _ ?_
      obtain ⟨hbays, hnodup, hlt, hmem, hdraw⟩ := h
      obtain ⟨hi, hlt⟩ := List.forall_mem_cons.1 hlt
      obtain ⟨hnot, hnodup⟩ := List.nodup_cons.1 hnodup
      have hqueued : (b.bay i).state = .queued := (hmem i hi).1 List.mem_cons_self
      have htotal := b.totalDraw_setBay ((b.bay i).startSpinUp cfg) hi
      obtain ⟨hpresent, htimer, hholds, hrespin, hdiffer⟩ := hbays i hi
      simp only [Bpc.bay] at hqueued hpresent htimer hholds hrespin hdiffer
      refine ⟨fun j hj => ?_, hnodup, hlt, fun j hj => ?_, ?_⟩
      · change Bay.Sound ((b.setBay i ((b.bay i).startSpinUp cfg)).bay j)
        rw [b.bay_setBay _ hi]
        split
        · simp_all [Bay.Sound, Bay.startSpinUp, Bay.timerAgrees, Bay.holdsAgree]
        · exact hbays j hj
      · change _ ↔ ((b.setBay i ((b.bay i).startSpinUp cfg)).bay j).state = .queued
        rw [b.bay_setBay _ hi]
        have := hmem j hj
        by_cases hji : j = i
        · simp [hji, hnot, Bay.startSpinUp]
        · simpa [hji] using this
      · change (b.setBay i ((b.bay i).startSpinUp cfg)).totalDraw ≤ cfg.budget
        have : ((b.bay i).startSpinUp cfg).state.draw = Config.spinUpDraw := rfl
        omega
    next => exact h

/-- An examination of the queue leaves sound records (R160). -/
theorem Bpc.Sound.examine {cfg : Settings} {b : Bpc} (h : b.Sound cfg.budget) : (b.examine cfg).Sound cfg.budget :=
  Bpc.startHeads_sound b.queue b h

/-- What a bay joins the queue as. -/
theorem Bpc.joinQueue_setBay (cfg : Settings) (b : Bpc) {i : Nat} (x : Bay) (hi : i < 4) :
    Bpc.joinQueue cfg i (b.setBay i x)
      = Bpc.examine cfg { b.setBay i { x with state := .queued } with queue := b.queue ++ [i] } := by
  simp only [Bpc.joinQueue, Bpc.bay_setBay_self b x hi, put_put]

/-- A bay that is held and has no timer joins the queue, and the queue is examined (R156, R160). -/
theorem Bpc.Sound.joinQueue {cfg : Settings} {b : Bpc} {i : Nat} {x : Bay} (h : b.Sound cfg.budget) (hi : i < 4)
    (hold : (b.bay i).state ≠ .queued) (hx : Bay.Sound { x with state := .queued }) :
    (Bpc.joinQueue cfg i (b.setBay i x)).Sound cfg.budget := by
  rw [Bpc.joinQueue_setBay cfg b x hi]
  exact (h.enterQueue hi hx rfl hold).examine

/-! ### Holds and releases -/

@[simp] theorem Bay.addHold_state (x : Bay) (k : HoldKind) : (x.addHold k).state = x.state := by cases k <;> rfl
@[simp] theorem Bay.addHold_timer (x : Bay) (k : HoldKind) : (x.addHold k).timer = x.timer := by cases k <;> rfl
@[simp] theorem Bay.addHold_respin (x : Bay) (k : HoldKind) : (x.addHold k).respin = x.respin := by cases k <;> rfl
@[simp] theorem Bay.addHold_present (x : Bay) (k : HoldKind) : (x.addHold k).present = x.present := by cases k <;> rfl
@[simp] theorem Bay.addHold_differ (x : Bay) (k : HoldKind) : (x.addHold k).differ = x.differ := by cases k <;> rfl
@[simp] theorem Bay.dropHold_state (x : Bay) (k : HoldKind) : (x.dropHold k).state = x.state := by cases k <;> rfl
@[simp] theorem Bay.dropHold_timer (x : Bay) (k : HoldKind) : (x.dropHold k).timer = x.timer := by cases k <;> rfl
@[simp] theorem Bay.dropHold_respin (x : Bay) (k : HoldKind) : (x.dropHold k).respin = x.respin := by cases k <;> rfl
@[simp] theorem Bay.dropHold_present (x : Bay) (k : HoldKind) : (x.dropHold k).present = x.present := by cases k <;> rfl
@[simp] theorem Bay.dropHold_differ (x : Bay) (k : HoldKind) : (x.dropHold k).differ = x.differ := by cases k <;> rfl

/-- A bay with one hold more is held. -/
theorem Bay.holdCount_addHold_pos (x : Bay) (k : HoldKind) : 0 < (x.addHold k).holdCount := by
  cases k <;> simp [Bay.addHold, Bay.holdCount]

/-- A bay with a hold of some kind is held. -/
theorem Bay.holdCount_pos_of_count {x : Bay} {k : HoldKind} (h : x.count k ≠ 0) : 0 < x.holdCount := by
  cases k <;> simp only [Bay.count, Bay.holdCount] at * <;> omega

/-- What a sound bay is, state by state (Table 9.2, Table 9.3): presence, timer, holds, respin. -/
def Bay.SoundByState (x : Bay) : Prop :=
  x.differ ≤ 2 ∧ match x.state with
    | .empty => x.present = false ∧ x.timer = none ∧ x.holdCount = 0 ∧ x.respin = false
    | .off => x.present = true ∧ x.timer = none ∧ x.holdCount = 0 ∧ x.respin = false
    | .queued => x.present = true ∧ x.timer = none ∧ 0 < x.holdCount ∧ x.respin = false
    | .spinningUp => x.present = true ∧ (∃ n, x.timer = some (.spinUp, n)) ∧ x.respin = false
    | .ready =>
      x.present = true ∧ (x.timer = none ∨ x.holdCount = 0 ∧ ∃ n, x.timer = some (.idle, n)) ∧ x.respin = false
    | .spinningDown =>
      x.present = true ∧ (∃ n, x.timer = some (.spinDown, n)) ∧ (x.respin = true ↔ 0 < x.holdCount)

theorem Bay.sound_iff (x : Bay) : x.Sound ↔ x.SoundByState := by
  obtain ⟨state, streamHolds, planHolds, manual, timer, respin, present, differ⟩ := x
  cases state <;> rcases timer with _ | ⟨_ | _ | _, n⟩ <;>
    simp [Bay.Sound, Bay.SoundByState, Bay.timerAgrees, Bay.holdsAgree] <;> grind

section
variable {x : Bay} (cfg : Settings)

/-- A READY bay that nothing holds spins down, soundly (R162, R165). -/
theorem Bay.sound_startSpinDown (hdiffer : x.differ ≤ 2) (hpresent : x.present = true) (hcount : x.holdCount = 0)
    (hrespin : x.respin = false) : (x.startSpinDown cfg).Sound := by
  rw [Bay.sound_iff]
  simp_all [Bay.SoundByState, Bay.startSpinDown, Bay.holdCount]

/-- A READY bay that nothing holds starts its idle timer, soundly (R162). -/
theorem Bay.sound_startIdle (hdiffer : x.differ ≤ 2) (hstate : x.state = .ready) (hpresent : x.present = true)
    (hcount : x.holdCount = 0) (hrespin : x.respin = false) : (x.startIdle cfg).Sound := by
  rw [Bay.sound_iff]
  by_cases hidle : cfg.idle = 0 <;> simp_all [Bay.SoundByState, Bay.startIdle, Bay.holdCount]

/-- A READY bay that nothing holds is let down, soundly (R157, R161). -/
theorem Bay.sound_letDown (force : Bool) (hdiffer : x.differ ≤ 2) (hstate : x.state = .ready)
    (hpresent : x.present = true) (hcount : x.holdCount = 0) (hrespin : x.respin = false) :
    (x.letDown cfg force).Sound := by
  unfold Bay.letDown
  split
  · exact Bay.sound_startSpinDown cfg hdiffer hpresent hcount hrespin
  · exact Bay.sound_startIdle cfg hdiffer hstate hpresent hcount hrespin

/-- A READY bay that is let down is READY or SPINNING_DOWN. -/
theorem Bay.letDown_state (force : Bool) (hstate : x.state = .ready) :
    (x.letDown cfg force).state = if force then .spinningDown else .ready := by
  cases force <;> simp [Bay.letDown, Bay.startSpinDown, Bay.startIdle, hstate]

end

/-- A hold on a bay that is not EMPTY leaves sound records (R156). -/
theorem Bpc.Sound.hold {cfg : Settings} {b : Bpc} {k : HoldKind} {i : Nat} (h : b.Sound cfg.budget)
    (hempty : b.isEmpty i = false) : (b.hold cfg k i).Sound cfg.budget := by
  have hi := Bpc.lt_of_isEmpty_eq_false hempty
  have hx := (Bay.sound_iff _).1 (h.1 i hi)
  have hpos := (b.bay i).holdCount_addHold_pos k
  simp only [Bpc.hold, Bay.addHold_state]
  split
  next hs =>
    refine h.joinQueue hi (by simp [hs]) ((Bay.sound_iff _).2 ?_)
    simp_all [Bay.SoundByState, Bay.holdCount]
  next hs =>
    refine h.setBay hi ((Bay.sound_iff _).2 ?_) (by simp) (by simp)
    simp_all [Bay.SoundByState, Bay.holdCount]
  next hs =>
    refine h.setBay hi ((Bay.sound_iff _).2 ?_) (by simp) (by simp)
    simp_all [Bay.SoundByState, Bay.holdCount]
  next hs =>
    refine h.setBay hi ((Bay.sound_iff _).2 ?_) (by simp) (by simp)
    cases hstate : (b.bay i).state <;> simp_all [Bay.SoundByState, Bay.holdCount, Bpc.isEmpty]

/-- A release leaves sound records (R157). -/
theorem Bpc.Sound.release {cfg : Settings} {b : Bpc} {k : HoldKind} {i : Nat} (h : b.Sound cfg.budget) :
    (b.release cfg k i).Sound cfg.budget := by
  unfold Bpc.release
  split
  · exact h
  next hcount =>
    have hpos := Bay.holdCount_pos_of_count hcount
    have hi : i < 4 := by
      by_contra hi
      rw [b.bay_outside (not_lt.1 hi)] at hpos
      simp [Bay.atReset, Bay.holdCount] at hpos
    have hx := (Bay.sound_iff _).1 (h.1 i hi)
    simp only
    split
    next hheld =>
      refine h.setBay hi ((Bay.sound_iff _).2 ?_) (by simp) (by simp)
      cases hstate : (b.bay i).state <;> simp_all [Bay.SoundByState, Nat.pos_iff_ne_zero]
    next hfree =>
      simp only [Bay.dropHold_state]
      split
      next hs =>
        refine (h.leaveQueue hi ((Bay.sound_iff _).2 ?_) (by simp) (by simp [BayState.draw])).examine
        simp_all [Bay.SoundByState, Bay.holdCount]
      next hs =>
        have hready : ((b.bay i).dropHold k).state = .ready := by rw [Bay.dropHold_state, hs]
        have hstate := Bay.letDown_state cfg b.force hready
        simp only [Bay.SoundByState, hs] at hx
        obtain ⟨hdiffer, hpresent, -, hrespin⟩ := hx
        refine h.setBay hi (Bay.sound_letDown cfg _ (by simpa) hready (by simpa) (by simpa using hfree) (by simpa)) ?_ ?_
        · rw [hstate, hs]; cases b.force <;> simp
        · rw [hstate, hs]; cases b.force <;> simp [BayState.draw]
      next hs =>
        refine h.setBay hi ((Bay.sound_iff _).2 ?_) (by simp) (by simp)
        simp_all [Bay.SoundByState, Bay.holdCount]
      next hs =>
        refine h.setBay hi ((Bay.sound_iff _).2 ?_) (by simp) (by simp)
        cases hstate : (b.bay i).state <;> simp_all [Bay.SoundByState, Bay.holdCount]

/-! ### The force, the timers and presence -/

/-- A map over the bays that keeps each bay's place in the queue and raises no draw leaves sound records. -/
theorem Bpc.Sound.mapBays {budget : Nat} {b b' : Bpc} (h : b.Sound budget) (f : Nat → Bay → Bay)
    (hbay : ∀ i < 4, b'.bay i = f i (b.bay i)) (hqueue : b'.queue = b.queue)
    (hf : ∀ i x, x.Sound → (f i x).Sound ∧ ((f i x).state = .queued ↔ x.state = .queued)
      ∧ (f i x).state.draw ≤ x.state.draw) : b'.Sound budget := by
  obtain ⟨hbays, hnodup, hlt, hmem, hdraw⟩ := h
  refine ⟨fun i hi => ?_, hqueue ▸ hnodup, hqueue ▸ hlt, fun i hi => ?_, ?_⟩
  · rw [hbay i hi]
    exact (hf i _ (hbays i hi)).1
  · rw [hqueue, hbay i hi, (hf i _ (hbays i hi)).2.1]
    exact hmem i hi
  · rw [Bpc.totalDraw_eq] at hdraw ⊢
    have hle (i) (hi : i < 4) := (hf i _ (hbays i hi)).2.2
    have h0 := hle 0; have h1 := hle 1; have h2 := hle 2; have h3 := hle 3
    simp only [← hbay _ (show 0 < 4 by decide), ← hbay _ (show 1 < 4 by decide), ← hbay _ (show 2 < 4 by decide),
      ← hbay _ (show 3 < 4 by decide), Nat.ofNat_pos, Nat.one_lt_ofNat, Nat.reduceLT, forall_const] at h0 h1 h2 h3
    omega

/-- The standby force leaves sound records (R165). -/
theorem Bpc.Sound.setForce {cfg : Settings} {b : Bpc} (h : b.Sound cfg.budget) : (b.setForce cfg).Sound cfg.budget := by
  refine h.mapBays (fun _ x => if x.state = .ready ∧ x.holdCount = 0 then x.startSpinDown cfg else x)
    (fun i hi => b.bay_map _ hi) rfl fun _ x hx => ?_
  split
  next hc =>
    have hparts := (Bay.sound_iff x).1 hx
    simp only [Bay.SoundByState, hc.1] at hparts
    obtain ⟨hdiffer, hpresent, -, hrespin⟩ := hparts
    exact ⟨Bay.sound_startSpinDown cfg hdiffer hpresent hc.2 hrespin, by simp [Bay.startSpinDown, hc.1],
      by simp [Bay.startSpinDown, hc.1, BayState.draw]⟩
  · exact ⟨hx, Iff.rfl, le_rfl⟩

/-- The withdrawal of the force leaves sound records (R165). -/
theorem Bpc.Sound.withdrawForRun {cfg : Settings} {b : Bpc} (h : b.Sound cfg.budget) :
    (b.withdrawForRun cfg).Sound cfg.budget := by
  refine h.mapBays (fun _ x => if x.state = .ready ∧ x.holdCount = 0 then x.startIdle cfg else x)
    (fun i hi => b.bay_map _ hi) rfl fun _ x hx => ?_
  split
  next hc =>
    have hparts := (Bay.sound_iff x).1 hx
    simp only [Bay.SoundByState, hc.1] at hparts
    obtain ⟨hdiffer, hpresent, -, hrespin⟩ := hparts
    exact ⟨Bay.sound_startIdle cfg hdiffer hc.1 hpresent hc.2 hrespin, by simp [Bay.startIdle],
      by simp [Bay.startIdle]⟩
  · exact ⟨hx, Iff.rfl, le_rfl⟩

/-- A second event, read at one of the four bays. -/
theorem Bpc.bay_second (sense : Vector Bool 4) (b : Bpc) {i : Nat} (hi : i < 4) :
    (b.second sense).bay i = (b.bay i).second (slot false sense i) := by
  simp [Bpc.second, Bpc.bay, slot, hi]

/-- A second event leaves sound records (R23, R155). -/
theorem Bpc.Sound.second {budget : Nat} {b : Bpc} (sense : Vector Bool 4) (h : b.Sound budget) :
    (b.second sense).Sound budget := by
  refine h.mapBays (fun i x => x.second (slot false sense i)) (fun i hi => b.bay_second sense hi) rfl fun i x hx => ?_
  refine ⟨(Bay.sound_iff _).2 ?_, Iff.rfl, le_rfl⟩
  obtain ⟨hdiffer, hparts⟩ := (Bay.sound_iff x).1 hx
  refine ⟨?_, ?_⟩
  · simp only [Bay.second]
    split
    · exact le_rfl
    · split <;> omega
  · cases hs : x.state <;> simp_all [Bay.second, tickTimer, Bay.holdCount]

/-- A loss of presence leaves sound records (R164). -/
theorem Bpc.Sound.lose {cfg : Settings} {b : Bpc} {i : Nat} (h : b.Sound cfg.budget) (hi : i < 4) :
    (b.lose cfg i).Sound cfg.budget :=
  (h.leaveQueue hi (by decide) (by decide) (by simp [Bay.atReset, BayState.draw])).examine

/-- An arrival of presence at an EMPTY bay leaves sound records (R164). -/
theorem Bpc.Sound.arrive {budget : Nat} {b : Bpc} {i : Nat} (h : b.Sound budget) (hi : i < 4)
    (hempty : (b.bay i).state = .empty) : (b.arrive i).Sound budget :=
  h.setBay hi (by decide) (by simp [Bay.atReset, hempty]) (by simp [Bay.atReset, BayState.draw])

/-- The end of a spin-up leaves sound records (R161). -/
theorem Bpc.Sound.finishSpinUp {cfg : Settings} {b : Bpc} {i : Nat} (h : b.Sound cfg.budget) (hi : i < 4)
    {n : Nat} (htimer : (b.bay i).timer = some (.spinUp, n)) : (b.finishSpinUp cfg i).Sound cfg.budget := by
  obtain ⟨hdiffer, hparts⟩ := (Bay.sound_iff _).1 (h.1 i hi)
  have hs : (b.bay i).state = .spinningUp := by cases hs : (b.bay i).state <;> simp_all
  simp only [hs] at hparts
  obtain ⟨hpresent, -, hrespin⟩ := hparts
  simp only [Bpc.finishSpinUp]
  split
  next hcount =>
    have hstate := Bay.letDown_state cfg b.force (x := { b.bay i with state := .ready, timer := none }) rfl
    refine h.setBay hi (Bay.sound_letDown cfg _ hdiffer rfl hpresent hcount hrespin) ?_ ?_
    · rw [hstate, hs]; cases b.force <;> simp
    · rw [hstate, hs]; cases b.force <;> decide
  next hcount =>
    refine h.setBay hi ((Bay.sound_iff _).2 ?_) (by simp [hs])
      (by rw [hs]; exact (by decide : BayState.ready.draw ≤ BayState.spinningUp.draw))
    exact ⟨hdiffer, hpresent, .inl rfl, hrespin⟩

/-- The expiry of an idle timer leaves sound records (R162). -/
theorem Bpc.Sound.spinDown {cfg : Settings} {b : Bpc} {i : Nat} (h : b.Sound cfg.budget) (hi : i < 4)
    {n : Nat} (htimer : (b.bay i).timer = some (.idle, n)) :
    (b.setBay i ((b.bay i).startSpinDown cfg)).Sound cfg.budget := by
  obtain ⟨hdiffer, hparts⟩ := (Bay.sound_iff _).1 (h.1 i hi)
  have hs : (b.bay i).state = .ready := by cases hs : (b.bay i).state <;> simp_all
  simp only [hs, htimer] at hparts
  obtain ⟨hpresent, hcount, hrespin⟩ := hparts
  exact h.setBay hi (Bay.sound_startSpinDown cfg hdiffer hpresent (by simpa using hcount) hrespin)
    (by simp [Bay.startSpinDown, hs]) (by simp [Bay.startSpinDown, hs, BayState.draw])

/-- The end of a spin-down leaves sound records (R163). -/
theorem Bpc.Sound.finishSpinDown {cfg : Settings} {b : Bpc} {i : Nat} (h : b.Sound cfg.budget) (hi : i < 4)
    {n : Nat} (htimer : (b.bay i).timer = some (.spinDown, n)) : (b.finishSpinDown cfg i).Sound cfg.budget := by
  obtain ⟨hdiffer, hparts⟩ := (Bay.sound_iff _).1 (h.1 i hi)
  have hs : (b.bay i).state = .spinningDown := by cases hs : (b.bay i).state <;> simp_all
  simp only [hs] at hparts
  obtain ⟨hpresent, -, hrespin⟩ := hparts
  simp only [Bpc.finishSpinDown]
  split
  next hr =>
    exact h.joinQueue (x := { b.bay i with respin := false, timer := none }) hi (by simp [hs])
      ((Bay.sound_iff _).2 ⟨hdiffer, hpresent, rfl, hrespin.1 hr, rfl⟩)
  next hr =>
    refine (h.setBay (x := { b.bay i with state := .off, timer := none }) hi
      ((Bay.sound_iff _).2 ⟨hdiffer, hpresent, rfl, ?_, by simpa using hr⟩) (by simp [hs])
      (by simp [BayState.draw])).examine
    exact Nat.eq_zero_of_not_pos fun hpos => hr (hrespin.2 hpos)

end Sys2Proof.Machine
end

section
/-!
PROOFS. An invariant that the single writes of records, queues and lists keep, the operations composed of them keep: streams,
commits, aborts, packets, members, the walk, plans (chapters 3 to 8).
-/

namespace Sys2Proof.Machine

/-- `P` is kept by each single write that the operations on records are composed of. A change of the Retirement Unit that
leaves the release list counts as one write; an extent joins the release list only where it has room (R117, R118). -/
structure RecordKept (P : State → Prop) : Prop where
  streams (s : State) (v : Vector Stream 8) (h : P s) : P { s with streams := v }
  object (s : State) (n : Nat) (x : Obj) (h : P s) : P (s.setObject n x)
  coll (s : State) (n : Nat) (x : Coll) (h : P s) : P (s.setColl n x)
  pages (s : State) (n : Nat) (h : P s) : P { s with oct.freePages := n }
  chunk (s : State) (n : Nat) (x : Chunk) (h : P s) : P (s.setChunk n x)
  charge (s : State) (c g n : Nat) (h : P s) : P (charge c g n s)
  refund (s : State) (c g n : Nat) (h : P s) : P (refund c g n s)
  deferred (s : State) (i : Nat) (st : Status) (h : P s) : P (sendDeferred i st s)
  release (s : State) (k : HoldKind) (i : Nat) (h : P s) : P (releaseBay k i s)
  walk (s : State) (r : Rtu) (hr : r.release = s.rtu.release) (h : P s) : P { s with rtu := r }
  extent (s : State) (l : Loc) (n : Nat) (hroom : s.rtu.release.length < Config.releaseMax) (h : P s) :
    P { s with rtu.release := s.rtu.release ++ [l.extent n] }
  check (s : State) (h : P s) : P (makeDeferredCheck s)
  between (s : State) (n : Nat) (h : P s) : P (takenBetween n (s.spend 1))
  plans (s : State) (v : Vector Plan 16) (h : P s) : P { s with rpb.plans := v }

namespace RecordKept

variable {P : State → Prop} (hP : RecordKept P) {s : State}
include hP

/-! ### Records -/

theorem setRecipe (h : P s) (n : Nat) (r : List Ref) : P (setRecipe n r s) := hP.pages _ _ (hP.object _ _ _ h)

theorem replaceColl (h : P s) (n : Nat) (c : Coll) : P (replaceColl n c s) := hP.pages _ _ (hP.coll _ _ _ h)

theorem refundPayer (h : P s) (payer : Option (Nat × Nat)) (n : Nat) : P (refundPayer payer n s) := by
  unfold Machine.refundPayer
  split
  · exact h
  · exact hP.refund _ _ _ _ h

theorem loseWriter (h : P s) (n : Nat) : P (loseWriter n s) := hP.refundPayer (hP.chunk _ _ _ h) _ _

theorem returnReservation (h : P s) : P (returnReservation s) := hP.walk _ _ rfl h

theorem takeOldest (h : P s) : P (takeOldest s) := by
  unfold Machine.takeOldest
  split <;> exact hP.walk _ _ rfl h

theorem takeIfIdle (h : P s) : P (takeIfIdle s) := by
  unfold Machine.takeIfIdle
  split
  · exact hP.takeOldest h
  · exact h

theorem appendOrder (h : P s) (o : Order) : P (appendOrder o s) := hP.takeIfIdle (hP.walk _ _ rfl h)

theorem endWalk (h : P s) (o : Order) : P (endWalk o s) := hP.takeOldest (hP.walk _ _ rfl h)

/-! ### Streams -/

theorem setStream (h : P s) (i : Nat) (x : Stream) : P (s.setStream i x) := hP.streams _ _ h

theorem haltStream (h : P s) (i : Nat) (why : HaltReason) : P (haltStream i why s) := by
  simp only [Machine.haltStream]
  split
  · exact h
  · exact h
  · exact hP.deferred _ _ _ (hP.setStream h _ _)
  · exact hP.setStream h _ _

theorem completeStream (h : P s) (i : Nat) : P (completeStream i s) := by
  simp only [Machine.completeStream]
  refine hP.deferred _ _ _ (hP.setStream ?_ _ _)
  have hmember := hP.replaceColl (hP.object s (s.stream i).object
    { s.object (s.stream i).object with state := .complete, length := (s.stream i).position, holders := 1 } h)
  split
  · exact hP.release _ _ _ (hmember _ _)
  · exact hmember _ _

theorem completeFinished (h : P s) : P (completeFinished s) := by
  unfold Machine.completeFinished
  refine foldl_keeps P _ _ s h fun s i h => ?_
  split
  · exact hP.completeStream h i
  · exact h

theorem settleHandle (h : P s) (n : Nat) : P (settleHandle n s) := hP.completeFinished (hP.streams _ _ h)

theorem revertRewrite (h : P s) (n : Nat) : P (revertRewrite n s) :=
  hP.settleHandle (hP.returnReservation (hP.chunk _ _ _ h)) n

/-! ### Commits -/

theorem deferOld (h : P s) (old : Option Loc) (n : Nat) : P (deferOld old n s) := by
  unfold Machine.deferOld
  split
  · exact hP.check _ (hP.returnReservation h)
  · exact hP.check _ (hP.walk _ _ rfl (hP.returnReservation h))

theorem commitItem (h : P s) (i : Nat) (it : Item) (ok : Bool) (l : Loc) : P (commitItem i it ok l s) := by
  unfold Machine.commitItem
  split
  · unfold commitNew
    split
    · exact hP.settleHandle (hP.chunk _ _ _ h) _
    · exact hP.haltStream (hP.loseWriter h _) _ _
  · simp only [commitPrivate]
    split
    · exact hP.object _ _ _ h
    · exact hP.haltStream h _ _
  · simp only [commitRewrite]
    split
    · exact hP.settleHandle (hP.deferOld (hP.chunk _ _ _ h) _ _) _
    · exact hP.revertRewrite h _
  · exact h

theorem commitEntry (h : P s) (i : Nat) (e : CommitEntry) : P (commitEntry i e s).2 := by
  unfold Machine.commitEntry
  split
  · exact h
  · exact h
  · dsimp only
    exact hP.completeFinished (hP.commitItem (hP.setStream h _ _) _ _ _ _)

theorem commitEntries (h : P s) (i : Nat) (es : List (List Byte)) (sts : List Status) : P (commitEntries i es sts s).2 := by
  induction es generalizing sts s with
  | nil => exact h
  | cons e es ih => exact ih (hP.commitEntry h i _) _

/-! ### Aborts -/

theorem abortItem (h : P s) (i dropped : Nat) (it : Item) : P (abortItem i (dropped, s) it).2 := by
  simp only [Machine.abortItem]
  split <;> dsimp only
  · exact hP.loseWriter h _
  · exact hP.revertRewrite h _
  · exact hP.refund _ _ _ _ (hP.setRecipe h _ _)
  · exact h

theorem releaseItems (h : P s) (i : Nat) : P (releaseItems i s) := by
  unfold Machine.releaseItems
  exact foldl_keeps (fun acc : Nat × State => P acc.2) (Machine.abortItem i) _ (0, s) h
    fun acc it hacc => hP.abortItem hacc i acc.1 it

theorem abortParts (h : P s) (i : Nat) : P (abortParts i s) := by
  simp only [Machine.abortParts]
  refine hP.setStream ?_ _ _
  have hslot := fun n c => hP.replaceColl (hP.setStream (hP.releaseItems h i) i
    { (Machine.releaseItems i s).stream i with outstanding := [] }) n c
  split
  · refine hP.release _ _ _ ?_
    split
    · exact hP.object _ _ _ (hP.setRecipe (hslot _ _) _ _)
    · exact hP.appendOrder (hP.object _ _ _ (hslot _ _)) _
  · split
    · exact hP.object _ _ _ (hP.setRecipe (hslot _ _) _ _)
    · exact hP.appendOrder (hP.object _ _ _ (hslot _ _)) _

theorem abortStream (h : P s) (i : Nat) : P (abortStream i s) := hP.abortParts (hP.deferred _ _ _ h) i

theorem abortAllStreams (h : P s) : P (abortAllStreams s) := by
  unfold Machine.abortAllStreams
  refine foldl_keeps P _ _ s h fun s i h => ?_
  split
  · exact hP.abortStream h i
  · exact h

/-! ### Packets -/

theorem chargeVerdict (h : P s) (amount : Option Nat) (c g : Nat) : P (chargeVerdict amount c g s) := by
  unfold Machine.chargeVerdict
  split
  · exact hP.charge _ _ _ _ h
  · exact h

theorem refundVerdict (h : P s) (amount : Option Nat) (c g : Nat) : P (refundVerdict amount c g s) := by
  unfold Machine.refundVerdict
  split
  · exact hP.refund _ _ _ _ (hP.between _ _ h)
  · exact h

theorem appendRef (h : P s) (n : Nat) (ref : Ref) (length : Nat) : P (appendRef n ref length s) :=
  hP.object _ _ _ (hP.setRecipe h _ _)

theorem applyVerdict (h : P s) (v : Verdict) (i c g : Nat) (d : Digest) (length : Nat) :
    P (applyVerdict v i c g d length s) := by
  unfold Machine.applyVerdict
  split
  · exact hP.chunk _ _ _ h
  · exact h
  · exact hP.chunk _ _ _ h
  · exact hP.chunk _ _ _ h
  · exact hP.chunk _ _ _ h
  · exact hP.walk _ _ rfl (hP.chunk _ _ _ h)

theorem present (h : P s) (i : Nat) (d : Digest) (length : Nat) : P (present i d length s).2 := by
  have hcharged := hP.chargeVerdict h (s.verdictCharge (s.chooseVerdict d) length) (s.stream i).client
    (s.stream i).generation
  simp only [Machine.present]
  split
  · exact h
  · split
    · exact hP.applyVerdict (hP.appendRef hcharged _ _ _) _ _ _ _ _ _
    · exact hP.refundVerdict hcharged _ _ _

theorem haltPacket (h : P s) (i : Nat) (why : HaltReason) : P (haltPacket i why s) :=
  hP.haltStream (hP.setStream h _ _) i why

theorem cutChunk (h : P s) (i : Nat) : P (cutChunk i s).2 := by
  have hpresent := hP.present h i (s.stream i).running.finish (s.stream i).chunkLength
  simp only [Machine.cutChunk]
  split
  next hp => rw [hp] at hpresent; exact hP.setStream hpresent _ _
  next hp => rw [hp] at hpresent; exact hP.haltPacket hpresent _ _

theorem takeBytes (h : P s) (i : Nat) (bs : List Byte) (recs : List VerdictRecord) : P (takeBytes i bs recs s).2 := by
  induction bs generalizing recs s with
  | nil => exact h
  | cons b bs ih =>
    simp only [Machine.takeBytes]
    split
    · exact hP.haltPacket h _ _
    · have hbyte := hP.setStream h i ((s.stream i).takeByte b)
      split
      · have hcut := hP.cutChunk hbyte i
        split
        next hc => rw [hc] at hcut; exact ih hcut _
        next hc => rw [hc] at hcut; exact hcut
      · exact ih hbyte _

theorem takePacket (h : P s) (i : Nat) (bs : List Byte) (isEnd : Bool) : P (takePacket i bs isEnd s).2 := by
  have hbytes := hP.takeBytes h i bs []
  simp only [Machine.takePacket]
  split
  · unfold takeEnd
    split
    · exact hbytes
    · split
      · exact hP.setStream hbytes _ _
      · have hcut := hP.cutChunk hbytes i
        split
        next hc => rw [hc] at hcut; exact hP.setStream hcut _ _
        next hc => rw [hc] at hcut; exact hcut
  · exact hbytes

/-! ### Members and the walk -/

theorem addMember (h : P s) (c n : Nat) : P (addMember c n s) := hP.object _ _ _ (hP.replaceColl h _ _)

theorem memberAddEntry (h : P s) (c n : Nat) : P (memberAddEntry c n s).2 := by
  unfold Machine.memberAddEntry
  split
  · exact h
  · exact hP.addMember h c n

theorem dropMember (h : P s) (c n : Nat) : P (dropMember c n s) := hP.object _ _ _ (hP.replaceColl h _ _)

theorem memberRemoveEntry (h : P s) (c n : Nat) : P (memberRemoveEntry c n s).2 := by
  unfold Machine.memberRemoveEntry
  split
  · exact h
  · split
    · exact h
    · simp only [removeMember]
      split
      · exact hP.appendOrder (hP.dropMember h c n) _
      · exact hP.dropMember h c n

theorem memberRemoval (h : P s) : P (memberRemoval s) := by
  unfold Machine.memberRemoval
  split
  · unfold walkMember
    split
    · exact h
    · simp only
      split
      · unfold afterLastHolder
        split <;> exact hP.walk _ _ rfl (hP.dropMember h _ _)
      · exact hP.dropMember h _ _
  · exact h

theorem collectionFree (h : P s) : P (collectionFree s) := by
  unfold Machine.collectionFree
  split
  · split
    · exact hP.endWalk (hP.replaceColl h _ _) _
    · exact h
  · exact h

theorem objectFree (h : P s) : P (objectFree s) := by
  unfold Machine.objectFree
  split
  · exact h
  · split
    · unfold endObjectWalk
      split
      · exact hP.walk _ _ rfl (hP.object _ _ _ h)
      · exact hP.endWalk (hP.object _ _ _ h) _
    · exact h

theorem releaseExtent (h : P s) (l : Option Loc) (n : Nat) (hroom : l.isSome = true → s.rtu.release.length < Config.releaseMax) :
    P (releaseExtent l n s) := by
  unfold Machine.releaseExtent
  split
  · exact h
  · exact hP.extent _ _ _ (hroom rfl) h

theorem decrement (h : P s) (n : Nat) (hroom : s.rtu.release.length < Config.releaseMax) : P (decrement n s) := by
  simp only [Machine.decrement]
  split
  · exact h
  · split
    · exact hP.chunk _ _ _ h
    · exact hP.refundPayer (hP.releaseExtent (hP.chunk _ _ _ h) _ _ fun _ => hroom) _ _

theorem referenceRemoval (h : P s) : P (referenceRemoval s) := by
  unfold Machine.referenceRemoval
  split
  · exact h
  · split
    · exact h
    next n _ _ ref rest _ =>
      split
      · exact hP.walk _ _ rfl h
      next hfree =>
        have hroom : ref.mayAdd = true → s.rtu.release.length < Config.releaseMax := fun hadd => by
          simpa [hadd, Rtu.releaseFull] using hfree
        have hrecipe := hP.setRecipe h n rest
        simp only [releaseRef]
        split
        · exact hP.decrement hrecipe _ (hroom rfl)
        · exact hP.refund _ _ _ _ (hP.releaseExtent hrecipe _ _ hroom)

theorem resumeWalk (h : P s) : P (resumeWalk s) := by
  unfold Machine.resumeWalk
  split
  · exact hP.referenceRemoval (hP.walk _ _ rfl h)
  · exact h

theorem unfreezeWalk (h : P s) : P (unfreezeWalk s) := by
  unfold Machine.unfreezeWalk thawWalk
  split
  · exact hP.walk _ _ rfl (hP.check _ h)
  · exact hP.takeOldest (hP.check _ h)

/-! ### Plans -/

theorem releases (h : P s) (k : HoldKind) (l : List Nat) : P (l.foldl (fun s i => releaseBay k i s) s) :=
  foldl_keeps P _ l s h fun s i h => hP.release s k i h

theorem closePlan (h : P s) (p : Nat) : P (closePlan p s) :=
  hP.check _ (hP.plans _ _ (hP.takeIfIdle (hP.object _ _ _ (hP.releases h .plan _))))

theorem closeAllPlans (h : P s) : P (closeAllPlans s) := by
  unfold Machine.closeAllPlans
  refine foldl_keeps P _ _ s h fun s p h => ?_
  split
  · exact hP.closePlan h p
  · exact h

theorem clearManualHolds (h : P s) : P (clearManualHolds s) := hP.releases h .manual _

end RecordKept

end Sys2Proof.Machine
end

section
/-!
PROOFS. The operations of other blocks that reach the bays keep them sound: the ends of streams, the holds and releases of
plans, link reset, the standby force, a written budget (R20, R61, R64, R146, R149, R153, R165).
-/

namespace Sys2Proof.Machine

/-- `State.BaysSound` as a property of its own name. -/
def State.BaysOk (s : State) : Prop := s.BaysSound

theorem State.baysOk_iff (s : State) : s.BaysOk ↔ s.bpc.Sound s.slc.settings.budget := Iff.rfl

variable {s : State}

/-- Bays whose records and settings stay are as sound as before. -/
theorem baysOk_of_eq {u : State} (h : s.BaysOk) (hbpc : u.bpc = s.bpc) (hsettings : u.slc.settings = s.slc.settings) :
    u.BaysOk := by
  rw [State.baysOk_iff, hbpc, hsettings]
  exact h

/-- The single writes of records keep the bays sound: only a release reaches a bay. -/
theorem recordKept_baysOk : RecordKept State.BaysOk where
  streams _ _ h := h
  object _ _ _ h := h
  coll _ _ _ h := h
  pages _ _ h := h
  chunk _ _ _ h := h
  charge _ _ _ _ h := baysOk_of_eq h (by simp) (by simp)
  refund _ _ _ _ h := baysOk_of_eq h (by simp) (by simp)
  deferred _ _ _ h := baysOk_of_eq h (by simp) (by simp)
  release s _ _ h := Bpc.Sound.release (cfg := s.slc.settings) h
  walk _ _ _ h := h
  extent _ _ _ _ h := h
  check _ h := baysOk_of_eq h (by simp) (by simp)
  between _ _ h := baysOk_of_eq h (by simp) (by simp)
  plans _ _ h := h

/-! ### Streams and plans -/

theorem openStream_bpc (f : OpenFields) (i n : Nat) (s : State) :
    (openStream f i n s).bpc = s.bpc.hold s.slc.settings .stream f.bay := by
  simp [openStream, holdBay]

theorem baysOk_openStream (h : s.BaysOk) (f : OpenFields) (i n : Nat) (hempty : s.bpc.isEmpty f.bay = false) :
    (openStream f i n s).BaysOk := by
  rw [State.baysOk_iff] at h ⊢
  rw [openStream_bpc, (openStream_frame f i n s).2.2.1]
  exact h.hold hempty

theorem baysOk_planHold (h : s.BaysOk) (p i : Nat) : (planHold p i s).2.BaysOk := by
  unfold planHold
  split
  · exact h
  next hempty =>
    have hbays : s.bpc.Sound s.slc.settings.budget := h
    exact (hbays.hold (k := .plan) (eq_false_of_ne_true hempty) : (s.bpc.hold _ .plan i).Sound _)

theorem baysOk_planHolds (h : s.BaysOk) (p : Nat) (l : List Nat) (lost : Bool) : (planHolds p l lost s).2.BaysOk := by
  induction l generalizing s lost with
  | nil => exact h
  | cons i l ih =>
    simp only [planHolds]
    split
    · exact ih h lost
    · exact ih (baysOk_planHold h p i) _

theorem baysOk_scanEnd (h : s.BaysOk) (p : Nat) : (scanEnd p s).BaysOk :=
  baysOk_of_eq (baysOk_planHolds h p (baysOf ((s.plan p).scanBays.getD 0#4)) false) rfl rfl

theorem baysOk_scanEndIfDone (h : s.BaysOk) (p : Nat) : (scanEndIfDone p s).BaysOk := by
  unfold scanEndIfDone
  split
  · split
    · exact baysOk_scanEnd h p
    · exact h
  · exact h

theorem baysOk_scanStep (h : s.BaysOk) (p : Nat) : (scanStep p s).BaysOk := by
  unfold scanStep
  split
  · exact h
  · split
    · exact baysOk_scanEndIfDone (baysOk_of_eq h (by simp) (by simp)) p
    · exact baysOk_scanEndIfDone h p

theorem baysOk_openPlan (h : s.BaysOk) (p : Nat) (f : PlanFields) : (openPlan p f s).BaysOk := by
  simp only [openPlan]
  refine baysOk_scanEndIfDone ?_ p
  exact baysOk_of_eq h rfl rfl

theorem baysOk_fetchHold (h : s.BaysOk) (p : Nat) (loc : Option Loc) : (fetchHold p loc s).BaysOk := by
  unfold fetchHold
  split
  · exact h
  · split
    · exact h
    next l _ => exact baysOk_of_eq (baysOk_planHold h p l.bay) rfl rfl

theorem baysOk_fetchRefs (h : s.BaysOk) (p k : Nat) (refs : List Ref) (out : List Byte) :
    (fetchRefs p k refs out s).2.BaysOk := by
  induction refs generalizing s k out with
  | nil => exact h
  | cons ref refs ih => exact ih (baysOk_fetchHold h p _) _ _

/-! ### Box power, settings and link reset -/

theorem baysOk_abandonStandby (h : s.BaysOk) (why : StandbyFailure) : (abandonStandby why s).BaysOk := by
  have hwithdraw : Bpc.Sound s.slc.settings.budget (s.bpc.withdrawForRun s.slc.settings) := Bpc.Sound.withdrawForRun h
  simp only [abandonStandby]
  split <;> simpa [State.baysOk_iff] using hwithdraw

theorem baysOk_completeStandby (h : s.BaysOk) : (completeStandby s).BaysOk := by
  unfold completeStandby
  split
  · rw [State.baysOk_iff, (enterStandby_frame s).2.2.1]
    exact h
  · exact h

theorem baysOk_dueRise (h : s.BaysOk) (c : Nat) : (dueRise c s).BaysOk := by
  unfold dueRise
  split
  · exact baysOk_of_eq h (by simp) (by simp)
  · exact baysOk_abandonStandby h _
  · exact h

theorem baysOk_frameHeldReport (h : s.BaysOk) (c : Nat) : (frameHeldReport c s).BaysOk := by
  unfold frameHeldReport
  split
  · exact baysOk_of_eq h (by simp) (by simp)
  · exact baysOk_abandonStandby h _
  · exact h

theorem baysOk_evaluateDue (h : s.BaysOk) (cs : List Nat) : (evaluateDue cs s).BaysOk := by
  unfold evaluateDue
  split
  · simp only
    split
    · refine baysOk_dueRise ?_ _
      exact baysOk_of_eq h rfl rfl
    · exact baysOk_of_eq h rfl rfl
  · exact h

theorem baysOk_linkReset (h : s.BaysOk) (cause : StartCause) : (linkReset cause s).BaysOk := by
  have hlink : (resetLink cause s).BaysOk := baysOk_of_eq h (by simp) (by simp)
  have hmanual := recordKept_baysOk.clearManualHolds
    (recordKept_baysOk.closeAllPlans (recordKept_baysOk.abortAllStreams hlink))
  have hblocks : (resetBlocks (resetLink cause s)).BaysOk :=
    baysOk_of_eq hmanual (by simp only [resetBlocks]) (by simp only [resetBlocks])
  unfold linkReset resetPower
  split
  · exact baysOk_abandonStandby hblocks _
  · exact hblocks

theorem baysOk_replaceSettings (h : s.BaysOk) (x : Settings) : (replaceSettings x s).BaysOk := by
  obtain ⟨hbays, hnodup, hlt, hmem, hdraw⟩ := h
  have hnew : s.bpc.Sound (x.clamped s.bpc.totalDraw).budget := ⟨hbays, hnodup, hlt, hmem, le_max_right _ _⟩
  simp only [replaceSettings]
  split
  · exact Bpc.Sound.examine (cfg := x.clamped s.bpc.totalDraw) hnew
  · exact hnew

end Sys2Proof.Machine
end

section
/-!
PROOFS. What a written image record is, section by section (R191, Table 12.3).
-/

namespace Sys2Proof.Machine

/-- What image record `e` makes of the state when it is written, with the checks that its write rests on. -/
inductive ImageWritten (e : ImageEntry) (s : State) : State → Prop where
  | settings : ImageWritten e s (replaceSettings (Settings.ofBytes e.content) s)
  | client (h : firstFail (clientImageChecks s e) = none) :
      ImageWritten e s (s.setClient e.number (imageClient e.content))
  | filterHead : ImageWritten e s s
  | filterMask (fs : List Filter) : ImageWritten e s (s.setClient e.number { s.client e.number with filters := fs })
  | coll (h : firstFail (collImageChecks s e) = none) : ImageWritten e s (s.setColl e.number (imageColl e.content))
  | members (ms : List Nat) :
      ImageWritten e s (replaceColl e.number { s.coll e.number with members := (s.coll e.number).members ++ ms } s)
  | object (h : firstFail (objectImageChecks e) = none) : ImageWritten e s (s.setObject e.number (imageObject e.content))
  | refs (refs : List Ref) : ImageWritten e s (setRecipe e.number ((s.object e.number).recipe ++ refs) s)
  | chunk (h : firstFail (chunkImageChecks s e) = none) : ImageWritten e s (s.setChunk e.number (imageChunk e.content))
  | grant (g : Grant) (hnew : s.grantOf g.grantee g.target = none) : ImageWritten e s (s.setGrant e.number g)
  | order (o : Order) : ImageWritten e s { s with rtu.orders := s.rtu.orders ++ [o] }
  | release (x : Extent) (hroom : s.rtu.release.length < Config.releaseMax) :
      ImageWritten e s { s with rtu.release := s.rtu.release ++ [x] }
  | deferred (d : Deferred) : ImageWritten e s { s with rtu.deferred := s.rtu.deferred ++ [d] }
  | trailer (counts : Option (List Nat)) : ImageWritten e s { s with tiu.cursor.trailer := counts }

/-- A write under checks passed them. -/
theorem Applied.when_eq_written {checks : List (Bool × Status)} {s t : State} {want w : Nat}
    {head : Option (Nat × List Byte)} (h : Applied.when checks s want = .written t w head) :
    firstFail checks = none ∧ t = s := by
  unfold Applied.when at h
  split at h
  · contradiction
  next hpass =>
    cases h
    exact ⟨hpass, rfl⟩

/-- An image record that is written is one of these. -/
theorem applyRecord_written {e : ImageEntry} {s t : State} {w : Nat} {head : Option (Nat × List Byte)}
    (h : applyRecord e s = .written t w head) : ImageWritten e s t := by
  unfold applyRecord at h
  split at h
  · obtain ⟨-, rfl⟩ := Applied.when_eq_written h
    exact .settings
  · obtain ⟨hpass, rfl⟩ := Applied.when_eq_written h
    exact .client hpass
  · unfold applyClientPart at h
    split at h
    · simp only [applyFilterHead] at h
      split at h
      · cases h
        exact .filterHead
      · contradiction
    · cases h
      exact .filterMask _
  · obtain ⟨hpass, rfl⟩ := Applied.when_eq_written h
    exact .coll hpass
  · obtain ⟨-, rfl⟩ := Applied.when_eq_written h
    exact .members _
  · obtain ⟨hpass, rfl⟩ := Applied.when_eq_written h
    exact .object hpass
  · simp only [applyRefs] at h
    split at h
    · obtain ⟨-, rfl⟩ := Applied.when_eq_written h
      exact .refs _
    · obtain ⟨-, rfl⟩ := Applied.when_eq_written h
      exact .refs _
    · contradiction
  · obtain ⟨hpass, rfl⟩ := Applied.when_eq_written h
    exact .chunk hpass
  · unfold applyGrant at h
    split at h
    · contradiction
    · obtain ⟨hpass, rfl⟩ := Applied.when_eq_written h
      rw [firstFail_none] at hpass
      exact .grant _ (by simpa using hpass _ (List.mem_append_right _ (List.mem_singleton_self _)))
  · unfold applyOrder at h
    split at h
    · contradiction
    · obtain ⟨-, rfl⟩ := Applied.when_eq_written h
      exact .order _
  · obtain ⟨hpass, rfl⟩ := Applied.when_eq_written h
    rw [firstFail_none] at hpass
    exact .release _ (by simpa using hpass _ (List.mem_cons_of_mem _ (List.mem_singleton_self _)))
  · obtain ⟨-, rfl⟩ := Applied.when_eq_written h
    exact .deferred _
  · obtain ⟨-, rfl⟩ := Applied.when_eq_written h
    exact .trailer _
  · contradiction

end Sys2Proof.Machine
end

section
/-!
PROOFS. Every command's change keeps the bays sound: the expiries and presence events of the bays themselves, the settings of
an image, and the changes of all other commands (chapter 9).
-/

namespace Sys2Proof.Machine

variable {s : State}

/-! ### Expiries and presence -/

/-- A timer that has run out stands at one of the four bays. -/
theorem State.timer_of_bayTimerOut {i : Nat} {k : BayTimer} (h : s.bayTimerOut i k = true) :
    (s.bpc.bay i).timer = some (k, 0) := by
  simpa [State.bayTimerOut] using h

theorem reportBayReady_bays (i : Nat) (s : State) :
    (reportBayReady i s).bpc = s.bpc ∧ (reportBayReady i s).slc.settings = s.slc.settings := by simp

theorem baysOk_spinUpDone (h : s.BaysOk) {i : Nat} (hi : i < 4) (hout : s.bayTimerOut i .spinUp = true) :
    (spinUpDone i s).BaysOk := by
  rw [State.baysOk_iff] at h ⊢
  have hdone := (h.finishSpinUp hi (State.timer_of_bayTimerOut hout)).examine
  simpa [spinUpDone, examineQueue] using hdone

theorem baysOk_idleDone (h : s.BaysOk) {i : Nat} (hi : i < 4) (hout : s.bayTimerOut i .idle = true) :
    (idleDone i s).BaysOk := by
  rw [State.baysOk_iff] at h ⊢
  exact h.spinDown hi (State.timer_of_bayTimerOut hout)

theorem baysOk_spinDownDone (h : s.BaysOk) {i : Nat} (hi : i < 4) (hout : s.bayTimerOut i .spinDown = true) :
    (spinDownDone i s).BaysOk := by
  rw [State.baysOk_iff] at h
  unfold spinDownDone bayReport
  refine baysOk_completeStandby ?_
  exact h.finishSpinDown hi (State.timer_of_bayTimerOut hout)

theorem baysOk_bayLoss (h : s.BaysOk) {i : Nat} (hi : i < 4) : (bayLoss i s).BaysOk := by
  rw [State.baysOk_iff] at h
  simp only [bayLoss, bayReport]
  refine baysOk_completeStandby ?_
  rw [State.baysOk_iff]
  simpa using h.lose (i := i) hi

/-- A bay without a drive is EMPTY. -/
theorem Bay.Sound.state_of_absent {x : Bay} (h : x.Sound) (hpresent : x.present = false) : x.state = .empty := by
  obtain ⟨hstate, -⟩ := h
  by_contra hne
  simp [hpresent, hne] at hstate

theorem baysOk_bayArrival (h : s.BaysOk) {i : Nat} (hi : i < 4) (hchange : s.presenceChange i false = true) :
    (bayArrival i s).BaysOk := by
  rw [State.baysOk_iff] at h
  have hpresent : (s.bpc.bay i).present = false := by
    simp [State.presenceChange] at hchange
    exact hchange.2
  unfold bayArrival bayReport
  refine baysOk_completeStandby ?_
  exact h.arrive hi ((h.1 i hi).state_of_absent hpresent)

/-! ### Time, settings and images -/

theorem baysOk_secondPasses (h : s.BaysOk) (sense : Vector Bool 4) : (secondPasses sense s).BaysOk := by
  rw [State.baysOk_iff] at h
  simp only [secondPasses]
  refine baysOk_evaluateDue ?_ _
  rw [State.baysOk_iff]
  simpa using h.second sense

theorem baysOk_setClock (h : s.BaysOk) (t : Nat) : (setClock t s).BaysOk := by
  unfold setClock
  refine baysOk_evaluateDue ?_ _
  exact baysOk_of_eq h (by simp) (by simp)

theorem baysOk_writeSchedule (h : s.BaysOk) (c : Nat) (sch : Option Schedule) : (writeSchedule c sch s).BaysOk := by
  unfold writeSchedule
  refine baysOk_evaluateDue ?_ _
  exact baysOk_of_eq h (by simp) (by simp)

theorem baysOk_closeSnapshot (h : s.BaysOk) (n : Nat) : (closeSnapshot n s).BaysOk := by
  simp only [closeSnapshot, advanceSchedule]
  split
  · refine baysOk_evaluateDue ?_ _
    exact baysOk_of_eq h rfl rfl
  · exact baysOk_of_eq h rfl rfl

theorem baysOk_watchFrame (h : s.BaysOk) (frame : List Byte) : (watchFrame frame s).BaysOk := by
  unfold watchFrame watchClients
  split
  · exact baysOk_of_eq h (by simp) (by simp)
  · split
    · split
      · refine baysOk_frameHeldReport ?_ _
        exact baysOk_of_eq h rfl rfl
      · exact h
    · exact h

/-- An image record that is written replaces the settings, or leaves bays and settings as they are. -/
theorem applyRecord_bays {e : ImageEntry} {s t : State} {want : Nat} {head : Option (Nat × List Byte)}
    (h : applyRecord e s = .written t want head) :
    t = replaceSettings (Settings.ofBytes e.content) s ∨ t.bpc = s.bpc ∧ t.slc.settings = s.slc.settings := by
  cases applyRecord_written h with
  | settings => exact .inl rfl
  | _ => exact .inr (by simp)

theorem baysOk_putEntries (h : s.BaysOk) (es : List (List Byte)) (sts : List Status) : (putEntries es sts s).2.BaysOk := by
  refine putEntries_keeps (P := State.BaysOk) (fun e u u' want head hu hr => ?_) (fun u hu => ?_) es sts h
  · obtain rfl | ⟨hbpc, hsettings⟩ := applyRecord_bays hr
    · exact baysOk_of_eq (baysOk_replaceSettings hu _) rfl rfl
    · exact baysOk_of_eq hu hbpc hsettings
  · exact baysOk_of_eq hu rfl rfl

theorem baysOk_finishImport (h : s.BaysOk) : (finishImport s).BaysOk := by
  simp only [finishImport]
  refine baysOk_evaluateDue ?_ _
  exact baysOk_of_eq h (by simp) (by simp)

/-! ### Every command -/

/-- Every change of a command keeps the bays sound. -/
theorem Change.baysOk {c : Instr} {s u : State} (hchange : Change c s u) (h : s.BaysOk) : u.BaysOk := by
  cases hchange with
  | trainingLost => 
    unfold loseTraining
    split
    · exact baysOk_linkReset h _
    · exact h
  | hostReset =>
    unfold resetSignal
    split
    · exact baysOk_linkReset h _
    · exact h
  | sleepAck =>
    unfold ackSignal sleepAckReport
    split
    · split
      · exact baysOk_completeStandby (baysOk_of_eq h rfl rfl)
      · exact h
    · exact h
  | settingsWrite x => exact baysOk_replaceSettings h x
  | secondEvent sense => exact baysOk_secondPasses h sense
  | clockSet r => exact baysOk_setClock h _
  | scheduleSet n sch => exact baysOk_writeSchedule h n sch
  | collectionClose n => exact baysOk_closeSnapshot h n
  | streamOpen r _ hpass =>
    refine baysOk_openStream h _ _ _ ?_
    simp [streamOpenChecks, streamOpenConditions, firstFail_none] at hpass
    grind
  | streamCommit r => exact recordKept_baysOk.commitEntries h _ _ _
  | streamFinish r =>
    simp only [streamFinishTaken, completeIfFinished]
    split
    · refine recordKept_baysOk.completeStream ?_ _
      exact baysOk_of_eq h rfl rfl
    · exact baysOk_of_eq h rfl rfl
  | streamCompletion stream =>
    unfold completeIfFinished
    split
    · exact recordKept_baysOk.completeStream h _
    · exact h
  | streamAbort r => exact recordKept_baysOk.abortStream h _
  | planOpen r => exact baysOk_openPlan h _ _
  | scanStep plan => exact baysOk_scanStep h _
  | planFetch r => exact baysOk_fetchRefs h _ _ _ _
  | planDone r => exact recordKept_baysOk.closePlan h _
  | bayHold i _ hi hpower hempty => exact Bpc.Sound.hold (cfg := s.slc.settings) h hempty
  | bayRelease i => exact Bpc.Sound.release (cfg := s.slc.settings) h
  | spinUpStart => exact Bpc.Sound.examine (cfg := s.slc.settings) h
  | spinUpExpiry bay _ hout => exact baysOk_spinUpDone h bay.isLt hout
  | idleTimerExpiry bay _ hout => exact baysOk_idleDone h bay.isLt hout
  | spinDownExpiry bay _ hout => exact baysOk_spinDownDone h bay.isLt hout
  | presenceLoss bay => exact baysOk_bayLoss h bay.isLt
  | presenceArrival bay _ hp => exact baysOk_bayArrival h bay.isLt hp
  | standbyEnter r => exact Bpc.Sound.setForce (cfg := s.slc.settings) h
  | returnPrior r => exact Bpc.Sound.setForce (cfg := s.slc.settings) h
  | standbyEntryComplete => exact baysOk_completeStandby h
  | handshakeTimerExpiry => exact baysOk_abandonStandby h _
  | buttonPress =>
    unfold pressButton
    split
    · exact baysOk_of_eq h rfl rfl
    · refine baysOk_abandonStandby ?_ _
      exact baysOk_of_eq h rfl rfl
    all_goals exact baysOk_of_eq h rfl rfl
  | frameReceived frame good =>
    unfold frameTaken
    split
    · exact baysOk_of_eq h (by simp) (by simp)
    · exact baysOk_watchFrame h _
  | memberAdd n es =>
    exact memberEntries_keeps State.BaysOk _ es [] s h fun m u hu => baysOk_of_eq hu (by simp) (by simp)
  | memberRemove n es =>
    exact memberEntries_keeps State.BaysOk _ es [] s h fun m u hu => baysOk_of_eq hu (by simp) (by simp)
  | imagePut es whole => exact baysOk_of_eq (baysOk_putEntries h es []) (by simp) (by simp)
  | imageEndLoaded => exact baysOk_finishImport h
  | _ => exact baysOk_of_eq h (by simp) (by simp)

end Sys2Proof.Machine
end

section
/-!
PROOFS. Where the power state and the link state stand after the operations that move them: entry to RUN and STANDBY,
abandonment, wakes, link reset, and the end of a step (sections 1.4, 10.1 to 10.6).
-/

namespace Sys2Proof.Machine

variable {s : State}

/-! ### The link -/

@[simp] theorem linkDown_link (s : State) : (linkDown s).slc.link = .down := rfl
@[simp] theorem enterActive_link (b : Bool) (s : State) : (enterActive b s).slc.link = .active := by
  rw [enterActive, slc_enterActive_form]
@[simp] theorem partWake_link (s : State) : (partWake s).slc.link = .active := enterActive_link false s
@[simp] theorem resetLink_link (cause : StartCause) (s : State) : (resetLink cause s).slc.link = .training := rfl

@[simp] theorem noticeChange_link (before after : State) : (noticeChange before after).slc.link = after.slc.link := by
  rw [noticeChange_form]

/-- The end of a step leaves the link state, or wakes an IDLE link. -/
theorem settle_link (before after : State) :
    (settle before after).slc.link = after.slc.link
      ∨ after.slc.link = .idle ∧ (settle before after).slc.link = .active := by
  unfold settle wakeForPacket
  split
  next h => exact .inr ⟨by simpa using h.1, by simp⟩
  · exact .inl (by simp)

/-- A DOWN link stays DOWN at the end of a step, and only a DOWN link is. -/
@[simp] theorem settle_link_eq_down (before after : State) :
    (settle before after).slc.link = .down ↔ after.slc.link = .down := by
  obtain h | ⟨hidle, hactive⟩ := settle_link before after
  · rw [h]
  · simp [hidle, hactive]

/-! ### The power state -/

@[simp] theorem enterRun_power (s : State) : (enterRun s).bxp.power = .run := rfl

@[simp] theorem abandonStandby_power (why : StandbyFailure) (s : State) : (abandonStandby why s).bxp.power = .run := by
  simp only [abandonStandby]
  split <;> simp

@[simp] theorem enterStandby_power (s : State) : (enterStandby s).bxp.power = .standby := rfl
@[simp] theorem enterStandby_link (s : State) : (enterStandby s).slc.link = .down := rfl

/-- A due flag that rises wakes STANDBY and ends a standby entry. -/
theorem dueRise_power (c : Nat) (s : State) :
    (dueRise c s).bxp.power = match s.bxp.power with
      | .standby => .waking
      | .standbyEntry => .run
      | p => p := by
  unfold dueRise
  split <;> simp_all [startWake]

/-- A frame that is held wakes STANDBY and ends a standby entry. -/
theorem frameHeldReport_power (c : Nat) (s : State) :
    (frameHeldReport c s).bxp.power = match s.bxp.power with
      | .standby => .waking
      | .standbyEntry => .run
      | p => p := by
  unfold frameHeldReport
  split <;> simp_all [startWake]

/-- A due evaluation changes the due flags alone, or some flag rises. -/
theorem evaluateDue_cases (cs : List Nat) (s : State) :
    evaluateDue cs s = s ∨ evaluateDue cs s = { s with bxp.due := s.evaluatedDue cs }
      ∨ ∃ c, evaluateDue cs s = dueRise c { s with bxp.due := s.evaluatedDue cs } := by
  unfold evaluateDue
  split
  · simp only
    split
    · exact .inr (.inr ⟨_, rfl⟩)
    · exact .inr (.inl rfl)
  · exact .inl rfl

/-- What the flags and every rise keep, a due evaluation keeps. -/
theorem evaluateDue_keeps {P : State → Prop} (cs : List Nat) (h : P s) (hdue : ∀ due, P { s with bxp.due := due })
    (hrise : ∀ c due, P (dueRise c { s with bxp.due := due })) : P (evaluateDue cs s) := by
  obtain he | he | ⟨c, he⟩ := evaluateDue_cases cs s <;> rw [he]
  · exact h
  · exact hdue _
  · exact hrise _ _

@[simp] theorem linkReset_power (cause : StartCause) (s : State) :
    (linkReset cause s).bxp.power = if s.bxp.power = .standbyEntry then .run else s.bxp.power := by
  unfold linkReset resetPower
  by_cases h : s.bxp.power = .standbyEntry <;> simp [h]

/-- After a standby entry is abandoned by a link reset the link still trains. -/
@[simp] theorem linkReset_link (cause : StartCause) (s : State) : (linkReset cause s).slc.link = .training := by
  unfold linkReset resetPower
  split
  · simp [abandonStandby]
  · simp

end Sys2Proof.Machine
end

section
/-!
PROOFS. In STANDBY_ENTRY and STANDBY no session stands, and in STANDBY the bays have stopped and the link is DOWN (R170,
R171): the predicate, and what each operation keeps of it.
-/

namespace Sys2Proof.Machine

variable {s u : State}

/-! ### The predicate -/

/-- A FREE plan slot holds nothing (Table 8.1). -/
def PlansTidy (plans : Vector Plan 16) : Prop :=
  ∀ p < 16, (slot Plan.free plans p).state = .free → slot Plan.free plans p = Plan.free

/-- No stream is open, no plan is open, and no manual hold stands. -/
def State.Sessionless (s : State) : Prop :=
  (∀ i < 8, (s.stream i).state = .closed) ∧ (∀ p < 16, (s.plan p).state = .free) ∧ ∀ i < 4, (s.bay i).manual = false

/-- The box is in STANDBY_ENTRY or STANDBY. -/
def State.Resting (s : State) : Prop := s.bxp.power = .standbyEntry ∨ s.bxp.power = .standby

/-- `State.StandbySound` with names for its parts. -/
structure State.StandbyOk (s : State) : Prop where
  tidy : PlansTidy s.rpb.plans
  sessionless : s.Resting → s.Sessionless
  stopped : s.bxp.power = .standby → s.bpc.allStopped = true ∧ s.slc.link = .down

theorem State.standbyOk_iff (s : State) : s.StandbyOk ↔ s.StandbySound :=
  ⟨fun h => ⟨h.tidy, h.sessionless, h.stopped⟩, fun h => ⟨h.1, h.2.1, h.2.2⟩⟩

/-- What standby says depends on plans, streams, bays, power state and link alone. -/
theorem standbyOk_of_eq (h : s.StandbyOk) (hplans : u.rpb.plans = s.rpb.plans) (hstreams : u.streams = s.streams)
    (hbays : u.bpc.bays = s.bpc.bays) (hpower : u.bxp.power = s.bxp.power)
    (hlink : s.slc.link = .down → u.slc.link = .down) : u.StandbyOk where
  tidy := hplans ▸ h.tidy
  sessionless hrest := by
    have hs := h.sessionless (by simpa only [State.Resting, hpower] using hrest)
    simpa only [State.Sessionless, State.stream, State.plan, State.bay, hplans, hstreams, hbays] using hs
  stopped hpow := by
    obtain ⟨hstopped, hdown⟩ := h.stopped (hpower ▸ hpow)
    exact ⟨by simpa only [Bpc.allStopped, hbays] using hstopped, hlink hdown⟩

/-- Out of STANDBY_ENTRY and STANDBY only the plans matter. -/
theorem standbyOk_of_awake (htidy : PlansTidy u.rpb.plans) (hawake : ¬ u.Resting) : u.StandbyOk where
  tidy := htidy
  sessionless hrest := absurd hrest hawake
  stopped hpow := absurd (.inr hpow) hawake

/-- Where a session stands the box is neither in STANDBY_ENTRY nor in STANDBY, and what keeps the power state keeps it out. -/
theorem standbyOk_of_session (h : s.StandbyOk) (hsession : ¬ s.Sessionless) (htidy : PlansTidy u.rpb.plans)
    (hpower : u.bxp.power = s.bxp.power) : u.StandbyOk := by
  refine standbyOk_of_awake htidy fun hrest => hsession (h.sessionless ?_)
  simpa only [State.Resting, hpower] using hrest

/-- Outside STANDBY the link may do as it will. -/
theorem standbyOk_of_not_standby (h : s.StandbyOk) (hnot : s.bxp.power ≠ .standby) (hplans : u.rpb.plans = s.rpb.plans)
    (hstreams : u.streams = s.streams) (hbays : u.bpc.bays = s.bpc.bays) (hpower : u.bxp.power = s.bxp.power) :
    u.StandbyOk where
  tidy := hplans ▸ h.tidy
  sessionless hrest := by
    have hs := h.sessionless (by simpa only [State.Resting, hpower] using hrest)
    simpa only [State.Sessionless, State.stream, State.plan, State.bay, hplans, hstreams, hbays] using hs
  stopped hpow := absurd (hpower ▸ hpow) hnot

/-- Bays that change without a manual hold, and stay stopped where they have stopped. -/
theorem standbyOk_of_bays (h : s.StandbyOk) (hplans : u.rpb.plans = s.rpb.plans) (hstreams : u.streams = s.streams)
    (hpower : u.bxp.power = s.bxp.power) (hlink : u.slc.link = s.slc.link)
    (hmanual : ∀ i < 4, (s.bpc.bay i).manual = false → (u.bpc.bay i).manual = false)
    (hstopped : s.bpc.allStopped = true → u.bpc.allStopped = true) : u.StandbyOk where
  tidy := hplans ▸ h.tidy
  sessionless hrest := by
    obtain ⟨hs, hp, hm⟩ := h.sessionless (by simpa only [State.Resting, hpower] using hrest)
    refine ⟨?_, ?_, fun i hi => hmanual i hi (hm i hi)⟩
    · simpa only [State.stream, hstreams] using hs
    · simpa only [State.plan, hplans] using hp
  stopped hpow := by
    obtain ⟨hstop, hdown⟩ := h.stopped (hpower ▸ hpow)
    exact ⟨hstopped hstop, hlink ▸ hdown⟩

/-! ### Sessions that stand -/

/-- A stream that is not CLOSED is a session. -/
theorem State.session_of_stream {i : Nat} (hi : i < 8) (h : (s.stream i).state ≠ .closed) : ¬ s.Sessionless :=
  fun hs => h (hs.1 i hi)

/-- A plan that is not FREE is one of the sixteen. -/
theorem State.plan_lt {p : Nat} (h : (s.plan p).state ≠ .free) : p < 16 := by
  by_contra hp
  exact h (by rw [State.plan, slot_outside _ _ _ (not_lt.1 hp)]; rfl)

/-- A plan that is not FREE is a session. -/
theorem State.session_of_plan {p : Nat} (h : (s.plan p).state ≠ .free) : ¬ s.Sessionless :=
  fun hs => h (hs.2.1 p (State.plan_lt h))

/-- A bay held by hand is one of the four. -/
theorem Bpc.lt_of_manual {b : Bpc} {i : Nat} (h : (b.bay i).manual = true) : i < 4 := by
  by_contra hi
  simp [b.bay_outside (not_lt.1 hi), Bay.atReset] at h

/-! ### Plans -/

theorem plansTidy_put {plans : Vector Plan 16} (h : PlansTidy plans) (p : Nat) {x : Plan}
    (hx : x.state = .free → x = Plan.free) : PlansTidy (put plans p x) := by
  intro q hq
  by_cases hqp : q = p
  · subst hqp
    rw [slot_put_self _ _ _ _ hq]
    exact hx
  · rw [slot_put_other _ _ _ _ _ hqp]
    exact h q hq

theorem plansTidy_map {plans : Vector Plan 16} (h : PlansTidy plans) {f : Plan → Plan} (hfree : f Plan.free = Plan.free)
    (hopen : ∀ x, x.state ≠ .free → (f x).state ≠ .free) : PlansTidy (plans.map f) := by
  intro q hq hstate
  have hmap : slot Plan.free (plans.map f) q = f (slot Plan.free plans q) := by simp [slot, hq]
  rw [hmap] at hstate ⊢
  by_cases hx : (slot Plan.free plans q).state = .free
  · rw [h q hq hx, hfree]
  · exact absurd hstate (hopen _ hx)

/-- The plans are tidy, and plan `p` is open. -/
def State.OpenPlan (p : Nat) (s : State) : Prop := PlansTidy s.rpb.plans ∧ (s.plan p).state ≠ .free

theorem openPlan_setPlan {p : Nat} {x : Plan} (h : s.OpenPlan p) (hx : x.state ≠ .free) : (s.setPlan p x).OpenPlan p := by
  refine ⟨plansTidy_put h.1 p fun hfree => absurd hfree hx, ?_⟩
  rw [State.plan, State.setPlan, slot_put_self _ _ _ _ (State.plan_lt h.2)]
  exact hx

theorem openPlan_planHold {p : Nat} (h : s.OpenPlan p) (i : Nat) : (planHold p i s).2.OpenPlan p := by
  unfold planHold
  split
  · exact h
  · have hheld : (holdBay .plan i s).OpenPlan p := h
    exact openPlan_setPlan hheld h.2

theorem openPlan_planHolds {p : Nat} (h : s.OpenPlan p) (l : List Nat) (lost : Bool) :
    (planHolds p l lost s).2.OpenPlan p := by
  induction l generalizing s lost with
  | nil => exact h
  | cons i l ih =>
    simp only [planHolds]
    split
    · exact ih h lost
    · exact ih (openPlan_planHold h i) _

theorem openPlan_scanEnd {p : Nat} (h : s.OpenPlan p) : (scanEnd p s).OpenPlan p := by
  simp only [scanEnd]
  refine openPlan_setPlan (openPlan_planHolds h _ _) ?_
  split
  · simp
  · split <;> simp

theorem openPlan_scanEndIfDone {p : Nat} (h : s.OpenPlan p) : (scanEndIfDone p s).OpenPlan p := by
  unfold scanEndIfDone
  split
  · split
    · exact openPlan_scanEnd h
    · exact h
  · exact h

theorem openPlan_scanStep {p : Nat} (h : s.OpenPlan p) : (scanStep p s).OpenPlan p := by
  unfold scanStep
  split
  · exact h
  · split
    · exact openPlan_scanEndIfDone (openPlan_setPlan h h.2)
    · exact openPlan_scanEndIfDone h

theorem openPlan_fetchHold {p : Nat} (h : s.OpenPlan p) (loc : Option Loc) : (fetchHold p loc s).OpenPlan p := by
  unfold fetchHold
  split
  · exact h
  · split
    · exact h
    next l _ =>
      have hheld := openPlan_planHold h l.bay
      refine openPlan_setPlan hheld ?_
      unfold Plan.afterFetchHold
      split
      · simp
      · split
        · simp
        · exact hheld.2

theorem openPlan_fetchRefs {p : Nat} (h : s.OpenPlan p) (k : Nat) (refs : List Ref) (out : List Byte) :
    (fetchRefs p k refs out s).2.OpenPlan p := by
  induction refs generalizing s k out with
  | nil => exact h
  | cons ref refs ih => exact ih (openPlan_fetchHold h _) _ _

/-- A plan that opens leaves the plans tidy. -/
theorem plansTidy_openPlan (h : PlansTidy s.rpb.plans) {p : Nat} (hp : p < 16) (f : PlanFields) :
    PlansTidy (openPlan p f s).rpb.plans := by
  simp only [openPlan]
  refine (openPlan_scanEndIfDone ⟨plansTidy_put h p (by simp), ?_⟩).1
  rw [State.plan, State.setPlan, slot_put_self _ _ _ _ hp]
  simp

theorem releases_rpb (k : HoldKind) (l : List Nat) (s : State) :
    (l.foldl (fun s i => releaseBay k i s) s).rpb = s.rpb :=
  foldl_keeps (fun t : State => t.rpb = s.rpb) _ l s rfl fun _ _ h => h

/-- A plan that closes leaves its slot FREE and the others alone (R153). -/
theorem closePlan_plans (p : Nat) (s : State) : (closePlan p s).rpb.plans = put s.rpb.plans p Plan.free := by
  simp [closePlan]

theorem plansTidy_closePlan (h : PlansTidy s.rpb.plans) (p : Nat) : PlansTidy (closePlan p s).rpb.plans := by
  rw [closePlan_plans]
  exact plansTidy_put h p fun _ => rfl

theorem plansTidy_linkReset (h : PlansTidy s.rpb.plans) (cause : StartCause) : PlansTidy (linkReset cause s).rpb.plans := by
  have hclosed : PlansTidy (closeAllPlans (abortAllStreams (resetLink cause s))).rpb.plans := by
    unfold closeAllPlans
    refine foldl_keeps (fun t : State => PlansTidy t.rpb.plans) _ _ _ (by simpa using h) fun t p ht => ?_
    split
    · exact plansTidy_closePlan ht p
    · exact ht
  have hblocks : PlansTidy (resetBlocks (resetLink cause s)).rpb.plans := by
    simpa only [resetBlocks, clearManualHolds, releases_rpb] using hclosed
  unfold linkReset resetPower
  split
  · simpa using hblocks
  · exact hblocks

theorem plansTidy_reportBayReady (h : PlansTidy s.rpb.plans) (i : Nat) : PlansTidy (reportBayReady i s).rpb.plans := by
  simp only [reportBayReady]
  split
  · refine plansTidy_map h (by simp [Plan.free]) fun x hx => ?_
    split
    · simp
    · exact hx
  · exact h

theorem plansTidy_reportBayLost (h : PlansTidy s.rpb.plans) (i : Nat) : PlansTidy (reportBayLost i s).rpb.plans := by
  refine plansTidy_map h (by simp [Plan.free]) fun x hx => ?_
  split
  · simp
  · exact hx

end Sys2Proof.Machine
end

section
/-!
PROOFS. Every step keeps the bays sound and standby free of sessions: manual holds and stopped bays under the operations of the
controller, the events of the power block, and the changes of every command (chapters 9 and 10).
-/

namespace Sys2Proof.Machine

variable {s u : State}

/-! ### Manual holds -/

/-- A bay written with the manual hold it has leaves every manual hold. -/
theorem Bpc.manual_setBay (b : Bpc) (i : Nat) (x : Bay) (hx : x.manual = (b.bay i).manual) (j : Nat) :
    ((b.setBay i x).bay j).manual = (b.bay j).manual := by
  by_cases hi : i < 4
  · rw [b.bay_setBay x hi]
    split
    next hj => rw [hx, hj]
    · rfl
  · rw [Bpc.setBay, put_outside _ _ _ (not_lt.1 hi)]

theorem Bpc.manual_startHeads (cfg : Settings) (l : List Nat) (b : Bpc) (j : Nat) :
    ((Bpc.startHeads cfg b l).bay j).manual = (b.bay j).manual := by
  induction l generalizing b with
  | nil => rfl
  | cons i l ih =>
    rw [Bpc.startHeads]
    split
    · exact (ih _).trans (Bpc.manual_setBay b i ((b.bay i).startSpinUp cfg) rfl j)
    · rfl

/-- An examination of the queue leaves every manual hold. -/
theorem Bpc.manual_examine (cfg : Settings) (b : Bpc) (j : Nat) : ((b.examine cfg).bay j).manual = (b.bay j).manual :=
  Bpc.manual_startHeads cfg b.queue b j

theorem Bpc.manual_joinQueue (cfg : Settings) (i : Nat) (b : Bpc) (j : Nat) :
    ((Bpc.joinQueue cfg i b).bay j).manual = (b.bay j).manual := by
  simp only [Bpc.joinQueue]
  exact (Bpc.manual_examine cfg _ j).trans (Bpc.manual_setBay b i { b.bay i with state := .queued } rfl j)

theorem Bay.manual_letDown (cfg : Settings) (force : Bool) (x : Bay) : (x.letDown cfg force).manual = x.manual := by
  cases force <;> rfl

theorem Bpc.manual_finishSpinUp (cfg : Settings) (i : Nat) (b : Bpc) (j : Nat) :
    ((b.finishSpinUp cfg i).bay j).manual = (b.bay j).manual := by
  simp only [Bpc.finishSpinUp]
  refine Bpc.manual_setBay _ _ _ ?_ _
  split
  · rw [Bay.manual_letDown]
  · rfl

theorem Bpc.manual_finishSpinDown (cfg : Settings) (i : Nat) (b : Bpc) (j : Nat) :
    ((b.finishSpinDown cfg i).bay j).manual = (b.bay j).manual := by
  simp only [Bpc.finishSpinDown]
  split
  · exact (Bpc.manual_joinQueue cfg i _ j).trans
      (Bpc.manual_setBay b i { b.bay i with respin := false, timer := none } rfl j)
  · exact (Bpc.manual_examine cfg _ j).trans
      (Bpc.manual_setBay b i { b.bay i with state := .off, timer := none } rfl j)

/-- A loss of presence leaves no manual hold where none stood. -/
theorem Bpc.manual_lose (cfg : Settings) (i : Nat) (b : Bpc) {j : Nat} (hj : (b.bay j).manual = false) :
    ((b.lose cfg i).bay j).manual = false := by
  simp only [Bpc.lose]
  rw [Bpc.manual_examine]
  change (((b.setBay i { Bay.atReset false with differ := 0 }).bay j)).manual = false
  by_cases hi : i < 4
  · rw [b.bay_setBay _ hi]
    split
    · rfl
    · exact hj
  · rw [Bpc.setBay, put_outside _ _ _ (not_lt.1 hi)]
    exact hj

/-! ### Stopped bays -/

/-- All bays have stopped when each of the four is OFF or EMPTY. -/
theorem Bpc.allStopped_iff (b : Bpc) :
    b.allStopped = true ↔ ∀ i < 4, (b.bay i).state = .off ∨ (b.bay i).state = .empty := by
  obtain ⟨⟨⟨l⟩, hl⟩, q, f⟩ := b
  match l, hl with
  | [w, x, y, z], _ =>
    simp [Bpc.allStopped, Bpc.bay, slot]
    constructor
    · rintro ⟨hw, hx, hy, hz⟩ i hi
      interval_cases i <;> simpa
    · intro h
      exact ⟨by simpa using h 0 (by decide), by simpa using h 1 (by decide), by simpa using h 2 (by decide),
        by simpa using h 3 (by decide)⟩

section
variable {budget : Nat} {b : Bpc}

/-- With every bay stopped nothing is queued. -/
theorem Bpc.Sound.queue_eq_nil (h : b.Sound budget) (hstopped : b.allStopped = true) : b.queue = [] := by
  obtain ⟨-, -, hlt, hmem, -⟩ := h
  rw [Bpc.allStopped_iff] at hstopped
  refine List.eq_nil_iff_forall_not_mem.2 fun i hi => ?_
  have hqueued := (hmem i (hlt i hi)).1 hi
  rcases hstopped i (hlt i hi) with hs | hs <;> simp [hs] at hqueued

/-- With every bay stopped no bay timer runs. -/
theorem Bpc.Sound.timer_eq_none (h : b.Sound budget) (hstopped : b.allStopped = true) {i : Nat} (hi : i < 4) :
    (b.bay i).timer = none := by
  obtain ⟨-, hparts⟩ := (Bay.sound_iff _).1 (h.1 i hi)
  rcases (Bpc.allStopped_iff b).1 hstopped i hi with hs | hs <;> simp only [hs] at hparts <;> exact hparts.2.1

end

/-- With nothing queued an examination changes no bay. -/
theorem Bpc.examine_bays_of_nil (cfg : Settings) {b : Bpc} (h : b.queue = []) : (b.examine cfg).bays = b.bays := by
  rw [Bpc.examine, h]
  rfl

theorem Bpc.allStopped_of_bays {b b' : Bpc} (hbays : b'.bays = b.bays) (h : b.allStopped = true) : b'.allStopped = true := by
  rw [Bpc.allStopped, hbays]
  exact h

theorem Bpc.allStopped_setBay {b : Bpc} (h : b.allStopped = true) (i : Nat) {x : Bay}
    (hx : x.state = .off ∨ x.state = .empty) : (b.setBay i x).allStopped = true := by
  rw [Bpc.allStopped_iff] at h ⊢
  intro j hj
  by_cases hi : i < 4
  · rw [b.bay_setBay x hi]
    split
    · exact hx
    · exact h j hj
  · rw [Bpc.setBay, put_outside _ _ _ (not_lt.1 hi)]
    exact h j hj

theorem Bpc.allStopped_second {b : Bpc} (h : b.allStopped = true) (sense : Vector Bool 4) :
    (b.second sense).allStopped = true := by
  rw [Bpc.allStopped_iff] at h ⊢
  intro j hj
  rw [b.bay_second sense hj]
  exact h j hj

theorem Bpc.allStopped_lose {budget : Nat} {b : Bpc} (hsound : b.Sound budget) (h : b.allStopped = true) (cfg : Settings)
    (i : Nat) : (b.lose cfg i).allStopped = true := by
  refine Bpc.allStopped_of_bays (Bpc.examine_bays_of_nil cfg ?_) (Bpc.allStopped_setBay h i (.inr rfl))
  change b.queue.filter _ = []
  rw [hsound.queue_eq_nil h, List.filter_nil]

/-- A timer that has run out says that its bay has not stopped. -/
theorem State.not_allStopped_of_timer (h : s.BaysOk) {i : Nat} (hi : i < 4) {k : BayTimer}
    (hout : s.bayTimerOut i k = true) : s.bpc.allStopped ≠ true := by
  intro hstopped
  have hnone := Bpc.Sound.timer_eq_none ((s.baysOk_iff).1 h) hstopped hi
  simp [State.timer_of_bayTimerOut hout] at hnone

/-! ### The bays' own events -/

theorem standbyOk_completeStandby (h : s.StandbyOk) : (completeStandby s).StandbyOk := by
  unfold completeStandby
  split
  next hready =>
    simp only [State.standbyReady, Bool.and_eq_true, decide_eq_true_eq] at hready
    obtain ⟨⟨hentry, -⟩, hstopped⟩ := hready
    have hs := h.sessionless (.inl hentry)
    refine ⟨by simpa using h.tidy, fun _ => ?_, fun _ => ⟨?_, rfl⟩⟩
    · simpa only [State.Sessionless, State.stream, State.plan, State.bay, enterStandby_frame] using hs
    · exact Bpc.allStopped_of_bays (by simp) hstopped
  · exact h

theorem standbyOk_examineQueue (hbays : s.BaysOk) (h : s.StandbyOk) : (examineQueue s).StandbyOk :=
  standbyOk_of_bays h rfl rfl rfl rfl (fun _ _ hm => by rw [← hm]; exact Bpc.manual_examine _ _ _) fun hstopped =>
    Bpc.allStopped_of_bays (Bpc.examine_bays_of_nil _ (Bpc.Sound.queue_eq_nil ((s.baysOk_iff).1 hbays) hstopped)) hstopped

theorem standbyOk_replaceSettings (hbays : s.BaysOk) (h : s.StandbyOk) (x : Settings) : (replaceSettings x s).StandbyOk := by
  simp only [replaceSettings]
  split
  · exact standbyOk_of_bays h rfl rfl rfl rfl (fun _ _ hm => by rw [← hm]; exact Bpc.manual_examine _ _ _) fun hstopped =>
      Bpc.allStopped_of_bays (Bpc.examine_bays_of_nil _ (Bpc.Sound.queue_eq_nil ((s.baysOk_iff).1 hbays) hstopped)) hstopped
  · exact standbyOk_of_eq h rfl rfl rfl rfl id

/-- The controller of a bay whose timer has run out moves on, with no manual hold placed. -/
theorem standbyOk_of_timer (hbays : s.BaysOk) (h : s.StandbyOk) {i : Nat} (hi : i < 4) {k : BayTimer}
    (hout : s.bayTimerOut i k = true) (b : Bpc) (hmanual : ∀ j, (b.bay j).manual = (s.bpc.bay j).manual) :
    State.StandbyOk { s with bpc := b } :=
  standbyOk_of_bays h rfl rfl rfl rfl (fun _ _ hm => by rw [← hm]; exact hmanual _) fun hstopped =>
    absurd hstopped (State.not_allStopped_of_timer hbays hi hout)

/-- The report of a READY bay moves no plan where none is open. -/
theorem standbyOk_reportBayReady (h : s.StandbyOk) (i : Nat) : (reportBayReady i s).StandbyOk := by
  have htidy := plansTidy_reportBayReady h.tidy i
  refine ⟨htidy, fun hrest => ?_, fun hpow => ?_⟩
  · obtain ⟨hs, hp, hm⟩ := h.sessionless (by simpa [State.Resting] using hrest)
    refine ⟨by simpa [State.stream] using hs, fun p hlt => ?_, by simpa [State.bay] using hm⟩
    simp only [reportBayReady]
    split
    · have hfree := h.tidy p hlt (hp p hlt)
      simp only [State.plan, slot, latch, Vector.getElem?_map]
      simp only [slot] at hfree
      rw [Vector.getElem?_eq_getElem hlt] at hfree ⊢
      simp only [Option.getD_some] at hfree
      simp [hfree, Plan.free]
    · exact hp p hlt
  · obtain ⟨hstop, hdown⟩ := h.stopped (by simpa using hpow)
    exact ⟨by simpa using hstop, by simpa using hdown⟩

end Sys2Proof.Machine
end

section
/-!
PROOFS. Every step keeps the bays sound and standby free of sessions (O57): the events of bays and power, then the changes of
every command (chapters 9 and 10).
-/

namespace Sys2Proof.Machine

variable {s u : State}

/-! ### Expiries and presence -/

theorem standbyOk_spinUpDone (hbays : s.BaysOk) (h : s.StandbyOk) {i : Nat} (hi : i < 4)
    (hout : s.bayTimerOut i .spinUp = true) : (spinUpDone i s).StandbyOk := by
  have hdone := standbyOk_of_timer hbays h hi hout _ (Bpc.manual_finishSpinUp s.slc.settings i s.bpc)
  have hlatched : (latch .bayChanged { s with bpc := s.bpc.finishSpinUp s.slc.settings i }).StandbyOk :=
    standbyOk_of_eq hdone rfl rfl rfl rfl id
  have hsound : (reportBayReady i (latch .bayChanged { s with bpc := s.bpc.finishSpinUp s.slc.settings i })).BaysOk := by
    rw [State.baysOk_iff] at hbays ⊢
    simpa using hbays.finishSpinUp hi (State.timer_of_bayTimerOut hout)
  exact standbyOk_examineQueue hsound (standbyOk_reportBayReady hlatched i)

theorem standbyOk_idleDone (hbays : s.BaysOk) (h : s.StandbyOk) {i : Nat} (hi : i < 4)
    (hout : s.bayTimerOut i .idle = true) : (idleDone i s).StandbyOk :=
  standbyOk_of_timer hbays h hi hout _ (Bpc.manual_setBay s.bpc i ((s.bpc.bay i).startSpinDown s.slc.settings) rfl)

theorem standbyOk_spinDownDone (hbays : s.BaysOk) (h : s.StandbyOk) {i : Nat} (hi : i < 4)
    (hout : s.bayTimerOut i .spinDown = true) : (spinDownDone i s).StandbyOk := by
  unfold spinDownDone bayReport
  exact standbyOk_completeStandby
    (standbyOk_of_timer hbays h hi hout _ (Bpc.manual_finishSpinDown s.slc.settings i s.bpc))

/-- A loss of presence halts no stream where none is open. -/
theorem reportLossToStreams_of_closed (bay : Nat) (h : ∀ i < 8, (s.stream i).state = .closed) :
    reportLossToStreams bay s = s := by
  have hall (i : Nat) : (s.stream i).state = .closed := by
    by_cases hi : i < 8
    · exact h i hi
    · rw [State.stream, slot_outside _ _ _ (not_lt.1 hi)]
      rfl
  unfold reportLossToStreams
  refine foldl_keeps (fun t : State => t = s) _ _ s rfl fun t i ht => ?_
  subst ht
  simp [streamBayLost, hall]

/-- A loss of presence reaches no plan where none is open. -/
theorem standbyOk_reportBayLost (h : s.StandbyOk) (i : Nat) : (reportBayLost i s).StandbyOk := by
  refine ⟨plansTidy_reportBayLost h.tidy i, fun hrest => ?_, fun hpow => ?_⟩
  · obtain ⟨hs, hp, hm⟩ := h.sessionless (by simpa [State.Resting] using hrest)
    refine ⟨hs, fun p hlt => ?_, hm⟩
    have hfree := hp p hlt
    simp only [State.plan, slot] at hfree
    rw [Vector.getElem?_eq_getElem hlt, Option.getD_some] at hfree
    simp [reportBayLost, State.plan, slot, hlt, hfree]
  · exact h.stopped hpow

theorem standbyOk_bayLoss (hbays : s.BaysOk) (h : s.StandbyOk) {i : Nat} : (bayLoss i s).StandbyOk := by
  simp only [bayLoss, bayReport]
  refine standbyOk_completeStandby (standbyOk_reportBayLost ?_ i)
  have hlost : (latch .bayChanged { s with bpc := s.bpc.lose s.slc.settings i }).StandbyOk :=
    standbyOk_of_bays h rfl rfl rfl rfl (fun _ _ hm => Bpc.manual_lose _ _ _ hm) fun hstopped =>
      Bpc.allStopped_lose ((s.baysOk_iff).1 hbays) hstopped _ _
  generalize latch .bayChanged { s with bpc := s.bpc.lose s.slc.settings i } = t at hlost
  by_cases hrest : t.Resting
  · rw [reportLossToStreams_of_closed i (hlost.sessionless hrest).1]
    exact hlost
  · exact standbyOk_of_awake (by simpa using hlost.tidy) (by simpa [State.Resting] using hrest)

theorem standbyOk_bayArrival (h : s.StandbyOk) (i : Nat) : (bayArrival i s).StandbyOk := by
  unfold bayArrival bayReport
  refine standbyOk_completeStandby (standbyOk_of_bays h rfl rfl rfl rfl (fun j hj hm => ?_) fun hstopped => ?_)
  · change (((s.bpc.setBay i (Bay.atReset true)).bay j)).manual = false
    by_cases hi : i < 4
    · rw [s.bpc.bay_setBay _ hi]
      split
      · rfl
      · exact hm
    · rw [Bpc.setBay, put_outside _ _ _ (not_lt.1 hi)]
      exact hm
  · exact Bpc.allStopped_setBay hstopped i (.inl rfl)

/-! ### Power -/

theorem standbyOk_startWake (h : s.StandbyOk) (cause : WakeCause) (b : Bool) : (startWake cause b s).StandbyOk :=
  standbyOk_of_awake h.tidy (by simp [State.Resting, startWake])

theorem standbyOk_abandonStandby (h : s.StandbyOk) (why : StandbyFailure) : (abandonStandby why s).StandbyOk :=
  standbyOk_of_awake (by simpa using h.tidy) (by simp [State.Resting])

theorem standbyOk_dueRise (h : s.StandbyOk) (c : Nat) : (dueRise c s).StandbyOk := by
  unfold dueRise
  split
  · exact standbyOk_startWake h _ _
  · exact standbyOk_abandonStandby h _
  · exact h

theorem standbyOk_frameHeldReport (h : s.StandbyOk) (c : Nat) : (frameHeldReport c s).StandbyOk := by
  unfold frameHeldReport
  split
  · exact standbyOk_startWake h _ _
  · exact standbyOk_abandonStandby h _
  · exact h

theorem standbyOk_evaluateDue (h : s.StandbyOk) (cs : List Nat) : (evaluateDue cs s).StandbyOk :=
  evaluateDue_keeps cs h (fun _ => standbyOk_of_eq h rfl rfl rfl rfl id) fun c due => by
    refine standbyOk_dueRise ?_ c
    exact standbyOk_of_eq h rfl rfl rfl rfl id

/-- An accepted standby entry finds no session (R170). -/
theorem standbyOk_acceptStandby (h : s.StandbyOk) (hs : s.Sessionless) : (acceptStandby s).StandbyOk := by
  refine ⟨h.tidy, fun _ => ⟨hs.1, hs.2.1, fun i hi => ?_⟩, fun hpow => by simp [acceptStandby, enterWatch] at hpow⟩
  refine (congrArg Bay.manual (s.bpc.bay_map _ hi)).trans ?_
  split
  · exact hs.2.2 i hi
  · exact hs.2.2 i hi

/-- What checks 4 to 6 of R170 say when they pass. -/
theorem State.sessionless_of_entryChecks (h : firstFail (entryChecks s) = none) : s.Sessionless := by
  simp only [entryChecks, firstFail_none, List.forall_mem_cons, decide_eq_false_iff_not] at h
  obtain ⟨-, hstreams, hplans, hmanual, -⟩ := h
  simp only [State.streamCount, Nat.not_lt, Nat.le_zero, List.length_eq_zero_iff, List.filter_eq_nil_iff] at hstreams
  simp only [State.planCount, Nat.not_lt, Nat.le_zero, List.length_eq_zero_iff, List.filter_eq_nil_iff] at hplans
  refine ⟨fun i hi => ?_, fun p hp => ?_, fun i hi => ?_⟩
  · simpa [State.stream, slot, hi] using hstreams s.streams[i] (by simp)
  · simpa [State.plan, slot, hp] using hplans s.rpb.plans[p] (by simp)
  · simp only [List.any_eq_false] at hmanual
    simpa [State.bay, slot, hi] using hmanual s.bpc.bays[i] (by simp)

/-- A link reset reaches the part only while the link is up, so not in STANDBY, and ends a standby entry. -/
theorem standbyOk_linkReset (h : s.StandbyOk) (cause : StartCause) (hlink : s.slc.link ≠ .down) :
    (linkReset cause s).StandbyOk := by
  refine standbyOk_of_awake (plansTidy_linkReset h.tidy cause) ?_
  have hnot : s.bxp.power ≠ .standby := fun hpow => hlink (h.stopped hpow).2
  rw [State.Resting, linkReset_power]
  split
  · simp
  · simp_all

/-- The plan that a request names is open. -/
theorem plan_open_of_freePlanCheck {r : Request} (h : (freePlanCheck s r).1 = false) :
    (s.plan r.auxLow).state ≠ .free := by
  simpa [freePlanCheck] using h

end Sys2Proof.Machine
end

section
/-!
PROOFS. Every command keeps standby free of sessions, and O57 (chapters 9 and 10).
-/

namespace Sys2Proof.Machine

variable {s u : State}

/-! ### Checks that pass -/

theorem firstFail_append_eq_none (cs ds : List (Bool × Status)) :
    firstFail (cs ++ ds) = none ↔ firstFail cs = none ∧ firstFail ds = none := by
  rw [firstFail_append, Option.or_eq_none_iff]

theorem firstFail_cons_eq_none (b : Bool) (st : Status) (cs : List (Bool × Status)) :
    firstFail ((b, st) :: cs) = none ↔ b = false ∧ firstFail cs = none := by
  simp [firstFail_none]

/-! ### The line in STANDBY -/

/-- A DOWN link receives no header. -/
theorem headerArrives_of_down (header : HeaderArrival) (underHold : Bool) (h : s.slc.link = .down) :
    headerArrives header underHold s = s := by
  simp [headerArrives, Slc.carries, h]

/-- A DOWN link sends nothing. -/
theorem transmit_of_down (h : s.slc.link = .down) : transmit s = s := by
  simp [transmit, h]

/-- Training begins only where the host has power, so not in STANDBY. -/
theorem standbyOk_beginTraining (h : s.StandbyOk) : (beginTraining s).StandbyOk := by
  unfold beginTraining
  split
  next hc => exact standbyOk_of_not_standby h (fun hpow => by simp [Bxp.hostPowered, hpow] at hc) rfl rfl rfl rfl
  · exact h

theorem standbyOk_completeTraining (h : s.StandbyOk) : (completeTraining s).StandbyOk := by
  unfold completeTraining
  split
  next htraining =>
    have hnot : s.bxp.power ≠ .standby := fun hpow => by simp [(h.stopped hpow).2] at htraining
    have hactive : (enterActive true { s with slc.acked := false }).StandbyOk :=
      standbyOk_of_not_standby h hnot rfl rfl rfl rfl
    unfold wakeComplete
    split
    · exact standbyOk_of_awake (by simpa using h.tidy) (by simp [State.Resting])
    · exact hactive
  · exact h

theorem standbyOk_ackSignal (h : s.StandbyOk) : (ackSignal s).StandbyOk := by
  unfold ackSignal
  split
  next hc =>
    have hnot : s.bxp.power ≠ .standby := fun hpow => by simp [Slc.carries, (h.stopped hpow).2] at hc
    unfold sleepAckReport
    split
    · exact standbyOk_completeStandby (standbyOk_of_not_standby h hnot rfl rfl rfl rfl)
    · exact standbyOk_of_not_standby h hnot rfl rfl rfl rfl
  · exact h

/-- Where the link carries packets it is not DOWN. -/
theorem Slc.link_ne_down_of_carries {slc : Slc} (h : slc.carries = true) : slc.link ≠ .down := by
  intro hdown
  simp [Slc.carries, hdown] at h

theorem standbyOk_loseTraining (h : s.StandbyOk) : (loseTraining s).StandbyOk := by
  unfold loseTraining
  split
  next hc => exact standbyOk_linkReset h _ (Slc.link_ne_down_of_carries hc)
  · exact h

theorem standbyOk_resetSignal (h : s.StandbyOk) : (resetSignal s).StandbyOk := by
  unfold resetSignal
  split
  next hc =>
    refine standbyOk_linkReset h _ ?_
    rcases hc with htraining | hc
    · simp [htraining]
    · exact Slc.link_ne_down_of_carries hc
  · exact h

/-! ### Time, requests and images -/

theorem standbyOk_secondPasses (h : s.StandbyOk) (sense : Vector Bool 4) : (secondPasses sense s).StandbyOk := by
  simp only [secondPasses]
  refine standbyOk_evaluateDue ?_ _
  refine standbyOk_of_bays h (by simp) (by simp) (by simp) (by simp) (fun i hi hm => ?_) fun hstopped => ?_
  · refine (congrArg Bay.manual (Bpc.bay_second sense _ hi)).trans ?_
    simpa [Bay.second] using hm
  · simpa using Bpc.allStopped_second hstopped sense

theorem standbyOk_setClock (h : s.StandbyOk) (t : Nat) : (setClock t s).StandbyOk := by
  unfold setClock
  refine standbyOk_evaluateDue ?_ _
  exact standbyOk_of_eq h (by simp) (by simp) (by simp) (by simp) (by simp)

theorem standbyOk_writeSchedule (h : s.StandbyOk) (c : Nat) (sch : Option Schedule) : (writeSchedule c sch s).StandbyOk := by
  unfold writeSchedule
  refine standbyOk_evaluateDue ?_ _
  exact standbyOk_of_eq h rfl rfl rfl rfl id

theorem standbyOk_closeSnapshot (h : s.StandbyOk) (n : Nat) : (closeSnapshot n s).StandbyOk := by
  simp only [closeSnapshot, advanceSchedule]
  split
  · refine standbyOk_evaluateDue ?_ _
    exact standbyOk_of_eq h rfl rfl rfl rfl id
  · exact standbyOk_of_eq h rfl rfl rfl rfl id

theorem standbyOk_finishImport (h : s.StandbyOk) : (finishImport s).StandbyOk := by
  simp only [finishImport]
  refine standbyOk_evaluateDue ?_ _
  exact standbyOk_of_eq h (by simp) (by simp) (by simp) (by simp) (by simp)

theorem standbyOk_putEntries (hbays : s.BaysOk) (h : s.StandbyOk) (es : List (List Byte)) (sts : List Status) :
    (putEntries es sts s).2.StandbyOk := by
  refine (putEntries_keeps (P := fun v => v.BaysOk ∧ v.StandbyOk) (fun e v v' want head hv hr => ?_) (fun v hv => ?_) es sts
    ⟨hbays, h⟩).2
  · obtain ⟨hb, hs⟩ := hv
    obtain ⟨-, -, -, -, -, hlink, -, -, -, -, -, -, -, -, -, -, -, -, hstreams, -, -, -, -, -, hrpb, hbxp, -⟩ :=
      applyRecord_frame e v v' want head hr
    obtain rfl | ⟨hbpc, hsettings⟩ := applyRecord_bays hr
    · exact ⟨baysOk_of_eq (baysOk_replaceSettings hb _) rfl rfl,
        standbyOk_of_eq (standbyOk_replaceSettings hb hs _) rfl rfl rfl rfl id⟩
    · exact ⟨baysOk_of_eq hb hbpc hsettings,
        standbyOk_of_eq hs (congrArg Rpb.plans hrpb) hstreams (congrArg Bpc.bays hbpc) (congrArg Bxp.power hbxp)
          fun hdown => hlink.trans hdown⟩
  · exact ⟨baysOk_of_eq hv.1 rfl rfl, standbyOk_of_eq hv.2 rfl rfl rfl rfl id⟩

theorem standbyOk_watchFrame (h : s.StandbyOk) (frame : List Byte) : (watchFrame frame s).StandbyOk := by
  unfold watchFrame watchClients
  split
  · exact standbyOk_of_eq h (by simp) (by simp) (by simp) (by simp) (by simp)
  · split
    · split
      · refine standbyOk_frameHeldReport ?_ _
        exact standbyOk_of_eq h rfl rfl rfl rfl id
      · exact h
    · exact h

theorem standbyOk_pressButton (h : s.StandbyOk) : (pressButton s).StandbyOk := by
  unfold pressButton
  split
  · exact standbyOk_of_eq h rfl rfl rfl rfl id
  · refine standbyOk_abandonStandby ?_ _
    exact standbyOk_of_eq h rfl rfl rfl rfl id
  · exact standbyOk_startWake h _ _
  · exact standbyOk_of_eq h rfl rfl rfl rfl id
  · exact standbyOk_startWake h _ _

theorem standbyOk_scanStep (h : s.StandbyOk) (p : Nat) : (scanStep p s).StandbyOk := by
  by_cases hopen : (s.plan p).state = .free
  · have hfree : s.plan p = Plan.free := by
      by_cases hp : p < 16
      · exact h.tidy p hp hopen
      · exact slot_outside _ _ _ (not_lt.1 hp)
    have hstep : scanStep p s = s := by simp [scanStep, hfree, Plan.free]
    rwa [hstep]
  · exact standbyOk_of_session h (State.session_of_plan hopen) (openPlan_scanStep ⟨h.tidy, hopen⟩).1 (by simp)

/-- A release of a manual hold that stands changes nothing where no session stands, and is a session's end where one does. -/
theorem standbyOk_bayRelease (h : s.StandbyOk) (i : Nat) : (releaseBay .manual i s).StandbyOk := by
  cases hm : (s.bpc.bay i).manual with
  | false =>
    have hnone : releaseBay .manual i s = s := by simp [releaseBay, Bpc.release, Bay.count, hm]
    rwa [hnone]
  | true =>
    refine standbyOk_of_session h (fun hs => ?_) h.tidy rfl
    have hfree := hs.2.2 i (Bpc.lt_of_manual hm)
    simp [State.bay] at hfree
    simp [hm] at hfree

/-! ### Every command -/

/-- A stream that is FINISHING is a session. -/
theorem Stream.ne_closed_of_finished {x : Stream} (h : x.finished = true) : x.state ≠ .closed := by
  intro hclosed
  simp [Stream.finished, hclosed] at h

/-- Every change of a command keeps standby free of sessions. -/
theorem Change.standbyOk {c : Instr} (hchange : Change c s u) (hbays : s.BaysOk) (h : s.StandbyOk) : u.StandbyOk := by
  cases hchange with
  | headerReceived header underHold =>
    exact standbyOk_of_eq h (by simp) (by simp) (by simp) (by simp) fun hdown => by
      rwa [headerArrives_of_down header underHold hdown]
  | transmitPacket =>
    exact standbyOk_of_eq h (by simp) (by simp) (by simp) (by simp) fun hdown => by rwa [transmit_of_down hdown]
  | trainingStart => exact standbyOk_beginTraining h
  | trainingComplete => exact standbyOk_completeTraining h
  | trainingLost => exact standbyOk_loseTraining h
  | hostIdle =>
    exact standbyOk_of_eq h (by simp) (by simp) (by simp) (by simp) fun hdown => by simp [idleSignal, hdown]
  | hostWake =>
    exact standbyOk_of_eq h (by simp) (by simp) (by simp) (by simp) fun hdown => by simp [wakeSignal, hdown]
  | sleepAck => exact standbyOk_ackSignal h
  | hostReset => exact standbyOk_resetSignal h
  | settingsWrite x => exact standbyOk_replaceSettings hbays h x
  | secondEvent sense => exact standbyOk_secondPasses h sense
  | clockSet r => exact standbyOk_setClock h _
  | scheduleSet n sch => exact standbyOk_writeSchedule h n sch
  | collectionClose n => exact standbyOk_closeSnapshot h n
  | streamOpen r _ hpass =>
    simp [streamOpenChecks, streamOpenConditions, firstFail_append_eq_none, firstFail_cons_eq_none] at hpass
    refine standbyOk_of_awake (by simpa using h.tidy) ?_
    grind [State.Resting, openStream_frame]
  | streamData r _ hpass =>
    simp [streamDataChecks, firstFail_append_eq_none, firstFail_cons_eq_none] at hpass
    refine standbyOk_of_session h (State.session_of_stream (i := r.auxLow) (by omega) ?_) (by simpa using h.tidy) (by simp)
    grind
  | streamCommit r _ hpass =>
    simp [streamNumberChecks, closedCheck, firstFail_append_eq_none, firstFail_cons_eq_none] at hpass
    exact standbyOk_of_session h (State.session_of_stream (i := r.auxNat) (by omega) (by simp_all)) (by simpa using h.tidy)
      (by simp)
  | streamFinish r _ hpass =>
    simp [streamFinishChecks, streamNumberChecks, firstFail_append_eq_none, firstFail_cons_eq_none] at hpass
    refine standbyOk_of_session h (State.session_of_stream (i := r.auxNat) (by omega) ?_) (by simpa using h.tidy) (by simp)
    grind
  | streamCompletion stream =>
    unfold completeIfFinished
    split
    next hfinished =>
      exact standbyOk_of_session h
        (State.session_of_stream stream.isLt (Stream.ne_closed_of_finished hfinished)) (by simpa using h.tidy) (by simp)
    · exact h
  | streamAbort r _ hpass =>
    simp [streamNumberChecks, closedCheck, firstFail_append_eq_none, firstFail_cons_eq_none] at hpass
    refine standbyOk_of_session h (State.session_of_stream (i := r.auxNat) (by omega) ?_) (by simpa using h.tidy) (by simp)
    grind
  | planOpen r _ hpass =>
    simp [planOpenChecks, firstFail_append_eq_none, firstFail_cons_eq_none] at hpass
    have hp : s.freePlan.getD 0 < 16 := by
      cases hfree : s.freePlan with
      | none => decide
      | some p => simpa using List.mem_range.1 (List.mem_of_find?_eq_some hfree)
    refine standbyOk_of_awake (plansTidy_openPlan h.tidy hp _) ?_
    grind [State.Resting, openPlan_frame]
  | scanStep plan => exact standbyOk_scanStep h _
  | planFetch r _ hpass =>
    simp [planFetchChecks, freePlanCheck, firstFail_append_eq_none, firstFail_cons_eq_none] at hpass
    have hopen : (s.plan r.auxLow).state ≠ .free := by grind
    exact standbyOk_of_session h (State.session_of_plan hopen) (openPlan_fetchRefs ⟨h.tidy, hopen⟩ _ _ _).1 (by simp)
  | planCheckSet r _ hpass c =>
    simp [planCheckChecks, freePlanCheck, firstFail_append_eq_none, firstFail_cons_eq_none] at hpass
    have hopen : (s.plan r.auxLow).state ≠ .free := by grind
    exact standbyOk_of_session h (State.session_of_plan hopen)
      (openPlan_setPlan (x := { s.plan r.auxLow with check := c }) ⟨h.tidy, hopen⟩ hopen).1 rfl
  | planCheckDone r _ hpass ref c same =>
    simp [planCheckChecks, freePlanCheck, firstFail_append_eq_none, firstFail_cons_eq_none] at hpass
    have hopen : (s.plan r.auxLow).state ≠ .free := by grind
    have hset := openPlan_setPlan (x := { s.plan r.auxLow with check := none }) ⟨h.tidy, hopen⟩ hopen
    exact standbyOk_of_session h (State.session_of_plan hopen) (by simpa [setCheck, State.setPlan] using hset.1)
      (by simp [setCheck])
  | planDone r _ hpass =>
    simp [freePlanCheck, firstFail_append_eq_none, firstFail_cons_eq_none] at hpass
    have hopen : (s.plan r.auxLow).state ≠ .free := by grind
    exact standbyOk_of_session h (State.session_of_plan hopen) (plansTidy_closePlan h.tidy _) (by simp)
  | bayHold i _ hi hpower hempty => exact standbyOk_of_awake h.tidy (by simp [State.Resting, holdBay, hpower])
  | bayRelease i => exact standbyOk_bayRelease h i
  | spinUpStart => exact standbyOk_examineQueue hbays h
  | spinUpExpiry bay _ hout => exact standbyOk_spinUpDone hbays h bay.isLt hout
  | idleTimerExpiry bay _ hout => exact standbyOk_idleDone hbays h bay.isLt hout
  | spinDownExpiry bay _ hout => exact standbyOk_spinDownDone hbays h bay.isLt hout
  | presenceLoss bay => exact standbyOk_bayLoss hbays h
  | presenceArrival bay => exact standbyOk_bayArrival h _
  | standbyEnter r _ hpass =>
    simp only [standbyEnterChecks, firstFail_append_eq_none] at hpass
    exact standbyOk_acceptStandby h (State.sessionless_of_entryChecks hpass.2)
  | returnPrior r _ hpass =>
    simp only [returnPriorChecks, firstFail_append_eq_none] at hpass
    exact standbyOk_acceptStandby (standbyOk_of_eq h rfl rfl rfl rfl id) (State.sessionless_of_entryChecks hpass.2)
  | standbyEntryComplete => exact standbyOk_completeStandby h
  | handshakeTimerExpiry => exact standbyOk_abandonStandby h _
  | wakeTimerExpiry _ hpower =>
    simp only [wakeFails]
    split
    · exact standbyOk_of_awake h.tidy (by simp [State.Resting, linkDown, hpower])
    · exact standbyOk_of_awake h.tidy (by simp [State.Resting, linkDown])
  | buttonPress => exact standbyOk_pressButton h
  | frameReceived frame good =>
    unfold frameTaken
    split
    · exact standbyOk_of_eq h (by simp) (by simp) (by simp) (by simp) (by simp)
    · exact standbyOk_watchFrame h _
  | memberAdd n es =>
    exact memberEntries_keeps State.StandbyOk _ es [] s h fun m v hv =>
      standbyOk_of_eq hv (by simp) (by simp) (by simp) (by simp) (by simp)
  | memberRemove n es =>
    exact memberEntries_keeps State.StandbyOk _ es [] s h fun m v hv =>
      standbyOk_of_eq hv (by simp) (by simp) (by simp) (by simp) (by simp)
  | imagePut es whole =>
    exact standbyOk_of_eq (standbyOk_putEntries hbays h es []) (by simp) (by simp) (by simp) (by simp) (by simp)
  | imageEndLoaded => exact standbyOk_finishImport h
  | _ => exact standbyOk_of_eq h (by simp) (by simp) (by simp) (by simp) (by simp)

end Sys2Proof.Machine
end

section
/-!
PROOFS. What a step keeps: the front command, power-on reset and the changes of the other commands; the reset values (R167),
and the bays and standby (O57).
-/

namespace Sys2Proof.Machine

variable {s t u : State}

/-! ### The reset values -/

/-- The bays at reset follow the sense lines (R155). -/
@[simp] theorem bay_powerOn (sense : Vector Bool 4) {i : Nat} (hi : i < 4) :
    (State.powerOn sense).bpc.bay i = Bay.atReset (slot false sense i) := by
  simp [State.powerOn, Bpc.bay, slot, hi]

/-- Settles O4: the values are those of `State.powerOn`, entry by entry of the vectors. -/
theorem powerOnResetLeavesTheResetValues : Obligations.PowerOnResetLeavesTheResetValues := by
  intro sense s
  refine ⟨_, rfl, ?_⟩
  have hbay (i : Nat) (hi : i < 4) : (State.bay { State.powerOn sense with pending := s.pending, free := s.free } i)
      = Bay.atReset (slot false sense i) := bay_powerOn sense hi
  refine ⟨rfl, rfl, rfl, rfl, rfl, rfl, rfl, rfl, rfl, rfl, rfl, rfl, rfl, rfl, rfl, rfl, rfl, rfl, ?_, ?_, rfl, rfl, rfl,
    rfl, rfl, rfl, ?_, rfl, ?_, rfl, rfl, rfl, rfl, rfl, rfl, rfl, rfl, rfl, rfl, rfl, rfl, rfl, rfl, rfl, ?_, rfl, rfl, rfl,
    rfl⟩
  · intro c hc
    simp [State.client, State.powerOn, slot, hc]
  · intro i hi
    simp [State.stream, State.powerOn, slot, hi]
  · intro p hp
    simp [State.plan, State.powerOn, slot, hp]
  · intro i hi
    rw [hbay i hi]
    cases slot false sense i <;> exact ⟨rfl, rfl, rfl, rfl⟩
  · intro k hk
    simp [State.template, State.powerOn, slot, hk]

/-- At reset no bay draws power. -/
theorem totalDraw_powerOn (sense : Vector Bool 4) : (State.powerOn sense).bpc.totalDraw = 0 := by
  have hdraw (b : Bool) : (Bay.atReset b).state.draw = 0 := by cases b <;> rfl
  simp [Bpc.totalDraw_eq, hdraw]

theorem baysOk_powerOn (sense : Vector Bool 4) : (State.powerOn sense).BaysOk := by
  refine ⟨fun i hi => ?_, List.nodup_nil, by simp [State.powerOn], fun i hi => ?_, ?_⟩
  · rw [bay_powerOn sense hi]
    cases slot false sense i <;> decide
  · rw [bay_powerOn sense hi]
    cases slot false sense i <;> simp [State.powerOn, Bay.atReset]
  · simp [totalDraw_powerOn]

theorem plansTidy_powerOn (sense : Vector Bool 4) : PlansTidy (State.powerOn sense).rpb.plans := by
  intro p hp _
  simp [State.powerOn, slot, hp]

theorem standbyOk_powerOn (sense : Vector Bool 4) : (State.powerOn sense).StandbyOk :=
  standbyOk_of_awake (plansTidy_powerOn sense) (by simp [State.Resting, State.powerOn])

/-! ### A step -/

/-- Settles O1. -/
theorem stepTakesTheFrontCommand : Obligations.StepTakesTheFrontCommand :=
  ⟨fun s c rest h => by rw [step, h], fun s h => by rw [step, h]⟩

/-- What reset has, and every change, every answer and the end of a step keep, a step keeps. -/
theorem step_keeps {P : State → Prop} (h : step s = .next t) (hs : P s) (hpending : ∀ v q, P v → P { v with pending := q })
    (hquiet : ∀ v, P v → P v.quiet) (hreset : ∀ sense q n, P { State.powerOn sense with pending := q, free := n })
    (hchange : ∀ c v u, Change c v u → P v → P u) (hanswer : ∀ r st rec n u, P u → P (answer r st rec (u.spend n)))
    (hsettle : ∀ v u, P u → P (settle v u)) : P t := by
  cases hq : s.pending with
  | nil =>
    rw [stepTakesTheFrontCommand.2 s hq] at h
    cases h
    exact hs
  | cons c rest =>
    rw [stepTakesTheFrontCommand.1 s c rest hq] at h
    by_cases hc : ∃ sense, c = .powerOnReset sense
    · obtain ⟨sense, rfl⟩ := hc
      cases h
      exact hreset _ _ _
    · exact exec_keeps h (not_exists.1 hc) (fun u hu => hchange _ _ u hu (hquiet _ (hpending s rest hs))) hanswer
        fun u hu => hsettle _ u hu

/-- Settles O57: power-on reset has sound bays and a sound standby, and every change of a command keeps both. -/
theorem stepKeepsBaysAndStandby : Obligations.StepKeepsBaysAndStandby := by
  intro s t h hbays hstandby
  have hkeeps : t.BaysOk ∧ t.StandbyOk :=
    step_keeps (P := fun v => v.BaysOk ∧ v.StandbyOk) h ⟨hbays, s.standbyOk_iff.2 hstandby⟩
      (fun v q hv => ⟨baysOk_of_eq hv.1 rfl rfl, standbyOk_of_eq hv.2 rfl rfl rfl rfl id⟩)
      (fun v hv => ⟨baysOk_of_eq hv.1 rfl rfl, standbyOk_of_eq hv.2 rfl rfl rfl rfl id⟩)
      (fun sense q n => ⟨baysOk_of_eq (baysOk_powerOn sense) rfl rfl,
        standbyOk_of_eq (standbyOk_powerOn sense) rfl rfl rfl rfl id⟩)
      (fun c v u hu hv => ⟨hu.baysOk hv.1, hu.standbyOk hv.1 hv.2⟩)
      (fun r st rec n u hu => ⟨baysOk_of_eq hu.1 (by simp) (by simp),
        standbyOk_of_eq hu.2 (by simp) (by simp) (by simp) (by simp) (by simp)⟩)
      (fun v u hu => ⟨baysOk_of_eq hu.1 (by simp) (by simp),
        standbyOk_of_eq hu.2 (by simp) (by simp) (by simp) (by simp) (by simp)⟩)
  exact ⟨hkeeps.1, t.standbyOk_iff.1 hkeeps.2⟩

end Sys2Proof.Machine
end

section
/-!
PROOFS. Every command answers a next state and leaves the queue of commands to the step (O2).
-/

namespace Sys2Proof.Machine

/-- Every command answers a next state: each is a change of the state, under the end of the step. -/
theorem exec_next (c : Instr) (s : State) : ∃ t, exec c s = .next t := by
  cases c <;> exact ⟨_, rfl⟩

/-- A command's change leaves the queue of commands. -/
theorem Change.pending_eq {c : Instr} {s u : State} (h : Change c s u) : u.pending = s.pending := by
  cases h with
  | memberAdd n es => exact memberEntries_keeps (·.pending = s.pending) _ es [] s rfl fun m v hv => by simpa using hv
  | memberRemove n es => exact memberEntries_keeps (·.pending = s.pending) _ es [] s rfl fun m v hv => by simpa using hv
  | _ => simp

/-- Settles O2: each command has a next state, and no change, no answer and no end of a step moves the queue. -/
theorem everyCommandCompletesAndKeepsTheQueue : Obligations.EveryCommandCompletesAndKeepsTheQueue := by
  intro c s
  obtain ⟨t, ht⟩ := exec_next c s
  refine ⟨t, ht, ?_⟩
  by_cases hc : ∃ sense, c = .powerOnReset sense
  · obtain ⟨sense, rfl⟩ := hc
    cases ht
    rfl
  · exact exec_keeps (P := (·.pending = s.pending)) ht (not_exists.1 hc) (fun u hu => hu.pending_eq)
      (fun r st rec n u hu => by simpa using hu) fun u hu => by simpa using hu

end Sys2Proof.Machine
end

section
/-!
PROOFS. A property of each client record that charges, refunds, creations and modifications keep, every operation on streams,
chunks and recipes keeps (R30 to R35, R70, R84, R85).
-/

namespace Sys2Proof.Machine

/-! ### The property -/

/-- `Q` is kept by a charge within the quota, by a refund, and by a CLIENT_SET. -/
structure Client.Kept (Q : Client → Prop) : Prop where
  charge (x : Client) (n : Nat) (hx : Q x) (hn : ∀ q, x.quota = some q → n ≤ q * Config.mib) : Q { x with charged := n }
  refund (x : Client) (n : Nat) (hx : Q x) : Q { x with charged := x.charged - n }
  modify (x : Client) (role : Role) (a l : List Byte) (q : Nat) (hx : Q x) : Q (x.modify role a l q)
  create (x : Client) (role : Role) (a l : List Byte) (q : Nat) : Q (x.create role a l q)

/-- Every client record has the property. -/
def AllClients (Q : Client → Prop) (v : Vector Client 16) : Prop := ∀ c < 16, Q (slot (Client.free 0) v c)

/-- One record is written. -/
theorem allClients_put {Q : Client → Prop} {v : Vector Client 16} (h : AllClients Q v) {c : Nat} {x : Client}
    (hx : c < 16 → Q x) : AllClients Q (put v c x) := by
  intro k hk
  by_cases hkc : k = c
  · subst hkc
    rw [slot_put_self _ _ _ _ hk]
    exact hx hk
  · rw [slot_put_other _ _ _ _ _ hkc]
    exact h k hk

theorem allClients_setClient {Q : Client → Prop} {s : State} (h : AllClients Q s.clients) {c : Nat} {x : Client}
    (hx : c < 16 → Q x) : AllClients Q (s.setClient c x).clients := allClients_put h hx

/-- Every record is changed. -/
theorem allClients_map {Q R : Client → Prop} {v : Vector Client 16} (h : AllClients Q v) (f : Client → Client)
    (hf : ∀ x, Q x → R (f x)) : AllClients R (v.map f) := by
  intro k hk
  have hmap : slot (Client.free 0) (v.map f) k = f (slot (Client.free 0) v k) := by simp [slot, hk]
  rw [hmap]
  exact hf _ (h k hk)

theorem clientReadRequest_clients (r : Request) (s : State) : (clientReadRequest r s).clients = s.clients := by
  unfold clientReadRequest guarded
  split <;> simp

section
variable {Q : Client → Prop} (hQ : Client.Kept Q) {s u : State}
include hQ

/-! ### Charges and refunds -/

theorem allClients_charge (h : AllClients Q s.clients) (c g n : Nat) : AllClients Q (charge c g n s).clients := by
  unfold charge
  split
  next hok =>
    refine allClients_put h fun hc => hQ.charge _ _ (h c hc) fun q hq => ?_
    simp only [State.chargeAnswer, hq] at hok
    split at hok
    · simp at hok
    · split at hok
      next hfits => exact hfits
      · simp at hok
  · exact h

theorem allClients_refund (h : AllClients Q s.clients) (c g n : Nat) : AllClients Q (refund c g n s).clients := by
  simp only [refund]
  split
  · exact allClients_put h fun hc => hQ.refund _ _ (h c hc)
  · exact h

theorem allClients_setClientRecord (h : AllClients Q s.clients) (c : Nat) (p : List Byte) :
    AllClients Q (setClientRecord c p s).clients := by
  simp only [setClientRecord, dropDueIf_frame]
  refine allClients_put h fun hc => ?_
  split
  · exact hQ.modify _ _ _ _ _ (h c hc)
  · exact hQ.create _ _ _ _ _

theorem allClients_clientSetRequest (h : AllClients Q s.clients) (r : Request) :
    AllClients Q (clientSetRequest r s).clients := by
  unfold clientSetRequest guarded
  split
  · simpa using h
  · simpa [clientSetTaken] using allClients_setClientRecord hQ h _ _

theorem allClients_takenBetween (h : AllClients Q s.clients) (n : Nat) : AllClients Q (takenBetween n s).clients := by
  induction n generalizing s with
  | zero => exact h
  | succ n ih =>
    unfold takenBetween
    split
    · split
      · refine ih ?_
        rwa [clientReadRequest_clients]
      · split
        · exact ih (allClients_clientSetRequest hQ h _)
        · exact h
    · exact h

/-- The single writes of records keep it: only charges, refunds and the requests taken between them reach a client. -/
theorem recordKept_allClients : RecordKept fun s => AllClients Q s.clients where
  streams _ _ h := h
  object _ _ _ h := h
  coll _ _ _ h := h
  pages _ _ h := h
  chunk _ _ _ h := h
  charge _ _ _ _ h := allClients_charge hQ h _ _ _
  refund _ _ _ _ h := allClients_refund hQ h _ _ _
  deferred _ _ _ h := by simpa using h
  release _ _ _ h := h
  walk _ _ _ h := h
  extent _ _ _ _ h := h
  check _ h := by simpa using h
  between s n h := allClients_takenBetween hQ (s := s.spend 1) h n
  plans _ _ h := h

theorem allClients_resetBlocks (h : AllClients Q s.clients) : AllClients Q (resetBlocks s).clients := by
  have haborted := (recordKept_allClients hQ).abortAllStreams h
  simpa only [resetBlocks, clearManualHolds_frame, closeAllPlans_frame] using haborted

end

end Sys2Proof.Machine
end

section
/-!
PROOFS. The network side: the mode follows the power state, held frames number as their status says and stand in watch mode
alone, the queues keep to their sizes, and without host power the link is DOWN (chapters 10 and 11): the predicate, and what
each operation keeps of it.
-/

namespace Sys2Proof.Machine

variable {s u : State}

/-! ### The predicate -/

/-- The frames held number as the hold's status says (R183). -/
def Client.HoldCounted (x : Client) : Prop := x.held.length = x.holdStatus.frames

/-- No frame is held. -/
def Client.HoldEmpty (x : Client) : Prop := x.holdStatus = .empty

/-- The network side, but for what the end of a step gives an IDLE link. -/
structure State.NetworkOk (s : State) : Prop where
  mode : s.nwu.mode = .pass ↔ s.bxp.power = .run
  watching : s.nwu.mode = .watch → s.nwu.receive = []
  counted : AllClients Client.HoldCounted s.clients
  passing : s.nwu.mode = .pass → AllClients Client.HoldEmpty s.clients
  receive : s.nwu.receive.length ≤ Config.receiveMax
  transmit : s.nwu.transmit.length ≤ Config.transmitMax
  wire : s.nwu.onWire.isSome = true → s.nwu.transmit ≠ []
  unpowered : s.bxp.hostPowered = false → s.slc.link = .down

theorem State.networkSound_iff (s : State) :
    s.NetworkSound ↔ s.NetworkOk ∧ (s.slc.link = .idle → s.slc.outgoing = [] ∧ s.nwu.receive = []) :=
  ⟨fun ⟨hmode, hwatch, hheld, hpass, hreceive, htransmit, hwire, hidle, hdown⟩ =>
    ⟨⟨hmode, hwatch, hheld, hpass, hreceive, htransmit, hwire, hdown⟩, hidle⟩,
   fun ⟨h, hidle⟩ =>
    ⟨h.mode, h.watching, h.counted, h.passing, h.receive, h.transmit, h.wire, hidle, h.unpowered⟩⟩

/-- A mode is PASS or WATCH. -/
theorem State.NetworkOk.watch (h : s.NetworkOk) (hpower : s.bxp.power ≠ .run) : s.nwu.mode = .watch := by
  cases hm : s.nwu.mode with
  | pass => exact absurd (h.mode.1 hm) hpower
  | watch => rfl

/-- What the network side says depends on the NWU, the holds, the power state and the link. -/
theorem networkOk_of_clients (h : s.NetworkOk) (hnwu : u.nwu = s.nwu) (hcounted : AllClients Client.HoldCounted u.clients)
    (hempty : AllClients Client.HoldEmpty s.clients → AllClients Client.HoldEmpty u.clients)
    (hpower : u.bxp.power = s.bxp.power) (hlink : u.bxp.hostPowered = false → u.slc.link = .down) : u.NetworkOk where
  mode := by rw [hnwu, hpower]; exact h.mode
  watching := by rw [hnwu]; exact h.watching
  counted := hcounted
  passing := by rw [hnwu]; exact fun hm => hempty (h.passing hm)
  receive := by rw [hnwu]; exact h.receive
  transmit := by rw [hnwu]; exact h.transmit
  wire := by rw [hnwu]; exact h.wire
  unpowered := hlink

theorem hostPowered_of_eq (hpower : u.bxp.power = s.bxp.power) (hphase : u.bxp.phase = s.bxp.phase) :
    u.bxp.hostPowered = s.bxp.hostPowered := by
  simp [Bxp.hostPowered, hpower, hphase]

theorem networkOk_of_eq (h : s.NetworkOk) (hnwu : u.nwu = s.nwu) (hclients : u.clients = s.clients)
    (hpower : u.bxp.power = s.bxp.power) (hphase : u.bxp.phase = s.bxp.phase)
    (hlink : s.slc.link = .down → u.slc.link = .down) : u.NetworkOk :=
  networkOk_of_clients h hnwu (hclients ▸ h.counted) (hclients ▸ id) hpower fun hu =>
    hlink (h.unpowered ((hostPowered_of_eq hpower hphase).symm.trans hu))

/-! ### The holds -/

/-- The number of frames held survives charges, refunds and CLIENT_SET. -/
theorem kept_holdCounted : Client.Kept Client.HoldCounted where
  charge _ _ hx _ := hx
  refund _ _ hx := hx
  modify x role a l q hx := by
    unfold Client.modify
    split <;> exact hx
  create _ _ _ _ _ := rfl

/-- So does a hold that is EMPTY. -/
theorem kept_holdEmpty : Client.Kept Client.HoldEmpty where
  charge _ _ hx _ := hx
  refund _ _ hx := hx
  modify x role a l q hx := by
    unfold Client.modify
    split <;> exact hx
  create _ _ _ _ _ := rfl

/-- An operation that keeps every kept property of the clients, the NWU, the power state and a DOWN link. -/
theorem networkOk_of_kept (h : s.NetworkOk) (hnwu : u.nwu = s.nwu)
    (hclients : ∀ Q, Client.Kept Q → AllClients Q s.clients → AllClients Q u.clients) (hpower : u.bxp.power = s.bxp.power)
    (hphase : u.bxp.phase = s.bxp.phase) (hlink : s.slc.link = .down → u.slc.link = .down) : u.NetworkOk :=
  networkOk_of_clients h hnwu (hclients _ kept_holdCounted h.counted) (hclients _ kept_holdEmpty) hpower fun hu =>
    hlink (h.unpowered ((hostPowered_of_eq hpower hphase).symm.trans hu))

/-- A write at one client that keeps its hold. -/
theorem networkOk_of_setClient (h : s.NetworkOk) (hnwu : u.nwu = s.nwu) (c : Nat) (x : Client)
    (hclients : u.clients = put s.clients c x) (hstatus : c < 16 → x.holdStatus = (s.client c).holdStatus)
    (hheld : c < 16 → x.held = (s.client c).held) (hpower : u.bxp.power = s.bxp.power) (hphase : u.bxp.phase = s.bxp.phase)
    (hlink : s.slc.link = .down → u.slc.link = .down) : u.NetworkOk := by
  refine networkOk_of_clients h hnwu ?_ (fun hempty => ?_) hpower fun hu =>
    hlink (h.unpowered ((hostPowered_of_eq hpower hphase).symm.trans hu))
  · rw [hclients]
    refine allClients_put h.counted fun hc => ?_
    rw [Client.HoldCounted, hstatus hc, hheld hc]
    exact h.counted c hc
  · rw [hclients]
    exact allClients_put hempty fun hc => (hstatus hc).trans (hempty c hc)

/-- Frames of a hold are at most two. -/
theorem HoldStatus.frames_le (x : HoldStatus) : x.frames ≤ 2 := by cases x <;> decide

theorem Client.forwarded_length (c : Client) : c.forwarded.length = c.held.length := by
  unfold Client.forwarded
  split <;> simp_all

/-- A hold that takes a frame counts it (R183). -/
theorem Client.holdCounted_hold {x : Client} (h : x.HoldCounted) (frame : List Byte) : (x.hold frame).HoldCounted := by
  unfold Client.HoldCounted at *
  unfold Client.hold
  cases hs : x.holdStatus <;> simp_all [HoldStatus.frames]

/-- The frames forwarded are at most 32. -/
theorem State.forwarded_length_le (h : AllClients Client.HoldCounted s.clients) :
    s.forwarded.length ≤ Config.receiveMax := by
  have hle (l : List Client) (hl : ∀ x ∈ l, x.held.length ≤ 2) : ((l.map Client.forwarded).flatten).length ≤ 2 * l.length := by
    induction l with
    | nil => simp
    | cons x l ih =>
      have hx := hl x (by simp)
      have hrest := ih fun y hy => hl y (by simp [hy])
      simp only [List.map_cons, List.flatten_cons, List.length_append, List.length_cons, Client.forwarded_length]
      omega
  refine (hle s.clients.toList fun x hx => ?_).trans (by simp; decide)
  obtain ⟨c, hc, rfl⟩ := List.getElem_of_mem hx
  have hc : c < 16 := by simpa using hc
  have hcounted := h c hc
  simp only [Client.HoldCounted, slot, Vector.getElem?_eq_getElem hc, Option.getD_some] at hcounted
  simpa [hcounted] using HoldStatus.frames_le _

/-! ### Power -/

/-- Entry to RUN forwards the holds into the empty receive queue (R184). -/
theorem networkOk_enterRun (h : s.NetworkOk) (hpower : s.bxp.power ≠ .run) : (enterRun s).NetworkOk where
  mode := ⟨fun _ => rfl, fun _ => rfl⟩
  watching hm := by simp [enterRun, forwardHeld] at hm
  counted := allClients_map h.counted _ fun _ _ => rfl
  passing _ := allClients_map h.counted _ fun _ _ => rfl
  receive := by
    simp only [enterRun, forwardHeld, h.watching (h.watch hpower), List.nil_append]
    exact State.forwarded_length_le h.counted
  transmit := h.transmit
  wire := h.wire
  unpowered hu := by simp [Bxp.hostPowered] at hu

theorem networkOk_abandonStandby (h : s.NetworkOk) (hpower : s.bxp.power ≠ .run) (why : StandbyFailure) :
    (abandonStandby why s).NetworkOk := by
  have hrun : (enterRun
      { s with
        bxp.lastFailure := why
        bpc := s.bpc.withdrawForRun s.slc.settings
        slc.sleepReq := false }).NetworkOk :=
    networkOk_enterRun (networkOk_of_eq h rfl rfl rfl rfl id) hpower
  simp only [abandonStandby]
  split
  · refine networkOk_of_clients hrun (by simp) ?_ (fun hempty => ?_) (by simp) fun hu => ?_
    · simpa using hrun.counted
    · simpa using hempty
    · simp [Bxp.hostPowered] at hu
  · exact networkOk_of_eq hrun rfl rfl rfl rfl id

/-- A wake from STANDBY or HALTED watches on (R169, R173). -/
theorem networkOk_startWake (h : s.NetworkOk) (hpower : s.bxp.power ≠ .run) (cause : WakeCause) (b : Bool) :
    (startWake cause b s).NetworkOk where
  mode := by simp [startWake, h.watch hpower]
  watching := h.watching
  counted := h.counted
  passing := h.passing
  receive := h.receive
  transmit := h.transmit
  wire := h.wire
  unpowered hu := by simp [startWake, Bxp.hostPowered] at hu

theorem networkOk_dueRise (h : s.NetworkOk) (c : Nat) : (dueRise c s).NetworkOk := by
  unfold dueRise
  split
  next hp => exact networkOk_startWake h (by simp [hp]) _ _
  next hp => exact networkOk_abandonStandby h (by simp [hp]) _
  · exact h

theorem networkOk_frameHeldReport (h : s.NetworkOk) (c : Nat) : (frameHeldReport c s).NetworkOk := by
  unfold frameHeldReport
  split
  next hp => exact networkOk_startWake h (by simp [hp]) _ _
  next hp => exact networkOk_abandonStandby h (by simp [hp]) _
  · exact h

theorem networkOk_evaluateDue (h : s.NetworkOk) (cs : List Nat) : (evaluateDue cs s).NetworkOk :=
  evaluateDue_keeps cs h (fun _ => networkOk_of_eq h rfl rfl rfl rfl id) fun c due => by
    refine networkOk_dueRise ?_ c
    exact networkOk_of_eq h rfl rfl rfl rfl id

/-- Host power goes, and the link with it: a box that watches and was not in RUN (R168, R171). -/
theorem networkOk_linkDown (h : s.NetworkOk) (hpower : s.bxp.power ≠ .run) {b : Bxp} (hb : b.power ≠ .run) (p : Bpc) :
    (linkDown { s with bxp := b, bpc := p }).NetworkOk where
  mode := by simp [linkDown, h.watch hpower, hb]
  watching _ := rfl
  counted := h.counted
  passing := h.passing
  receive := Nat.zero_le _
  transmit := h.transmit
  wire := h.wire
  unpowered _ := rfl

theorem networkOk_completeStandby (h : s.NetworkOk) : (completeStandby s).NetworkOk := by
  unfold completeStandby
  split
  next hready =>
    simp only [State.standbyReady, Bool.and_eq_true, decide_eq_true_eq] at hready
    exact networkOk_linkDown h (by simp [hready.1.1]) (by simp) _
  · exact h

theorem networkOk_acceptStandby (h : s.NetworkOk) : (acceptStandby s).NetworkOk where
  mode := by simp [acceptStandby, enterWatch]
  watching _ := rfl
  counted := h.counted
  passing hm := by simp [acceptStandby, enterWatch] at hm
  receive := Nat.zero_le _
  transmit := h.transmit
  wire := h.wire
  unpowered hu := by simp [acceptStandby, enterWatch, Bxp.hostPowered] at hu

theorem networkOk_wakeFails (h : s.NetworkOk) (hpower : s.bxp.power = .waking) : (wakeFails s).NetworkOk := by
  simp only [wakeFails]
  split
  · exact networkOk_linkDown h (by simp [hpower]) (by simp [hpower]) s.bpc
  · exact networkOk_linkDown h (by simp [hpower]) (by simp) s.bpc

theorem networkOk_pauseEnds (h : s.NetworkOk) (hpower : s.bxp.power = .waking) : (pauseEnds s).NetworkOk :=
  networkOk_of_clients h rfl h.counted id rfl fun hu => by simp [pauseEnds, Bxp.hostPowered, hpower] at hu

theorem networkOk_pressButton (h : s.NetworkOk) : (pressButton s).NetworkOk := by
  unfold pressButton
  split
  · exact networkOk_of_eq h rfl rfl rfl rfl id
  next hp =>
    refine networkOk_abandonStandby ?_ (by simp [hp]) _
    exact networkOk_of_eq h rfl rfl rfl rfl id
  next hp => exact networkOk_startWake h (by simp [hp]) _ _
  · exact networkOk_of_eq h rfl rfl rfl rfl id
  next hp => exact networkOk_startWake h (by simp [hp]) _ _

end Sys2Proof.Machine
end

section
/-!
PROOFS. Every step keeps the network side (O58): the line, frames in and out, and the changes of every command (chapters 1, 10
and 11).
-/

namespace Sys2Proof.Machine

variable {s u : State}

/-! ### The line -/

/-- The transmitter takes packets off the front of the receive queue alone. -/
theorem transmit_receive (s : State) : (transmit s).nwu.receive <:+ s.nwu.receive := by
  have hstart (t : State) : (startSending t).nwu.receive <:+ t.nwu.receive := by
    unfold startSending
    split
    · exact List.suffix_refl _
    next hr => simp [hr]
    · exact List.suffix_refl _
  unfold transmit
  split
  · split
    · exact hstart s
    · split
      · exact List.suffix_refl _
      · simpa using hstart (partWake s)
    · exact List.suffix_refl _
  · exact List.suffix_refl _

theorem networkOk_transmit (h : s.NetworkOk) : (transmit s).NetworkOk where
  mode := by simpa using h.mode
  watching hm := by
    have hsuffix := transmit_receive s
    rw [h.watching (by simpa using hm)] at hsuffix
    exact List.suffix_nil.1 hsuffix
  counted := by simpa using h.counted
  passing := by simpa using h.passing
  receive := (transmit_receive s).length_le.trans h.receive
  transmit := by simpa using h.transmit
  wire := by simpa using h.wire
  unpowered hu := by
    have hdown := h.unpowered (by simpa using hu)
    rwa [transmit_of_down hdown]

/-- A link that is not DOWN has host power. -/
theorem State.NetworkOk.powered (h : s.NetworkOk) (hlink : s.slc.link ≠ .down) : s.bxp.hostPowered = true := by
  cases hp : s.bxp.hostPowered with
  | true => rfl
  | false => exact absurd (h.unpowered hp) hlink

theorem networkOk_beginTraining (h : s.NetworkOk) : (beginTraining s).NetworkOk := by
  unfold beginTraining
  split
  next hc => exact networkOk_of_clients h rfl h.counted id rfl fun hu => by simp [hc.2] at hu
  · exact h

theorem networkOk_completeTraining (h : s.NetworkOk) : (completeTraining s).NetworkOk := by
  unfold completeTraining
  split
  next htraining =>
    have hpowered := h.powered (by simp [htraining])
    have hactive : (enterActive true { s with slc.acked := false }).NetworkOk :=
      networkOk_of_clients h rfl h.counted id rfl fun hu => absurd (hpowered.symm.trans hu) (by decide)
    unfold wakeComplete
    split
    next hc => exact networkOk_enterRun hactive (ne_of_eq_of_ne hc.1 (by decide))
    · exact hactive
  · exact h

theorem networkOk_ackSignal (h : s.NetworkOk) : (ackSignal s).NetworkOk := by
  unfold ackSignal
  split
  next hc =>
    have hpowered := h.powered (Slc.link_ne_down_of_carries hc.2)
    unfold sleepAckReport
    split
    next hp =>
      refine networkOk_completeStandby (networkOk_of_clients h rfl h.counted id rfl fun hu => ?_)
      simp only [Bxp.hostPowered] at hu
      simp [show s.bxp.power = .standbyEntry from hp] at hu
    · exact networkOk_of_clients h rfl h.counted id rfl fun hu => by simp [hpowered] at hu
  · exact h

theorem networkOk_linkReset (h : s.NetworkOk) (cause : StartCause) (hlink : s.slc.link ≠ .down) :
    (linkReset cause s).NetworkOk := by
  have hblocks : (resetBlocks (resetLink cause s)).NetworkOk :=
    { mode := by simpa using h.mode
      watching := fun _ => rfl
      counted := allClients_resetBlocks kept_holdCounted h.counted
      passing := fun hm => allClients_resetBlocks kept_holdEmpty (h.passing (by simpa using hm))
      receive := Nat.zero_le _
      transmit := by simpa using h.transmit
      wire := by simpa using h.wire
      unpowered := fun hu => by
        have hpowered := h.powered hlink
        simp [hpowered] at hu }
  unfold linkReset resetPower
  split
  next hp => exact networkOk_abandonStandby hblocks (ne_of_eq_of_ne hp (by decide)) _
  · exact hblocks

theorem networkOk_loseTraining (h : s.NetworkOk) : (loseTraining s).NetworkOk := by
  unfold loseTraining
  split
  next hc => exact networkOk_linkReset h _ (Slc.link_ne_down_of_carries hc)
  · exact h

theorem networkOk_resetSignal (h : s.NetworkOk) : (resetSignal s).NetworkOk := by
  unfold resetSignal
  split
  next hc =>
    refine networkOk_linkReset h _ ?_
    rcases hc with htraining | hc
    · simp [htraining]
    · exact Slc.link_ne_down_of_carries hc
  · exact h

/-- What an IDLE link has to send after a step: nothing (R7). -/
theorem settle_idle (before after : State) (h : (settle before after).slc.link = .idle) :
    (settle before after).slc.outgoing = [] ∧ (settle before after).nwu.receive = [] := by
  unfold settle wakeForPacket at *
  split at h
  · simp at h
  next hc =>
    rw [if_neg hc]
    by_contra hne
    exact hc ⟨h, hne⟩

/-! ### Frames -/

theorem networkOk_queueTransmit (h : s.NetworkOk) (frame : List Byte) : (queueTransmit frame s).NetworkOk := by
  unfold queueTransmit
  split
  next hroom =>
    exact
      { mode := h.mode, watching := h.watching, counted := h.counted, passing := h.passing, receive := h.receive
        transmit := by simpa using hroom
        wire := fun _ => by simp
        unpowered := h.unpowered }
  · exact h

theorem networkOk_holdFrame (h : s.NetworkOk) (hmode : s.nwu.mode = .watch) (c : Nat) (frame : List Byte) :
    (holdFrame c frame s).NetworkOk := by
  unfold holdFrame
  refine networkOk_frameHeldReport ?_ c
  exact
    { mode := h.mode, watching := h.watching, receive := h.receive, transmit := h.transmit, wire := h.wire
      counted := allClients_put h.counted fun hc => Client.holdCounted_hold (h.counted c hc) frame
      passing := fun hm => by simp [hmode] at hm
      unpowered := h.unpowered }

theorem networkOk_frameTaken (h : s.NetworkOk) (frame : List Byte) : (frameTaken frame s).NetworkOk := by
  unfold frameTaken
  split
  next hmode =>
    unfold passFrame
    split
    next hroom =>
      exact
        { mode := h.mode, counted := h.counted, passing := h.passing, transmit := h.transmit, wire := h.wire
          watching := fun hw => by simp [hmode] at hw
          receive := by simpa using hroom
          unpowered := h.unpowered }
    · exact h
  next hmode =>
    unfold watchFrame watchClients
    split
    · exact networkOk_queueTransmit h _
    · split
      · split
        · exact networkOk_holdFrame h hmode _ _
        · exact h
      · exact h

theorem networkOk_transmitStarts (h : s.NetworkOk) : (transmitStarts s).NetworkOk := by
  unfold transmitStarts
  split
  next hframe =>
    exact
      { mode := h.mode, watching := h.watching, counted := h.counted, passing := h.passing, receive := h.receive
        transmit := h.transmit
        wire := fun _ => by simp [hframe]
        unpowered := h.unpowered }
  · exact h

theorem networkOk_transmitEnds (h : s.NetworkOk) : (transmitEnds s).NetworkOk := by
  unfold transmitEnds
  split
  · exact
      { mode := h.mode, watching := h.watching, counted := h.counted, passing := h.passing, receive := h.receive
        transmit := by simpa using (Nat.sub_le _ 1).trans h.transmit
        wire := fun hw => by simp at hw
        unpowered := h.unpowered }
  · exact h

/-! ### Records and time -/

theorem networkOk_secondPasses (h : s.NetworkOk) (sense : Vector Bool 4) : (secondPasses sense s).NetworkOk := by
  simp only [secondPasses]
  refine networkOk_evaluateDue ?_ _
  exact networkOk_of_eq h (by simp) (by simp) (by simp) (by simp) (by simp)

theorem networkOk_setClock (h : s.NetworkOk) (t : Nat) : (setClock t s).NetworkOk := by
  unfold setClock
  refine networkOk_evaluateDue ?_ _
  exact networkOk_of_eq h (by simp) (by simp) (by simp) (by simp) (by simp)

theorem networkOk_writeSchedule (h : s.NetworkOk) (c : Nat) (sch : Option Schedule) : (writeSchedule c sch s).NetworkOk := by
  unfold writeSchedule
  refine networkOk_evaluateDue ?_ _
  exact networkOk_of_setClient h rfl c _ rfl (fun _ => rfl) (fun _ => rfl) rfl rfl id

/-- An advance of the schedule leaves the hold (R177). -/
theorem Client.advanced_hold (x : Client) (t : Nat) :
    (x.advanced t).holdStatus = x.holdStatus ∧ (x.advanced t).held = x.held := by
  unfold Client.advanced
  split
  · exact ⟨rfl, rfl⟩
  · simp only
    split <;> exact ⟨rfl, rfl⟩

theorem networkOk_closeSnapshot (h : s.NetworkOk) (n : Nat) : (closeSnapshot n s).NetworkOk := by
  simp only [closeSnapshot, advanceSchedule]
  split
  · refine networkOk_evaluateDue ?_ _
    exact networkOk_of_setClient h rfl _ _ rfl (fun _ => (Client.advanced_hold _ _).1) (fun _ => (Client.advanced_hold _ _).2)
      rfl rfl id
  · exact networkOk_of_eq h rfl rfl rfl rfl id

theorem networkOk_finishImport (h : s.NetworkOk) : (finishImport s).NetworkOk := by
  simp only [finishImport]
  refine networkOk_evaluateDue ?_ _
  exact networkOk_of_eq h (by simp) (by simp) (by simp) (by simp) (by simp)

/-- Empty tables hold no frame. -/
theorem networkOk_of_noClients (h : s.NetworkOk) (hnwu : u.nwu = s.nwu)
    (hclients : u.clients = Vector.replicate 16 (Client.free 0)) (hpower : u.bxp.power = s.bxp.power)
    (hphase : u.bxp.phase = s.bxp.phase) (hlink : s.slc.link = .down → u.slc.link = .down) : u.NetworkOk := by
  have hall (Q : Client → Prop) (hQ : Q (Client.free 0)) : AllClients Q u.clients := by
    rw [hclients]
    intro c hc
    simpa [slot, hc] using hQ
  exact networkOk_of_clients h hnwu (hall _ rfl) (fun _ => hall _ rfl) hpower fun hu =>
    hlink (h.unpowered ((hostPowered_of_eq hpower hphase).symm.trans hu))

theorem imageClient_hold (p : List Byte) : (imageClient p).holdStatus = .empty ∧ (imageClient p).held = [] := by
  unfold imageClient
  split <;> exact ⟨rfl, rfl⟩

theorem networkOk_imageWritten (h : s.NetworkOk) {e : ImageEntry} (hw : ImageWritten e s u) : u.NetworkOk := by
  cases hw with
  | client hpass =>
    obtain ⟨hstatus, hheld⟩ := imageClient_hold e.content
    refine networkOk_of_clients h rfl (allClients_put h.counted fun _ => ?_) (fun hempty => allClients_put hempty fun _ => hstatus)
      rfl h.unpowered
    rw [Client.HoldCounted, hstatus, hheld]
    rfl
  | filterMask fs => exact networkOk_of_setClient h rfl _ _ rfl (fun _ => rfl) (fun _ => rfl) rfl rfl id
  | _ => exact networkOk_of_eq h (by simp) (by simp) (by simp) (by simp) (by simp)

theorem networkOk_putEntries (h : s.NetworkOk) (es : List (List Byte)) (sts : List Status) :
    (putEntries es sts s).2.NetworkOk :=
  putEntries_keeps (fun _ _ _ _ _ hv hr => networkOk_of_eq (networkOk_imageWritten hv (applyRecord_written hr)) rfl rfl rfl rfl id)
    (fun _ hv => networkOk_of_eq hv rfl rfl rfl rfl id) es sts h

/-! ### Every command -/

/-- Every change of a command keeps the network side. -/
theorem Change.networkOk {c : Instr} (hchange : Change c s u) (h : s.NetworkOk) : u.NetworkOk := by
  cases hchange with
  | headerReceived header underHold =>
    exact networkOk_of_eq h (by simp) (by simp) (by simp) (by simp) fun hdown => by
      rwa [headerArrives_of_down header underHold hdown]
  | transmitPacket => exact networkOk_transmit h
  | trainingStart => exact networkOk_beginTraining h
  | trainingComplete => exact networkOk_completeTraining h
  | trainingLost => exact networkOk_loseTraining h
  | hostIdle =>
    exact networkOk_of_eq h (by simp) (by simp) (by simp) (by simp) fun hdown => by simp [idleSignal, hdown]
  | hostWake =>
    exact networkOk_of_eq h (by simp) (by simp) (by simp) (by simp) fun hdown => by simp [wakeSignal, hdown]
  | sleepAck => exact networkOk_ackSignal h
  | hostReset => exact networkOk_resetSignal h
  | secondEvent sense => exact networkOk_secondPasses h sense
  | clockSet r => exact networkOk_setClock h _
  | clientSet r =>
    exact networkOk_of_kept h (by simp) (fun Q hQ hv => allClients_setClientRecord hQ hv _ _) (by simp) (by simp) (by simp)
  | clientRetire r =>
    refine networkOk_of_clients h (by simp) (allClients_put h.counted fun _ => rfl)
      (fun hempty => allClients_put hempty fun _ => rfl) (by simp) fun hu => ?_
    simpa using h.unpowered ((hostPowered_of_eq (by simp) (by simp)).symm.trans hu)
  | scheduleSet n sch => exact networkOk_writeSchedule h n sch
  | collectionClose n => exact networkOk_closeSnapshot h n
  | streamData r =>
    exact networkOk_of_kept h (by simp) (fun Q hQ hv => (recordKept_allClients hQ).takePacket hv _ _ _) (by simp) (by simp) (by simp)
  | streamCommit r =>
    exact networkOk_of_kept h (by simp) (fun Q hQ hv => (recordKept_allClients hQ).commitEntries hv _ _ _) (by simp) (by simp) (by simp)
  | streamAbort r =>
    exact networkOk_of_kept h (by simp) (fun Q hQ hv => (recordKept_allClients hQ).abortStream hv _) (by simp) (by simp) (by simp)
  | referenceRemoval =>
    exact networkOk_of_kept h (by simp) (fun Q hQ hv => (recordKept_allClients hQ).referenceRemoval hv) (by simp) (by simp) (by simp)
  | releaseTake n =>
    exact networkOk_of_kept h (by simp) (fun Q hQ hv => (recordKept_allClients hQ).resumeWalk (by simpa using hv)) (by simp) (by simp)
      (by simp)
  | spinDownExpiry bay =>
    unfold spinDownDone bayReport
    exact networkOk_completeStandby (networkOk_of_eq h rfl rfl rfl rfl id)
  | presenceLoss bay =>
    simp only [bayLoss, bayReport]
    refine networkOk_completeStandby ?_
    exact networkOk_of_eq h (by simp) (by simp) (by simp) (by simp) (by simp)
  | presenceArrival bay =>
    unfold bayArrival bayReport
    exact networkOk_completeStandby (networkOk_of_eq h rfl rfl rfl rfl id)
  | standbyEnter r => exact networkOk_acceptStandby h
  | returnPrior r => exact networkOk_acceptStandby (networkOk_of_eq h rfl rfl rfl rfl id)
  | standbyEntryComplete => exact networkOk_completeStandby h
  | handshakeTimerExpiry _ hp => exact networkOk_abandonStandby h (by simp [hp]) _
  | wakeTimerExpiry _ hp => exact networkOk_wakeFails h hp
  | pauseTimerExpiry _ hp => exact networkOk_pauseEnds h hp
  | buttonPress => exact networkOk_pressButton h
  | frameReceived frame good => exact networkOk_frameTaken h frame
  | frameOut frame => exact networkOk_queueTransmit h frame
  | frameTransmitStart => exact networkOk_transmitStarts h
  | frameTransmitEnd => exact networkOk_transmitEnds h
  | filterSet n fs => exact networkOk_of_setClient h rfl n _ rfl (fun _ => rfl) (fun _ => rfl) rfl rfl id
  | templateSet n x =>
    exact
      { mode := h.mode, watching := h.watching, counted := h.counted, passing := h.passing, receive := h.receive
        transmit := h.transmit, wire := h.wire, unpowered := h.unpowered }
  | tablesInit r => exact networkOk_of_noClients h rfl rfl rfl rfl id
  | imageImport r => exact networkOk_of_noClients h rfl rfl rfl rfl id
  | memberAdd n es =>
    exact memberEntries_keeps State.NetworkOk _ es [] s h fun m v hv =>
      networkOk_of_eq hv (by simp) (by simp) (by simp) (by simp) (by simp)
  | memberRemove n es =>
    exact memberEntries_keeps State.NetworkOk _ es [] s h fun m v hv =>
      networkOk_of_eq hv (by simp) (by simp) (by simp) (by simp) (by simp)
  | imagePut es whole => exact networkOk_of_eq (networkOk_putEntries h es []) (by simp) (by simp) (by simp) (by simp) (by simp)
  | imageEndLoaded => exact networkOk_finishImport h
  | _ => exact networkOk_of_eq h (by simp) (by simp) (by simp) (by simp) (by simp)

theorem networkOk_powerOn (sense : Vector Bool 4) : (State.powerOn sense).NetworkOk := by
  have hall (Q : Client → Prop) (hQ : Q (Client.free 0)) : AllClients Q (State.powerOn sense).clients := by
    intro c hc
    simpa [State.powerOn, slot, hc] using hQ
  exact
    { mode := by simp [State.powerOn], watching := fun _ => rfl, counted := hall _ rfl, passing := fun _ => hall _ rfl
      receive := Nat.zero_le _, transmit := Nat.zero_le _, wire := by simp [State.powerOn], unpowered := fun _ => rfl }

/-- Settles O58: power-on reset has a sound network side, every change of a command keeps it, and the end of a step leaves an
IDLE link nothing to send. -/
theorem stepKeepsTheNetworkSide : Obligations.StepKeepsTheNetworkSide := by
  intro s t h hnetwork
  obtain ⟨hok, hidle⟩ := s.networkSound_iff.1 hnetwork
  refine t.networkSound_iff.2 ⟨?_, ?_⟩
  · exact step_keeps (P := State.NetworkOk) h hok (fun v q hv => networkOk_of_eq hv rfl rfl rfl rfl id)
      (fun v hv => networkOk_of_eq hv rfl rfl rfl rfl id)
      (fun sense q n => networkOk_of_eq (networkOk_powerOn sense) rfl rfl rfl rfl id) (fun c v u hu hv => hu.networkOk hv)
      (fun r st rec n u hu => networkOk_of_eq hu (by simp) (by simp) (by simp) (by simp) (by simp))
      fun v u hu => networkOk_of_eq hu (by simp) (by simp) (by simp) (by simp) (by simp)
  · cases hq : s.pending with
    | nil =>
      rw [stepTakesTheFrontCommand.2 s hq] at h
      cases h
      exact hidle
    | cons c rest =>
      rw [stepTakesTheFrontCommand.1 s c rest hq] at h
      by_cases hc : ∃ sense, c = .powerOnReset sense
      · obtain ⟨sense, rfl⟩ := hc
        cases h
        exact fun hlink => by simp [State.powerOn] at hlink
      · obtain ⟨v, -, rfl⟩ := exec_changes h (not_exists.1 hc)
        exact settle_idle _ _

end Sys2Proof.Machine
end

section
/-!
PROOFS. Every change of a command keeps each charge within its quota, and box time within 32 bits (R22, R33, R34).
-/

namespace Sys2Proof.Machine

variable {s u : State}

/-! ### Charges -/

/-- The charge keeps to the quota. -/
def Client.ChargeOk (x : Client) : Prop := x.chargeKept = true

theorem Client.chargeOk_iff (x : Client) : x.ChargeOk ↔ ∀ q, x.quota = some q → x.charged ≤ q * Config.mib := by
  unfold Client.ChargeOk Client.chargeKept
  split <;> simp_all

theorem Client.chargeOk_of_eq {x y : Client} (h : x.ChargeOk) (hquota : y.quota = x.quota)
    (hcharged : y.charged = x.charged) : y.ChargeOk := by
  rw [Client.chargeOk_iff, hquota, hcharged]
  exact (Client.chargeOk_iff x).1 h

/-- A quota is raised to the charge where it is lower (R33). -/
theorem charged_le_quotaTaken {n charged q : Nat} (h : quotaTaken n charged = some q) : charged ≤ q * Config.mib := by
  unfold quotaTaken at h
  split at h
  · contradiction
  · split at h
    next hfits => cases h; exact hfits
    · cases h
      simp only [Config.mib]
      omega

/-- A charge keeps to its quota under charges, refunds and CLIENT_SET. -/
theorem kept_chargeOk : Client.Kept Client.ChargeOk where
  charge x n _ hn := (Client.chargeOk_iff _).2 hn
  refund x n hx := (Client.chargeOk_iff _).2 fun q hq => (Nat.sub_le _ _).trans ((Client.chargeOk_iff x).1 hx q hq)
  modify x role a l q hx := by
    rw [Client.chargeOk_iff]
    intro p hp
    unfold Client.modify at hp ⊢
    split at hp <;> simp_all <;> exact charged_le_quotaTaken hp
  create x role a l q := (Client.chargeOk_iff _).2 fun _ _ => Nat.zero_le _

theorem allCharges_forward (h : AllClients Client.ChargeOk s.clients) :
    AllClients Client.ChargeOk (forwardHeld s).clients :=
  allClients_map h _ fun _ hx => hx

theorem partWake_clients (s : State) : (partWake s).clients = s.clients := rfl

theorem allCharges_abandonStandby (h : AllClients Client.ChargeOk s.clients) (why : StandbyFailure) :
    AllClients Client.ChargeOk (abandonStandby why s).clients := by
  have hrun := allClients_map h (R := Client.ChargeOk) (fun c => { c with holdStatus := .empty, held := [] }) fun _ hx => hx
  simp only [abandonStandby]
  split
  · rw [partWake_clients]
    exact hrun
  · exact hrun

theorem allCharges_dueRise (h : AllClients Client.ChargeOk s.clients) (c : Nat) :
    AllClients Client.ChargeOk (dueRise c s).clients := by
  unfold dueRise
  split
  · exact h
  · exact allCharges_abandonStandby h _
  · exact h

theorem allCharges_frameHeldReport (h : AllClients Client.ChargeOk s.clients) (c : Nat) :
    AllClients Client.ChargeOk (frameHeldReport c s).clients := by
  unfold frameHeldReport
  split
  · exact h
  · exact allCharges_abandonStandby h _
  · exact h

theorem allCharges_evaluateDue (h : AllClients Client.ChargeOk s.clients) (cs : List Nat) :
    AllClients Client.ChargeOk (evaluateDue cs s).clients :=
  evaluateDue_keeps (P := fun t => AllClients Client.ChargeOk t.clients) cs h (fun _ => h) fun c due => by
    refine allCharges_dueRise ?_ c
    exact h

theorem allCharges_linkReset (h : AllClients Client.ChargeOk s.clients) (cause : StartCause) :
    AllClients Client.ChargeOk (linkReset cause s).clients := by
  have hblocks : AllClients Client.ChargeOk (resetBlocks (resetLink cause s)).clients :=
    allClients_resetBlocks kept_chargeOk h
  unfold linkReset resetPower
  split
  · exact allCharges_abandonStandby hblocks _
  · exact hblocks

theorem Client.chargeOk_hold {x : Client} (h : x.ChargeOk) (frame : List Byte) : (x.hold frame).ChargeOk := by
  unfold Client.hold
  split <;> exact h

/-- An advance of the schedule leaves quota and charge (R177). -/
theorem Client.chargeOk_advanced {x : Client} (h : x.ChargeOk) (t : Nat) : (x.advanced t).ChargeOk := by
  unfold Client.advanced
  split
  · exact h
  · simp only
    split <;> exact h

theorem Client.chargeOk_free (g : Nat) : (Client.free g).ChargeOk := rfl

/-- An imported client's charge is checked against its quota (R191). -/
theorem Client.chargeOk_imageClient {e : ImageEntry} (h : firstFail (clientImageChecks s e) = none) :
    (imageClient e.content).ChargeOk := by
  simp only [clientImageChecks, firstFail_append_eq_none, firstFail_cons_eq_none] at h
  obtain ⟨-, hrest⟩ := h
  by_cases hactive : byteAt e.content 1 = 1
  · rw [if_pos hactive] at hrest
    simp only [activeClientChecks, firstFail_cons_eq_none] at hrest
    obtain ⟨-, -, -, -, hquota, -⟩ := hrest
    rw [Client.chargeOk_iff]
    intro q hq
    simpa [hq] using hquota
  · rw [imageClient, if_neg hactive]
    exact Client.chargeOk_free _

theorem allCharges_putEntries (h : AllClients Client.ChargeOk s.clients) (es : List (List Byte)) (sts : List Status) :
    AllClients Client.ChargeOk (putEntries es sts s).2.clients := by
  refine putEntries_keeps (P := fun t => AllClients Client.ChargeOk t.clients) (fun e v v' want head hv hr => ?_) (fun v hv => hv)
    es sts h
  cases applyRecord_written hr with
  | client hpass => exact allClients_put hv fun _ => Client.chargeOk_imageClient hpass
  | filterMask fs => exact allClients_setClient hv fun hc => Client.chargeOk_of_eq (hv _ hc) rfl rfl
  | _ => simpa using hv

theorem allCharges_closeSnapshot (h : AllClients Client.ChargeOk s.clients) (n : Nat) :
    AllClients Client.ChargeOk (closeSnapshot n s).clients := by
  simp only [closeSnapshot, advanceSchedule]
  split
  · refine allCharges_evaluateDue (allClients_setClient (by exact h) fun hc => ?_) _
    exact Client.chargeOk_advanced (h (s.coll n).owner.1 hc) s.bck.boxTime
  · exact h

theorem allCharges_watchFrame (h : AllClients Client.ChargeOk s.clients) (frame : List Byte) :
    AllClients Client.ChargeOk (watchFrame frame s).clients := by
  unfold watchFrame watchClients
  split
  · simpa using h
  · split
    · split
      next c _ =>
        refine allCharges_frameHeldReport (allClients_setClient h fun hc => ?_) _
        exact Client.chargeOk_hold (h c hc) _
      · exact h
    · exact h

/-- Every change of a command keeps each charge within its quota. -/
theorem Change.chargesOk {c : Instr} (hchange : Change c s u) (h : AllClients Client.ChargeOk s.clients) :
    AllClients Client.ChargeOk u.clients := by
  cases hchange with
  | trainingComplete =>
    unfold completeTraining wakeComplete
    split
    · split
      · exact allCharges_forward h
      · exact h
    · exact h
  | trainingLost =>
    unfold loseTraining
    split
    · exact allCharges_linkReset h _
    · exact h
  | hostReset =>
    unfold resetSignal
    split
    · exact allCharges_linkReset h _
    · exact h
  | secondEvent sense =>
    simp only [secondPasses]
    exact allCharges_evaluateDue (by simpa using h) _
  | clockSet r =>
    unfold setClock
    exact allCharges_evaluateDue (by simpa using h) _
  | clientSet r => exact allClients_setClientRecord kept_chargeOk h _ _
  | clientRetire r => exact allClients_put h fun _ => Client.chargeOk_free _
  | scheduleSet n sch =>
    unfold writeSchedule
    refine allCharges_evaluateDue (allClients_setClient h fun hc => ?_) _
    exact Client.chargeOk_of_eq (h n hc) rfl rfl
  | collectionClose n =>
    exact allCharges_closeSnapshot h n
  | streamData r => exact (recordKept_allClients kept_chargeOk).takePacket h _ _ _
  | streamCommit r => exact (recordKept_allClients kept_chargeOk).commitEntries h _ _ _
  | streamAbort r => exact (recordKept_allClients kept_chargeOk).abortStream h _
  | referenceRemoval => exact (recordKept_allClients kept_chargeOk).referenceRemoval h
  | releaseTake n => exact (recordKept_allClients kept_chargeOk).resumeWalk (by simpa using h)
  | handshakeTimerExpiry => exact allCharges_abandonStandby h _
  | buttonPress =>
    unfold pressButton
    split
    · exact h
    · exact allCharges_abandonStandby (by exact h) _
    all_goals exact h
  | frameReceived frame good =>
    unfold frameTaken
    split
    · simpa using h
    · exact allCharges_watchFrame h frame
  | filterSet n fs => exact allClients_setClient h fun hc => Client.chargeOk_of_eq (h n hc) rfl rfl
  | tablesInit r =>
    intro c hc
    simpa [initTables, emptyTables, slot, hc] using Client.chargeOk_free 0
  | imageImport r =>
    intro c hc
    simpa [startImport, emptyTables, slot, hc] using Client.chargeOk_free 0
  | imagePut es whole => simpa using allCharges_putEntries h es []
  | imageEndLoaded =>
    simp only [finishImport]
    exact allCharges_evaluateDue (by simpa using h) _
  | memberAdd n es =>
    exact memberEntries_keeps (fun t => AllClients Client.ChargeOk t.clients) _ es [] s h fun m v hv => by simpa using hv
  | memberRemove n es =>
    exact memberEntries_keeps (fun t => AllClients Client.ChargeOk t.clients) _ es [] s h fun m v hv => by simpa using hv
  | _ => simpa using h

/-! ### Box time -/

/-- A field of `n` bytes is below 256 to the `n`. -/
theorem field_lt (p : List Byte) (off n : Nat) : field p off n < 256 ^ n := by
  have hofLe (l : List Byte) : ofLe l < 256 ^ l.length := by
    induction l with
    | nil => simp [ofLe]
    | cons b l ih =>
      have hb := b.isLt
      simp only [ofLe, List.length_cons, Nat.pow_succ]
      omega
  exact (hofLe _).trans_le (Nat.pow_le_pow_right (by decide) (List.length_take_le _ _))

/-- Every change of a command keeps box time within 32 bits. -/
theorem Change.boxTime_le {c : Instr} (hchange : Change c s u) (h : s.bck.boxTime ≤ Config.maxTime) :
    u.bck.boxTime ≤ Config.maxTime := by
  cases hchange with
  | secondEvent sense =>
    simp only [secondPasses, evaluateDue_frame]
    have hnext : nextSecond s.bck.boxTime ≤ Config.maxTime := by
      unfold nextSecond
      split <;> omega
    unfold clockTo
    split <;> simpa using hnext
  | clockSet r =>
    have hle : field r.payload 0 4 ≤ Config.maxTime := Nat.le_of_lt_succ (field_lt _ _ _)
    simpa [setClock, clockTo] using hle
  | memberAdd n es =>
    exact memberEntries_keeps (fun t => t.bck.boxTime ≤ Config.maxTime) _ es [] s h fun m v hv => by simpa using hv
  | memberRemove n es =>
    exact memberEntries_keeps (fun t => t.bck.boxTime ≤ Config.maxTime) _ es [] s h fun m v hv => by simpa using hv
  | _ => simpa using h

end Sys2Proof.Machine
end

section
/-!
PROOFS. Every change of a command keeps the record arrays canonical, the release list within its size, and the scopes of LIVE
grants distinct (R117, R129).
-/

namespace Sys2Proof.Machine

variable {s u : State}

/-! ### Chunks, objects and collections -/

/-- The arrays of chunks, objects and collections are canonical. -/
def State.RecordsOk (s : State) : Prop :=
  Table.Canonical Chunk.empty s.chunks ∧ Table.Canonical Obj.free s.oct.objects ∧ Table.Canonical Coll.free s.oct.colls

theorem recordsOk_of_eq (h : s.RecordsOk) (hchunks : u.chunks = s.chunks) (hobjects : u.oct.objects = s.oct.objects)
    (hcolls : u.oct.colls = s.oct.colls) : u.RecordsOk := by
  simpa only [State.RecordsOk, hchunks, hobjects, hcolls] using h

theorem recordsOk_empty (hchunks : u.chunks = []) (hobjects : u.oct.objects = []) (hcolls : u.oct.colls = []) :
    u.RecordsOk := by
  simp [State.RecordsOk, hchunks, hobjects, hcolls, Table.Canonical, Table.sorted]

/-- A write keeps the canonical form. -/
theorem recordKept_recordsOk : RecordKept State.RecordsOk where
  streams _ _ h := h
  object _ _ _ h := ⟨h.1, Table.canonical_write _ _ _ _ h.2.1, h.2.2⟩
  coll _ _ _ h := ⟨h.1, h.2.1, Table.canonical_write _ _ _ _ h.2.2⟩
  pages _ _ h := h
  chunk _ _ _ h := ⟨Table.canonical_write _ _ _ _ h.1, h.2⟩
  charge _ _ _ _ h := recordsOk_of_eq h (by simp) (by simp) (by simp)
  refund _ _ _ _ h := recordsOk_of_eq h (by simp) (by simp) (by simp)
  deferred _ _ _ h := recordsOk_of_eq h (by simp) (by simp) (by simp)
  release _ _ _ h := h
  walk _ _ _ h := h
  extent _ _ _ _ h := h
  check _ h := recordsOk_of_eq h (by simp) (by simp) (by simp)
  between _ _ h := recordsOk_of_eq h (by simp) (by simp) (by simp)
  plans _ _ h := h

theorem recordsOk_linkReset (h : s.RecordsOk) (cause : StartCause) : (linkReset cause s).RecordsOk := by
  have hlink : (resetLink cause s).RecordsOk := h
  have hmanual := recordKept_recordsOk.clearManualHolds
    (recordKept_recordsOk.closeAllPlans (recordKept_recordsOk.abortAllStreams hlink))
  have hblocks : (resetBlocks (resetLink cause s)).RecordsOk :=
    recordsOk_of_eq hmanual (by simp only [resetBlocks]) (by simp only [resetBlocks]) (by simp only [resetBlocks])
  unfold linkReset resetPower
  split
  · exact recordsOk_of_eq hblocks (by simp) (by simp) (by simp)
  · exact hblocks

theorem recordsOk_imageWritten (h : s.RecordsOk) {e : ImageEntry} (hw : ImageWritten e s u) : u.RecordsOk := by
  cases hw with
  | coll => exact recordKept_recordsOk.coll _ _ _ h
  | members ms => exact recordKept_recordsOk.replaceColl h _ _
  | object => exact recordKept_recordsOk.object _ _ _ h
  | refs refs => exact recordKept_recordsOk.setRecipe h _ _
  | chunk => exact recordKept_recordsOk.chunk _ _ _ h
  | _ => exact recordsOk_of_eq h (by simp) (by simp) (by simp)

theorem recordsOk_putEntries (h : s.RecordsOk) (es : List (List Byte)) (sts : List Status) :
    (putEntries es sts s).2.RecordsOk :=
  putEntries_keeps (fun _ _ _ _ _ hv hr => recordsOk_of_eq (recordsOk_imageWritten hv (applyRecord_written hr)) rfl rfl rfl)
    (fun _ hv => recordsOk_of_eq hv rfl rfl rfl) es sts h

/-- A checked read writes at most one entry or one PRIVATE reference (R89, R96). -/
theorem recordsOk_applyCheck (h : s.RecordsOk) (n ordinal : Nat) (ref : Ref) (l : Loc) (same : Bool) :
    (applyCheck n ordinal ref l same s).2.2.RecordsOk := by
  unfold applyCheck
  split
  next k =>
    have hset := recordKept_recordsOk.chunk s k ((s.chunk k).checked l same).1 h
    simp only
    split
    · exact recordsOk_of_eq hset (by simp) (by simp) (by simp)
    · exact h
  next loc length d damaged =>
    have hset := recordKept_recordsOk.object s n { s.object n with
      recipe := (s.object n).recipe.set ordinal ((Ref.priv loc length d damaged).checked l same).1 } h
    simp only
    split
    · exact recordsOk_of_eq hset (by simp) (by simp) (by simp)
    · exact h

theorem recordsOk_openStream (h : s.RecordsOk) (f : OpenFields) (i n : Nat) : (openStream f i n s).RecordsOk := by
  have hslot := recordKept_recordsOk.replaceColl (recordKept_recordsOk.object s n
    { Obj.free with state := .building, owner := (f.client, (s.client f.client).generation) } h) f.collection
    { s.coll f.collection with reserved := (s.coll f.collection).reserved + 1 }
  exact recordsOk_of_eq hslot rfl rfl rfl

theorem recordsOk_openPlan (h : s.RecordsOk) (p : Nat) (f : PlanFields) : (openPlan p f s).RecordsOk := by
  have hheld := recordKept_recordsOk.object s f.object
    { s.object f.object with planHolds := (s.object f.object).planHolds + 1 } h
  simp only [openPlan]
  exact recordsOk_of_eq hheld (by simp) (by simp) (by simp)

/-- Every change of a command keeps the record arrays canonical. -/
theorem Change.recordsOk {c : Instr} (hchange : Change c s u) (h : s.RecordsOk) : u.RecordsOk := by
  cases hchange with
  | trainingLost =>
    unfold loseTraining
    split
    · exact recordsOk_linkReset h _
    · exact h
  | hostReset =>
    unfold resetSignal
    split
    · exact recordsOk_linkReset h _
    · exact h
  | streamOpen r => exact recordsOk_openStream h _ _ _
  | streamData r => exact recordKept_recordsOk.takePacket h _ _ _
  | streamCommit r => exact recordKept_recordsOk.commitEntries h _ _ _
  | streamFinish r =>
    simp only [streamFinishTaken, completeIfFinished]
    split
    · refine recordKept_recordsOk.completeStream ?_ _
      exact h
    · exact h
  | streamCompletion stream =>
    unfold completeIfFinished
    split
    · exact recordKept_recordsOk.completeStream h _
    · exact h
  | streamAbort r => exact recordKept_recordsOk.abortStream h _
  | collectionOpen r => exact recordKept_recordsOk.coll _ _ _ h
  | collectionClose n =>
    have hclosed := recordKept_recordsOk.coll s n
      { s.coll n with state := .closed, closed := some s.bck.boxTime } h
    simp only [closeSnapshot, advanceSchedule]
    split <;> exact recordsOk_of_eq hclosed (by simp) (by simp) (by simp)
  | memberAdd n es =>
    exact memberEntries_keeps State.RecordsOk _ es [] s h fun m v hv => recordKept_recordsOk.memberAddEntry hv _ _
  | memberRemove n es =>
    exact memberEntries_keeps State.RecordsOk _ es [] s h fun m v hv => recordKept_recordsOk.memberRemoveEntry hv _ _
  | retireCollection n =>
    have hset := recordKept_recordsOk.coll s n { s.coll n with state := .retiring } h
    exact recordsOk_of_eq hset (by simp [retireColl]) (by simp [retireColl]) (by simp [retireColl])
  | memberRemoval => exact recordKept_recordsOk.memberRemoval h
  | referenceRemoval => exact recordKept_recordsOk.referenceRemoval h
  | objectFree => exact recordKept_recordsOk.objectFree h
  | collectionFree => exact recordKept_recordsOk.collectionFree h
  | releaseTake n =>
    exact recordKept_recordsOk.resumeWalk (recordKept_recordsOk.check _ (recordsOk_of_eq h (by simp) (by simp) (by simp)))
  | planOpen r => exact recordsOk_openPlan h _ _
  | planCheckDone r _ _ ref c same =>
    refine recordsOk_applyCheck ?_ _ _ _ _ _
    exact recordsOk_of_eq h rfl rfl rfl
  | planDone r => exact recordKept_recordsOk.closePlan h _
  | tablesInit r => exact recordsOk_empty rfl rfl rfl
  | imageImport r => exact recordsOk_empty rfl rfl rfl
  | imagePut es whole => exact recordsOk_of_eq (recordsOk_putEntries h es []) (by simp) (by simp) (by simp)
  | _ => exact recordsOk_of_eq h (by simp) (by simp) (by simp)

/-! ### The release list -/

/-- The release list keeps to its size (R117). -/
def State.ReleaseOk (s : State) : Prop := s.rtu.release.length ≤ Config.releaseMax

theorem releaseOk_of_eq (h : s.ReleaseOk) (hrelease : u.rtu.release = s.rtu.release) : u.ReleaseOk := by
  simpa only [State.ReleaseOk, hrelease] using h

/-- A deferred check moves extents only while the release list has room (R122). -/
theorem moveDeferred_length (epochs : List Epoch) (ds : List Deferred) (rel : List Extent)
    (h : rel.length ≤ Config.releaseMax) : (moveDeferred epochs ds rel).2.length ≤ Config.releaseMax := by
  induction ds generalizing rel with
  | nil => exact h
  | cons d ds ih =>
    rw [moveDeferred]
    split
    next hc => exact ih _ (by simpa using hc.2)
    · exact h

theorem releaseOk_makeDeferredCheck (h : s.ReleaseOk) : (makeDeferredCheck s).ReleaseOk := by
  unfold makeDeferredCheck
  split
  · exact moveDeferred_length _ _ _ h
  · exact h

/-- An extent joins the release list only where it has room. -/
theorem recordKept_releaseOk : RecordKept State.ReleaseOk where
  streams _ _ h := h
  object _ _ _ h := h
  coll _ _ _ h := h
  pages _ _ h := h
  chunk _ _ _ h := h
  charge _ _ _ _ h := releaseOk_of_eq h (by simp)
  refund _ _ _ _ h := releaseOk_of_eq h (by simp)
  deferred _ _ _ h := releaseOk_of_eq h (by simp)
  release _ _ _ h := h
  walk _ _ hr h := releaseOk_of_eq h hr
  extent _ _ _ hroom _ := by simpa [State.ReleaseOk] using hroom
  check _ h := releaseOk_makeDeferredCheck h
  between _ _ h := releaseOk_of_eq h (by simp)
  plans _ _ h := h

theorem releaseOk_linkReset (h : s.ReleaseOk) (cause : StartCause) : (linkReset cause s).ReleaseOk := by
  have hlink : (resetLink cause s).ReleaseOk := h
  have hmanual := recordKept_releaseOk.clearManualHolds
    (recordKept_releaseOk.closeAllPlans (recordKept_releaseOk.abortAllStreams hlink))
  have hblocks : (resetBlocks (resetLink cause s)).ReleaseOk := releaseOk_of_eq hmanual (by simp only [resetBlocks])
  unfold linkReset resetPower
  split
  · exact releaseOk_of_eq hblocks (by simp)
  · exact hblocks

theorem releaseOk_putEntries (h : s.ReleaseOk) (es : List (List Byte)) (sts : List Status) :
    (putEntries es sts s).2.ReleaseOk := by
  refine putEntries_keeps (P := State.ReleaseOk) (fun e v v' want head hv hr => ?_) (fun _ hv => hv) es sts h
  cases applyRecord_written hr with
  | release x hroom => exact recordKept_releaseOk.extent v { bay := x.bay, block := x.block } x.length hroom hv
  | _ => exact releaseOk_of_eq hv (by simp)

/-- Every change of a command keeps the release list within its size. -/
theorem Change.releaseOk {c : Instr} (hchange : Change c s u) (h : s.ReleaseOk) : u.ReleaseOk := by
  cases hchange with
  | trainingLost =>
    unfold loseTraining
    split
    · exact releaseOk_linkReset h _
    · exact h
  | hostReset =>
    unfold resetSignal
    split
    · exact releaseOk_linkReset h _
    · exact h
  | streamCommit r => exact recordKept_releaseOk.commitEntries h _ _ _
  | memberAdd n es =>
    exact memberEntries_keeps State.ReleaseOk _ es [] s h fun m v hv => recordKept_releaseOk.memberAddEntry hv _ _
  | memberRemove n es =>
    exact memberEntries_keeps State.ReleaseOk _ es [] s h fun m v hv => recordKept_releaseOk.memberRemoveEntry hv _ _
  | referenceRemoval => exact recordKept_releaseOk.referenceRemoval h
  | releaseTake n =>
    refine recordKept_releaseOk.resumeWalk (recordKept_releaseOk.check _ ?_)
    exact (List.drop_sublist n s.rtu.release).length_le.trans h
  | deferredCheck => exact releaseOk_makeDeferredCheck h
  | planDone r => exact recordKept_releaseOk.closePlan h _
  | tablesInit r => exact Nat.zero_le _
  | imageImport r => exact Nat.zero_le _
  | imageNext count =>
    simp only [exportBatch]
    split
    · exact recordKept_releaseOk.unfreezeWalk h
    · exact h
  | imageCancelExport => exact recordKept_releaseOk.unfreezeWalk h
  | imagePut es whole => exact releaseOk_of_eq (releaseOk_putEntries h es []) (by simp)
  | imageEndLoaded =>
    have hchecked := releaseOk_makeDeferredCheck (s := latch .imageDone { s with tiu.load := .loaded }) h
    simp only [finishImport]
    exact releaseOk_of_eq hchecked (by simp)
  | _ => exact releaseOk_of_eq h (by simp)

end Sys2Proof.Machine
end

section
/-!
PROOFS. Every change of a command leaves the grants canonical, and no two LIVE ones of one scope (R129).
-/

namespace Sys2Proof.Machine

variable {s u : State}

/-! ### What can become of the grants -/

/-- No two LIVE grants of the array have one scope. -/
def OneOfScope (t : Table Grant) : Prop :=
  ∀ p ∈ t, ∀ q ∈ t, p.2.live = true → q.2.live = true → p.2.grantee = q.2.grantee → p.2.target = q.2.target → p = q

/-- No LIVE grant of the scope of `g` stands at another number than `n`. -/
def OnlyAt (t : Table Grant) (n : Nat) (g : Grant) : Prop :=
  g.live = true → ∀ q ∈ t, q.2.live = true → q.2.grantee = g.grantee → q.2.target = g.target → q.1 = n

/-- What the commands can make of the grants: some are taken off, or one is written at a number, the only one that may
already hold its scope. -/
inductive GrantsBecome : Table Grant → Table Grant → Prop where
  | same (t : Table Grant) : GrantsBecome t t
  | filter (t : Table Grant) (f : Nat × Grant → Bool) : GrantsBecome t (t.filter f)
  | write (t : Table Grant) (n : Nat) (g : Grant)
      (hscope : OneOfScope t → OnlyAt t n g) : GrantsBecome t (Table.write Grant.free t n g)
  | trans {t v w : Table Grant} (h : GrantsBecome t v) (h' : GrantsBecome v w) : GrantsBecome t w

theorem GrantsBecome.of_eq {t v : Table Grant} (h : v = t) : GrantsBecome t v := h ▸ .same t

theorem GrantsBecome.empty (t : Table Grant) : GrantsBecome t [] := by
  simpa using GrantsBecome.filter t fun _ => false

theorem GrantsBecome.canonical {t v : Table Grant} (h : GrantsBecome t v) (ht : Table.Canonical Grant.free t) :
    Table.Canonical Grant.free v := by
  induction h with
  | same => exact ht
  | filter t f => exact Table.canonical_filter _ _ _ ht
  | write t n g _ => exact Table.canonical_write _ _ _ _ ht
  | trans _ _ ih ih' => exact ih' (ih ht)

theorem OneOfScope.filter {t : Table Grant} (h : OneOfScope t) (f : Nat × Grant → Bool) : OneOfScope (t.filter f) :=
  fun p hp q hq => h p (List.mem_filter.1 hp).1 q (List.mem_filter.1 hq).1

/-- The pairs of an array after a write: the one written, and its own of other numbers. -/
theorem Table.mem_write {α : Type} [DecidableEq α] {d : α} {t : Table α} (hs : Table.sorted t = true) {k : Nat} {v : α}
    {p : Nat × α} (hp : p ∈ Table.write d t k v) : p = (k, v) ∨ (p ∈ t ∧ p.1 ≠ k) := by
  rw [Table.sorted_iff] at hs
  unfold Table.write at hp
  split at hp
  · exact .inr ((Table.mem_erase t k hs p).1 hp)
  · exact (Table.mem_insert t k v hs p).1 hp

theorem OneOfScope.write {t : Table Grant} (h : OneOfScope t) (hs : Table.sorted t = true) {n : Nat} {g : Grant}
    (hscope : OnlyAt t n g) :
    OneOfScope (Table.write Grant.free t n g) := by
  intro p hp q hq hplive hqlive hgrantee htarget
  rcases Table.mem_write hs hp with rfl | ⟨hpt, hpn⟩ <;> rcases Table.mem_write hs hq with rfl | ⟨hqt, hqn⟩
  · rfl
  · exact absurd (hscope hplive q hqt hqlive hgrantee.symm htarget.symm) hqn
  · exact absurd (hscope hqlive p hpt hplive hgrantee htarget) hpn
  · exact h p hpt q hqt hplive hqlive hgrantee htarget

theorem GrantsBecome.oneOfScope {t v : Table Grant} (h : GrantsBecome t v) (ht : Table.Canonical Grant.free t)
    (hone : OneOfScope t) : OneOfScope v := by
  induction h with
  | same => exact hone
  | filter t f => exact hone.filter f
  | write t n g hscope => exact hone.write ht.1 (hscope hone)
  | trans hfirst _ ih ih' => exact ih' (hfirst.canonical ht) (ih ht hone)

/-! ### The commands that write grants -/

/-- A scope without a LIVE grant (R129). -/
theorem State.grantOf_eq_none_iff {who : Grantee} {on : Target} :
    s.grantOf who on = none ↔ ∀ q ∈ s.grants, q.2.live = true → q.2.grantee = who → q.2.target ≠ on := by
  simp only [State.grantOf, Option.map_eq_none_iff, List.find?_eq_none, Bool.and_eq_true, decide_eq_true_eq, and_assoc, not_and, ne_eq]

theorem State.exists_of_grantOf {who : Grantee} {on : Target} {n : Nat} (h : s.grantOf who on = some n) :
    ∃ g, (n, g) ∈ s.grants ∧ g.live = true ∧ g.grantee = who ∧ g.target = on := by
  simp only [State.grantOf, Option.map_eq_some_iff] at h
  obtain ⟨⟨m, g⟩, hfind, rfl⟩ := h
  have hmem := List.mem_of_find?_eq_some hfind
  have hp := List.find?_some hfind
  simp only [Bool.and_eq_true, decide_eq_true_eq] at hp
  exact ⟨g, hmem, hp.1.1, hp.1.2, hp.2⟩

theorem grants_setGrant {n : Nat} {g : Grant} (h : OneOfScope s.grants → OnlyAt s.grants n g) :
    GrantsBecome s.grants (s.setGrant n g).grants := .write _ _ _ h

/-- A grant goes to its scope's own place, or to a free one where its scope has none (R129). -/
theorem onlyAt_grantPlace {g : Grant} {n : Nat} (h : s.grantPlace g = some n) (hone : OneOfScope s.grants) :
    OnlyAt s.grants n g := by
  intro _ q hq hlive hgrantee htarget
  unfold State.grantPlace at h
  split at h
  next m hown =>
    cases h
    obtain ⟨g', hmem, hlive', hgrantee', htarget'⟩ := State.exists_of_grantOf hown
    rw [hone q hq _ hmem hlive hlive' (hgrantee.trans hgrantee'.symm) (htarget.trans htarget'.symm)]
  next hnone => exact absurd htarget (State.grantOf_eq_none_iff.1 hnone q hq hlive hgrantee)

theorem grants_grantEntry (e : List Byte) (s : State) : GrantsBecome s.grants (grantEntry e s).2.grants := by
  unfold grantEntry
  split
  · exact .same _
  next g _ =>
    split
    · exact .same _
    next hpass =>
      refine grants_setGrant fun hone => onlyAt_grantPlace ?_ hone
      simp only [grantEntryChecks, firstFail_cons_eq_none, firstFail_append_eq_none] at hpass
      obtain ⟨-, -, hplace, -⟩ := hpass
      cases hp : s.grantPlace g with
      | none => simp [hp] at hplace
      | some n => rfl

theorem grants_grantEntries (es : List (List Byte)) (sts : List Status) (s : State) :
    GrantsBecome s.grants (grantEntries es sts s).2.grants := by
  induction es generalizing sts s with
  | nil => exact .same _
  | cons e es ih => exact (grants_grantEntry e s).trans (ih _ _)

theorem grants_imageWritten {e : ImageEntry} (h : ImageWritten e s u) : GrantsBecome s.grants u.grants := by
  cases h with
  | grant g hnew =>
    exact grants_setGrant fun _ _ q hq hlive hgrantee htarget =>
      absurd htarget (State.grantOf_eq_none_iff.1 hnew q hq hlive hgrantee)
  | _ => exact .of_eq (by simp)

theorem grants_putEntries (es : List (List Byte)) (sts : List Status) :
    GrantsBecome s.grants (putEntries es sts s).2.grants :=
  putEntries_keeps (P := fun v => GrantsBecome s.grants v.grants)
    (fun _ _ v' _ _ hv hr => hv.trans ((grants_imageWritten (applyRecord_written hr)).trans (.same v'.grants))) (fun _ hv => hv) es sts (.same _)

theorem grants_clockTo (t : Nat) (minute : Bool) (s : State) : GrantsBecome s.grants (clockTo t minute s).grants := by
  unfold clockTo
  split
  · simp only [sweepGrants]
    split
    · exact .filter s.grants _
    · exact .same _
  · exact .same _

/-- Every change of a command to the grants. -/
theorem Change.grants {c : Instr} (hchange : Change c s u) : GrantsBecome s.grants u.grants := by
  cases hchange with
  | secondEvent sense => simpa [secondPasses] using grants_clockTo _ _ s
  | clockSet r => simpa [setClock] using grants_clockTo _ _ { s with bck.clockSet := true }
  | clientRetire r => exact .filter _ _
  | retireCollection n => simpa [retireColl, removeAlbumGrants] using GrantsBecome.filter s.grants _
  | grantSet es => exact grants_grantEntries es [] s
  | grantClear n => exact grants_setGrant fun _ hlive => by contradiction
  | tablesInit r => exact .empty _
  | imageImport r => exact .empty _
  | imagePut es whole => simpa using grants_putEntries es []
  | memberAdd n es =>
    exact memberEntries_keeps (fun t => GrantsBecome s.grants t.grants) _ es [] s (.same _) fun m v hv => by simpa using hv
  | memberRemove n es =>
    exact memberEntries_keeps (fun t => GrantsBecome s.grants t.grants) _ es [] s (.same _) fun m v hv => by simpa using hv
  | _ => exact .of_eq (by simp)

end Sys2Proof.Machine
end

section
/-!
PROOFS. Every change of a command keeps the places of the input buffer at most 8 and of different numbers (R5).
-/

namespace Sys2Proof.Machine

variable {s u : State}

/-! ### The numbers of the places in use -/

/-- The numbers of the places in use. -/
def Slc.slots (slc : Slc) : List Nat := slc.places.map Place.slot

/-- At most 8 numbers, all different. -/
def SlotsOk (l : List Nat) : Prop := l.length ≤ Config.inputPlaces ∧ l.Nodup

theorem SlotsOk.sublist {l m : List Nat} (h : SlotsOk l) (hm : m.Sublist l) : SlotsOk m :=
  ⟨hm.length_le.trans h.1, h.2.sublist hm⟩

/-- A change of places that keeps each number keeps the list of numbers. -/
theorem map_slot_map (ps : List Place) (f : Place → Place) (hf : ∀ p, (f p).slot = p.slot) :
    (ps.map f).map Place.slot = ps.map Place.slot := by
  simp [Function.comp_def, hf]

/-- While fewer than 8 places are in use the number of a new one is not in use. -/
theorem Slc.newSlot_notMem (slc : Slc) (h : slc.places.length < Config.inputPlaces) : slc.newSlot ∉ slc.slots := by
  have hfind : ∃ n ∈ List.range Config.inputPlaces, n ∉ slc.slots := by
    by_contra hall
    push Not at hall
    have hle := (List.subperm_of_subset List.nodup_range hall).length_le
    simp [Slc.slots] at hle
    omega
  unfold Slc.newSlot
  cases hslot : (List.range Config.inputPlaces).find? fun n => slc.places.all fun p => decide (p.slot ≠ n) with
  | none =>
    obtain ⟨n, hn, hnew⟩ := hfind
    have hused := List.find?_eq_none.1 hslot n hn
    refine absurd ?_ hused
    simpa [Slc.slots] using hnew
  | some n => simpa [Slc.slots] using List.find?_some hslot

theorem Slc.slots_answer (slc : Slc) (place : Nat) (tag : Byte) (aux : Half) (p : List Byte) :
    (slc.answer place tag aux p).slots = slc.slots :=
  map_slot_map _ _ fun q => by split <;> rfl

theorem slots_answer (r : Request) (st : Status) (rec : List Byte) (s : State) :
    (answer r st rec s).slc.slots = s.slc.slots := Slc.slots_answer _ _ _ _ _

theorem slots_answerPlace (p : Place) (st : Status) (s : State) : (answerPlace p st s).slc.slots = s.slc.slots :=
  Slc.slots_answer _ _ _ _ _

theorem slots_route (p : Place) (body : Body) (s : State) : (route p body s).slc.slots = s.slc.slots := by
  unfold route
  split
  · exact slots_answerPlace _ _ _
  · split
    · exact slots_answerPlace _ _ _
    · exact map_slot_map _ _ fun q => by split <;> rfl

theorem slots_freePlace (slc : Slc) (n : Nat) : (slc.freePlace n).slots.Sublist slc.slots :=
  List.filter_sublist.map _

/-! ### The invariant -/

/-- The input buffer keeps to 8 places of different numbers. -/
def State.PlacesOk (s : State) : Prop := SlotsOk s.slc.slots

theorem placesOk_of_slots (h : s.PlacesOk) (hslots : u.slc.slots = s.slc.slots) : u.PlacesOk := by
  simpa only [State.PlacesOk, hslots] using h

theorem placesOk_of_eq (h : s.PlacesOk) (hplaces : u.slc.places = s.slc.places) : u.PlacesOk :=
  placesOk_of_slots h (congrArg (List.map Place.slot) hplaces)

theorem placesOk_empty (hplaces : u.slc.places = []) : u.PlacesOk := by
  simp [State.PlacesOk, Slc.slots, hplaces, SlotsOk]

theorem placesOk_route (h : s.PlacesOk) (p : Place) (body : Body) : (route p body s).PlacesOk :=
  placesOk_of_slots h (slots_route p body s)

theorem placesOk_answer (h : s.PlacesOk) (r : Request) (st : Status) (rec : List Byte) : (answer r st rec s).PlacesOk :=
  placesOk_of_slots h (slots_answer r st rec s)

/-- A place taken has a number of its own. -/
theorem placesOk_append (h : s.PlacesOk) (hroom : s.slc.places.length < Config.inputPlaces) {p : Place}
    (hslot : p.slot = s.slc.newSlot) : { s with slc.places := s.slc.places ++ [p] }.PlacesOk := by
  have hnew := s.slc.newSlot_notMem hroom
  refine ⟨by simpa [Slc.slots] using Nat.succ_le_of_lt hroom, ?_⟩
  have hnodup : (s.slc.slots ++ [s.slc.newSlot]).Nodup :=
    List.nodup_append.2 ⟨h.2, List.nodup_singleton _, fun a ha b hb => by
      rw [List.mem_singleton.1 hb]
      exact fun hab => hnew (hab ▸ ha)⟩
  simpa [Slc.slots, hslot] using hnodup

theorem placesOk_acceptHeader (h : s.PlacesOk) (hroom : s.slc.places.length < Config.inputPlaces) (kind tag : Byte)
    (aux : Half) (length : Nat) : (acceptHeader kind tag aux length s).PlacesOk := by
  have hplaced := placesOk_append h hroom
    (p := { slot := s.slc.newSlot, kind := kind, tag := tag, aux := aux, length := length, phase := .receiving }) rfl
  simp only [acceptHeader]
  split
  · exact placesOk_of_slots hplaced (slots_answerPlace _ _ _)
  · split
    · exact placesOk_route hplaced _ _
    · exact hplaced

theorem placesOk_headerArrives (h : s.PlacesOk) (header : HeaderArrival) (underHold : Bool) :
    (headerArrives header underHold s).PlacesOk := by
  have hwake : (wakeForHeader s).PlacesOk := placesOk_of_eq h (by simp)
  unfold headerArrives
  split
  · unfold decideHeader
    split
    · exact hwake
    · simp only
      split
      · exact hwake
      next hhold =>
        split
        · exact hwake
        · refine placesOk_acceptHeader hwake ?_ _ _ _ _
          simp only [Bool.or_eq_true, Slc.holdDriven, decide_eq_true_eq, not_or, Nat.not_le] at hhold
          exact hhold.2
  · exact h

theorem placesOk_guarded (h : s.PlacesOk) (checks : List (Bool × Status)) (r : Request) {f : State → State}
    (hf : (f s).PlacesOk) : (guarded checks r f s).PlacesOk := by
  unfold guarded
  split
  · exact placesOk_answer h _ _ _
  · exact hf

theorem placesOk_clientSetRequest (h : s.PlacesOk) (r : Request) : (clientSetRequest r s).PlacesOk := by
  refine placesOk_guarded h _ _ ?_
  simp only [clientSetTaken]
  exact placesOk_answer (placesOk_of_eq h (by simp)) _ _ _

theorem placesOk_takenBetween (h : s.PlacesOk) (n : Nat) : (takenBetween n s).PlacesOk := by
  induction n generalizing s with
  | zero => exact h
  | succ n ih =>
    unfold takenBetween
    split
    next r _ =>
      split
      · exact ih (placesOk_guarded h _ _ (placesOk_answer h _ _ _))
      · split
        · exact ih (placesOk_clientSetRequest h r)
        · exact h
    · exact h

/-- Of the operations on records only the requests taken between two verdicts reach the input buffer. -/
theorem recordKept_placesOk : RecordKept State.PlacesOk where
  streams _ _ h := h
  object _ _ _ h := h
  coll _ _ _ h := h
  pages _ _ h := h
  chunk _ _ _ h := h
  charge _ _ _ _ h := placesOk_of_eq h (by simp)
  refund _ _ _ _ h := placesOk_of_eq h (by simp)
  deferred _ _ _ h := placesOk_of_eq h (by simp)
  release _ _ _ h := placesOk_of_eq h (by simp)
  walk _ _ _ h := h
  extent _ _ _ _ h := h
  check _ h := placesOk_of_eq h (by simp)
  between s n h := placesOk_takenBetween (s := s.spend 1) h n
  plans _ _ h := h

theorem placesOk_linkReset (cause : StartCause) : (linkReset cause s).PlacesOk := by
  refine placesOk_empty ?_
  simp [linkReset, resetLink, Slc.drop]

theorem placesOk_completeStandby (h : s.PlacesOk) : (completeStandby s).PlacesOk := by
  unfold completeStandby
  split
  · exact placesOk_empty rfl
  · exact h

theorem placesOk_bayReport (h : s.PlacesOk) : (bayReport s).PlacesOk := placesOk_completeStandby h

theorem wakeFails_places (s : State) : (wakeFails s).slc.places = [] := by
  simp only [wakeFails, linkDown, Slc.drop]
  split <;> rfl

/-- Every change of a command keeps the input buffer. -/
theorem Change.placesOk {c : Instr} (hchange : Change c s u) (h : s.PlacesOk) : u.PlacesOk := by
  cases hchange with
  | headerReceived header underHold => exact placesOk_headerArrives h _ _
  | packetComplete payload check =>
    unfold completePacket
    split
    · exact h
    · split
      · exact h
      · split
        · exact placesOk_of_slots (s := receiverQuiet s) h (slots_answerPlace _ _ _)
        · exact placesOk_route (s := receiverQuiet s) h _ _
  | packetBreak =>
    unfold breakPacket
    split
    · exact h
    · split
      · exact h
      · exact SlotsOk.sublist h (slots_freePlace _ _)
  | batchComplete payload =>
    unfold completeBatch
    split
    · exact h
    · split
      · exact h
      · split
        · exact placesOk_route (s := receiverQuiet s) h _ _
        · exact h
  | batchBreak received =>
    unfold breakBatch
    split
    · exact h
    · split
      · exact h
      · split
        · exact placesOk_route (by exact h) _ _
        · exact h
  | packetSendEnd =>
    unfold endSending
    split
    · exact h
    · exact SlotsOk.sublist h (slots_freePlace _ _)
    · exact h
  | trainingLost =>
    unfold loseTraining
    split
    · exact placesOk_linkReset _
    · exact h
  | hostReset =>
    unfold resetSignal
    split
    · exact placesOk_linkReset _
    · exact h
  | sleepAck =>
    unfold ackSignal sleepAckReport
    split
    · split
      · exact placesOk_completeStandby (by exact h)
      · exact h
    · exact h
  | streamData r => exact recordKept_placesOk.takePacket h _ _ _
  | streamFinish r =>
    simp only [streamFinishTaken]
    refine placesOk_of_eq (s := { s with slc := s.slc.deferFinish r }) ?_ (by simp)
    exact SlotsOk.sublist h (slots_freePlace _ _)
  | spinDownExpiry bay => exact placesOk_bayReport (by exact h)
  | presenceLoss bay => exact placesOk_bayReport (placesOk_of_eq h (by simp))
  | presenceArrival bay => exact placesOk_bayReport (placesOk_of_eq h (by simp))
  | standbyEntryComplete => exact placesOk_completeStandby h
  | wakeTimerExpiry => exact placesOk_empty (wakeFails_places s)
  | memberAdd n es =>
    exact memberEntries_keeps State.PlacesOk _ es [] s h fun m v hv => recordKept_placesOk.memberAddEntry hv _ _
  | memberRemove n es =>
    exact memberEntries_keeps State.PlacesOk _ es [] s h fun m v hv => recordKept_placesOk.memberRemoveEntry hv _ _
  | tablesInit r => exact placesOk_of_eq h rfl
  | imageImport r => exact placesOk_of_eq h rfl
  | returnPrior r => exact placesOk_of_eq h rfl
  | _ => exact placesOk_of_eq h (by simp)

end Sys2Proof.Machine
end

section
/-!
PROOFS. Every step keeps the record arrays, the sizes and the scopes of grants; and reset meets every invariant (R5, R22, R34,
R117, R129).
-/

namespace Sys2Proof.Machine

variable {s u : State}

/-- Record arrays canonical and sizes within their bounds. -/
structure State.TablesOk (s : State) : Prop where
  records : s.RecordsOk
  grants : Table.Canonical Grant.free s.grants
  places : s.PlacesOk
  release : s.ReleaseOk
  boxTime : s.bck.boxTime ≤ Config.maxTime
  charges : AllClients Client.ChargeOk s.clients

theorem State.tablesOk_iff (s : State) : s.TablesOk ↔ s.TablesSound ∧ s.SizesSound :=
  ⟨fun ⟨⟨hchunks, hobjects, hcolls⟩, hgrants, ⟨hlength, hnodup⟩, hrelease, htime, hcharges⟩ =>
    ⟨⟨hchunks, hobjects, hcolls, hgrants⟩, by simpa [Slc.slots] using hlength, hnodup, hrelease, htime, hcharges⟩,
   fun ⟨⟨hchunks, hobjects, hcolls, hgrants⟩, hlength, hnodup, hrelease, htime, hcharges⟩ =>
    ⟨⟨hchunks, hobjects, hcolls⟩, hgrants, ⟨by simpa [Slc.slots] using hlength, hnodup⟩, hrelease, htime, hcharges⟩⟩

theorem tablesOk_of_eq (h : s.TablesOk) (hchunks : u.chunks = s.chunks) (hoct : u.oct = s.oct) (hgrants : u.grants = s.grants)
    (hslots : u.slc.slots = s.slc.slots) (hrtu : u.rtu = s.rtu) (hbck : u.bck = s.bck) (hclients : u.clients = s.clients) :
    u.TablesOk where
  records := recordsOk_of_eq h.records hchunks (by rw [hoct]) (by rw [hoct])
  grants := hgrants ▸ h.grants
  places := placesOk_of_slots h.places hslots
  release := releaseOk_of_eq h.release (by rw [hrtu])
  boxTime := hbck ▸ h.boxTime
  charges := hclients ▸ h.charges

theorem tablesOk_powerOn (sense : Vector Bool 4) : (State.powerOn sense).TablesOk where
  records := recordsOk_empty rfl rfl rfl
  grants := ⟨rfl, fun _ hp => by contradiction⟩
  places := placesOk_empty rfl
  release := Nat.zero_le _
  boxTime := Nat.zero_le _
  charges c hc := by simpa [State.powerOn, slot, hc] using Client.chargeOk_free 0

theorem Change.tablesOk {c : Instr} (hchange : Change c s u) (h : s.TablesOk) : u.TablesOk where
  records := hchange.recordsOk h.records
  grants := hchange.grants.canonical h.grants
  places := hchange.placesOk h.places
  release := hchange.releaseOk h.release
  boxTime := hchange.boxTime_le h.boxTime
  charges := hchange.chargesOk h.charges

theorem tablesOk_answer (h : s.TablesOk) (r : Request) (st : Status) (rec : List Byte) (n : Nat) :
    (answer r st rec (s.spend n)).TablesOk :=
  tablesOk_of_eq h rfl rfl rfl (slots_answer r st rec (s.spend n)) rfl rfl rfl

theorem tablesOk_settle (h : u.TablesOk) (v : State) : (settle v u).TablesOk :=
  tablesOk_of_eq h (by simp) (by simp) (by simp) (congrArg (List.map Place.slot) (by simp)) (by simp) (by simp) (by simp)

/-- Where the record arrays stay canonical, a property that the grants keep is kept by a step. -/
theorem step_tablesOk {t : State} {P : Table Grant → Prop} (h : step s = .next t) (hs : s.TablesOk) (hgrants : P s.grants)
    (hempty : P []) (hP : ∀ g g', GrantsBecome g g' → Table.Canonical Grant.free g → P g → P g') :
    t.TablesOk ∧ P t.grants :=
  step_keeps (P := fun v => v.TablesOk ∧ P v.grants) h ⟨hs, hgrants⟩
    (fun _ _ hv => ⟨tablesOk_of_eq hv.1 rfl rfl rfl rfl rfl rfl rfl, hv.2⟩)
    (fun _ hv => ⟨tablesOk_of_eq hv.1 rfl rfl rfl rfl rfl rfl rfl, hv.2⟩)
    (fun sense _ _ => ⟨tablesOk_of_eq (tablesOk_powerOn sense) rfl rfl rfl rfl rfl rfl rfl, hempty⟩)
    (fun _ _ _ hu hv => ⟨hu.tablesOk hv.1, hP _ _ hu.grants hv.1.grants hv.2⟩)
    (fun r st rec n _ hu => ⟨tablesOk_answer hu.1 r st rec n, hu.2⟩)
    (fun v u hu => ⟨tablesOk_settle hu.1 v, by simpa using hu.2⟩)

/-- Settles O59: every change of a command keeps each part, and of the scopes where the arrays are canonical. -/
theorem stepKeepsTablesAndSizes : Obligations.StepKeepsTablesAndSizes := by
  intro s t h htables hsizes
  have hs := s.tablesOk_iff.2 ⟨htables, hsizes⟩
  have ht := (step_tablesOk (P := fun _ => True) h hs trivial trivial fun _ _ _ _ _ => trivial).1
  refine ⟨(t.tablesOk_iff.1 ht).1, (t.tablesOk_iff.1 ht).2, fun hone => ?_⟩
  exact (step_tablesOk (P := OneOfScope) h hs hone (fun _ hp => by contradiction)
    fun _ _ hg hcanonical => hg.oneOfScope hcanonical).2

/-- Settles O60: power-on reset with every sense line low. -/
theorem resetMeetsTheInvariants : Obligations.ResetMeetsTheInvariants :=
  have htables := (State.tablesOk_iff _).1 (tablesOk_powerOn (Vector.replicate 4 false))
  ⟨baysOk_powerOn _, (State.standbyOk_iff _).1 (standbyOk_powerOn _), (State.networkSound_iff _).2 ⟨networkOk_powerOn _, fun _ => ⟨rfl, rfl⟩⟩,
    htables.1, htables.2, fun _ hp => by contradiction⟩

end Sys2Proof.Machine
end

section
/-!
PROOFS. The end of a step at the link, the routing of packets and the receiver (R2 to R4, R7, R10 to R12, R17).
-/

namespace Sys2Proof.Machine

variable {s t : State}

/-! ### ATTENTION and entry to ACTIVE, as whole states -/

/-- The outgoing queue with an ATTENTION that waits in it (R17). -/
abbrev attended (q : List OutPacket) : List OutPacket := if .attention ∈ q then q else q ++ [.attention]

theorem placeAttention_eq (slc : Slc) : slc.placeAttention = { slc with outgoing := attended slc.outgoing } := by
  unfold Slc.placeAttention attended
  split <;> rfl

theorem attended_of_mem {q : List OutPacket} (h : .attention ∈ q) : attended q = q := if_pos h

theorem attended_ne_nil (q : List OutPacket) : attended q ≠ [] := by
  unfold attended
  split
  next h => exact List.ne_nil_of_mem h
  · simp

theorem attention_mem_attended (q : List OutPacket) : .attention ∈ attended q := by
  unfold attended
  split <;> simp_all

theorem attended_attended (q : List OutPacket) : attended (attended q) = attended q :=
  attended_of_mem (attention_mem_attended q)

theorem slc_enterActive_eq (slc : Slc) (p : BitVec 11) (b : Bool) :
    slc.enterActive p b =
      { slc with
        link := .active, owed := false
        outgoing := if p ≠ 0#11 ∧ (slc.owed || b) then attended slc.outgoing else slc.outgoing } := by
  simp only [Slc.enterActive, placeAttention_eq]
  split <;> rfl

theorem partWake_eq (s : State) :
    partWake s =
      { s with slc := { s.slc with
          link := .active, owed := false, wakeOut := true
          outgoing :=
            if s.pendingEnabled ≠ 0#11 ∧ s.slc.owed = true then attended s.slc.outgoing else s.slc.outgoing } } := by
  simp [partWake, enterActive, slc_enterActive_eq]

/-! ### The end of a step -/

theorem wakeForPacket_idle (hlink : s.slc.link = .idle) (hsend : s.slc.outgoing ≠ [] ∨ s.nwu.receive ≠ []) :
    wakeForPacket s = partWake s := if_pos ⟨hlink, fun h => hsend.elim (· h.1) (· h.2)⟩

theorem wakeForPacket_rest (h : s.slc.link ≠ .idle ∨ ¬ (s.slc.outgoing ≠ [] ∨ s.nwu.receive ≠ [])) : wakeForPacket s = s :=
  if_neg fun ⟨hlink, hsend⟩ => h.elim (· hlink) fun hno => hsend (by simpa using hno)

theorem noticeChange_none (h : ¬ (s.pendingEnabled = 0#11 ∧ t.pendingEnabled ≠ 0#11)) : noticeChange s t = t := if_neg h

theorem noticeChange_line (h : s.pendingEnabled = 0#11 ∧ t.pendingEnabled ≠ 0#11)
    (hlink : t.slc.link = .active ∨ t.slc.link = .idle) :
    noticeChange s t = { t with slc.outgoing := attended t.slc.outgoing } := by
  unfold noticeChange
  rw [if_pos h, placeAttention_eq]
  split
  · rfl
  · rfl
  next hactive hidle => exact (hlink.elim hactive hidle).elim

theorem noticeChange_owed (h : s.pendingEnabled = 0#11 ∧ t.pendingEnabled ≠ 0#11) (hactive : t.slc.link ≠ .active)
    (hidle : t.slc.link ≠ .idle) : noticeChange s t = { t with slc.owed := true } := by
  unfold noticeChange
  rw [if_pos h]
  cases hlink : t.slc.link <;> simp_all

/-- Settles O3: the notices first, then the line. -/
theorem endOfStepAtTheLink : Obligations.EndOfStepAtTheLink := by
  intro before after
  refine ⟨fun hrise hlink => ?_, fun hrise hlink => ?_, fun hrise hactive hidle => ?_, fun hrise hlink hsend => ?_,
    fun hrise hrest => ?_⟩
  · rw [settle, noticeChange_line hrise (.inl hlink)]
    exact wakeForPacket_rest (.inl (by simp [hlink]))
  · rw [settle, noticeChange_line hrise (.inr hlink), wakeForPacket_idle (by exact hlink) (.inl (attended_ne_nil _)),
      partWake_eq]
    simp only [attended_attended, ite_self]
  · rw [settle, noticeChange_owed hrise hactive hidle]
    exact wakeForPacket_rest (.inl hidle)
  · rw [settle, noticeChange_none hrise, wakeForPacket_idle hlink hsend, partWake_eq]
  · rw [settle, noticeChange_none hrise, wakeForPacket_rest hrest]

/-! ### Kinds and their codes -/

/-- A kind has a code of its own. -/
theorem kindOfCode_iff (b : Byte) (k : Kind) : Kind.ofCode b = some k ↔ k.code = b := by
  constructor
  · intro h
    simpa using List.find?_some h
  · rintro rfl
    cases k <;> rfl

/-- The kinds whose requests are batches, and the sizes of their entries (R4). -/
theorem entrySize_iff (k : Kind) (n : Nat) :
    k.entrySize = some n ↔
      (k = .streamCommit ∨ k = .grantSet) ∧ n = 16 ∨ (k = .memberAdd ∨ k = .memberRemove) ∧ n = 8 ∨
        k = .imagePut ∧ n = 64 := by
  cases k <;> simp [Kind.entrySize, eq_comm]

theorem entrySizeOf_iff (b : Byte) (n : Nat) :
    entrySizeOf b = some n ↔
      (b = 0x22#8 ∨ b = 0x58#8) ∧ n = 16 ∨ (b = 0x42#8 ∨ b = 0x43#8) ∧ n = 8 ∨ b = 0x95#8 ∧ n = 64 := by
  simp only [entrySizeOf, Option.bind_eq_some_iff, kindOfCode_iff, entrySize_iff]
  constructor
  · rintro ⟨k, rfl, (⟨rfl | rfl, rfl⟩ | ⟨rfl | rfl, rfl⟩ | ⟨rfl, rfl⟩)⟩ <;> simp [Kind.code]
  · rintro (⟨rfl | rfl, rfl⟩ | ⟨rfl | rfl, rfl⟩ | ⟨rfl, rfl⟩)
    · exact ⟨.streamCommit, rfl, by simp⟩
    · exact ⟨.grantSet, rfl, by simp⟩
    · exact ⟨.memberAdd, rfl, by simp⟩
    · exact ⟨.memberRemove, rfl, by simp⟩
    · exact ⟨.imagePut, rfl, by simp⟩

theorem isBatch_iff (k : Kind) :
    k.isBatch = true ↔ k ∈ [Kind.streamCommit, .memberAdd, .memberRemove, .grantSet, .imagePut] := by
  cases k <;> decide

theorem showsPower_iff (p : Place) : p.showsPower = true ↔ p.kind = 0x78#8 ∨ p.kind = 0x79#8 := by
  simp only [Place.showsPower, kindOfCode_iff, Bool.or_eq_true, decide_eq_true_eq, Kind.code, eq_comm (b := p.kind)]

theorem entrySizeOf_isSome_iff (b : Byte) : (entrySizeOf b).isSome = true ↔ b ∈ [0x22#8, 0x42#8, 0x43#8, 0x58#8, 0x95#8] := by
  simp only [Option.isSome_iff_exists, entrySizeOf_iff, List.mem_cons, List.not_mem_nil, or_false]
  constructor
  · rintro ⟨n, (⟨h | h, -⟩ | ⟨h | h, -⟩ | ⟨h, -⟩)⟩ <;> simp [h]
  · rintro (rfl | rfl | rfl | rfl | rfl) <;> simp

/-! ### Routing -/

theorem answerPlace_power {p : Place} (h : p.showsPower = true) (st : Status) (s : State) :
    answerPlace p st s = { s with
      slc := s.slc.answer p.slot p.tag p.aux (st.code :: p.kind :: s.powerRecord), free := s.free + 1 } := by
  simp [answerPlace, State.placeRecord, h]

theorem answerPlace_plain {p : Place} (h : p.showsPower = false) (st : Status) (s : State) :
    answerPlace p st s = { s with
      slc := s.slc.answer p.slot p.tag p.aux (st.code :: p.kind :: if (entrySizeOf p.kind).isSome then [0#8, 0#8] else []) } := by
  simp [answerPlace, State.placeRecord, h]

/-- The place of an offered request, and the places before it, which offer nothing to the block (R11). -/
theorem offered_iff (slc : Slc) (b : Block) (r : Request) :
    slc.offered b = some r ↔
      ∃ p before after, slc.places = before ++ p :: after ∧ p.request = some r ∧ r.kind.owner = b
        ∧ ∀ q ∈ before, ∀ r', q.request = some r' → r'.kind.owner ≠ b := by
  simp only [Slc.offered, List.find?_filterMap, Option.bind_eq_some_iff, List.find?_eq_some_iff_append]
  constructor
  · rintro ⟨p, ⟨hp, before, after, hplaces, hbefore⟩, hr⟩
    refine ⟨p, before, after, hplaces, hr, by simpa [hr] using hp, fun q hq r' hr' => ?_⟩
    simpa [hr'] using hbefore q hq
  · rintro ⟨p, before, after, hplaces, hr, howner, hbefore⟩
    refine ⟨p, ⟨by simpa [hr] using howner, before, after, hplaces, fun q hq => ?_⟩, hr⟩
    cases hr' : q.request with
    | none => rfl
    | some r' => simpa using hbefore q hq r' hr'

theorem placeRequest_iff (p : Place) (r : Request) :
    p.request = some r ↔ p.phase = .waiting r.body ∧ Kind.ofCode p.kind = some r.kind ∧ p.slot = r.slot ∧ p.tag = r.tag
      ∧ p.aux = r.aux := by
  unfold Place.request
  split
  next body k hphase hkind =>
    rw [hphase, hkind]
    constructor
    · rintro ⟨⟩
      simp
    · rintro ⟨hbody, hk, hslot, htag, haux⟩
      cases r
      simp_all
  next hnone =>
    refine ⟨fun h => by contradiction, fun ⟨hphase, hkind, _⟩ => (hnone _ _ hphase hkind).elim⟩

/-- Settles O5. -/
theorem routingOfACompletePacket : Obligations.RoutingOfACompletePacket := by
  refine ⟨fun s p body => ⟨fun st => ⟨fun hkind => ?_, fun hkind => ?_, fun hkind => ?_⟩, fun hkind => ?_,
    fun k hkind hacked hk => ?_, fun k hkind hpass => ?_⟩, fun s r st record => ⟨rfl, fun hbatch => ?_, fun hbatch => ?_⟩,
    fun s b r => ?_, by decide, by decide, kindOfCode_iff, entrySizeOf_iff⟩
  · exact answerPlace_power ((showsPower_iff p).2 hkind) st s
  · have hplain : p.showsPower = false := by
      rw [← Bool.not_eq_true, showsPower_iff]
      simp only [List.mem_cons, List.not_mem_nil, or_false] at hkind
      rcases hkind with h | h | h | h | h <;> simp [h]
    rw [answerPlace_plain hplain, if_pos ((entrySizeOf_isSome_iff p.kind).2 hkind)]
    rfl
  · have hplain : p.showsPower = false := by
      rw [← Bool.not_eq_true, showsPower_iff]
      simp_all
    have hsize : ¬ (entrySizeOf p.kind).isSome = true := by
      rw [entrySizeOf_isSome_iff]
      simp_all
    rw [answerPlace_plain hplain, if_neg hsize]
    rfl
  · simp only [route, hkind]
  · simp only [route, hkind]
    exact if_pos ⟨hacked, hk⟩
  · simp only [route, hkind]
    exact if_neg fun ⟨hacked, hk⟩ => hpass.elim (by simp [hacked]) hk
  · rw [refuse, if_pos ((isBatch_iff r.kind).2 hbatch)]
    rfl
  · rw [refuse, if_neg (mt (isBatch_iff r.kind).1 hbatch)]
    rfl
  · rw [offered_iff]
    constructor
    · rintro ⟨p, before, after, hplaces, hr, howner, hbefore⟩
      obtain ⟨hphase, hkind, hslot, htag, haux⟩ := (placeRequest_iff p r).1 hr
      refine ⟨before, p, after, hplaces, hphase, hkind, howner, hslot, htag, haux, fun q hq body k hq' hk => ?_⟩
      exact hbefore q hq { slot := q.slot, kind := k, tag := q.tag, aux := q.aux, body := body }
        ((placeRequest_iff _ _).2 ⟨hq', hk, rfl, rfl, rfl⟩)
    · rintro ⟨before, p, after, hplaces, hphase, hkind, howner, hslot, htag, haux, hbefore⟩
      refine ⟨p, before, after, hplaces, (placeRequest_iff p r).2 ⟨hphase, hkind, hslot, htag, haux⟩, howner,
        fun q hq r' hr' => ?_⟩
      obtain ⟨hphase', hkind', -⟩ := (placeRequest_iff q r').1 hr'
      exact hbefore q hq _ _ hphase' hkind'

end Sys2Proof.Machine
end

section
/-!
PROOFS. Byte fields: what is read at an offset of bytes put one after the other; the packets of the part on the line (R1,
Table 1.1).
-/

namespace Sys2Proof.Machine

/-! ### Numbers in bytes -/

/-- `k` bytes hold a number up to 256 to the `k`. -/
@[simp] theorem ofLe_le (k n : Nat) : ofLe (le k n) = n % 256 ^ k := by
  induction k generalizing n with
  | zero => simp [le, ofLe, Nat.mod_one]
  | succ k ih =>
    have hpow : 256 ^ (k + 1) = 256 * 256 ^ k := Nat.pow_succ'
    rw [le, ofLe, ih, BitVec.toNat_ofNat, hpow]
    exact (Nat.mod_mul (a := 256) (b := 256 ^ k)).symm

@[simp] theorem ofLe_singleton (b : Byte) : ofLe [b] = b.toNat := by simp [ofLe]

theorem ofLe_le_of_lt {k n : Nat} (h : n < 256 ^ k) : ofLe (le k n) = n := by rw [ofLe_le, Nat.mod_eq_of_lt h]

/-! ### Slices -/

section
variable {a b p : List Byte} {off len : Nat}

@[simp] theorem slice_length (p : List Byte) (off len : Nat) : (slice p off len).length = min len (p.length - off) := by
  simp [slice]

/-- What stands before the offset is passed over. -/
@[simp] theorem slice_append_skip (h : a.length ≤ off) : slice (a ++ b) off len = slice b (off - a.length) len := by
  simp [slice, List.drop_append, List.drop_eq_nil_of_le h]

/-- What stands at the start is read where it has the length. -/
@[simp] theorem slice_append_self (h : a.length = len) : slice (a ++ b) 0 len = a := by simp [slice, ← h]

@[simp] theorem slice_self (h : a.length = len) : slice a 0 len = a := by simp [slice, ← h]

/-- A slice that ends before the later bytes. -/
theorem slice_append_left (h : off + len ≤ a.length) : slice (a ++ b) off len = slice a off len := by
  have hdrop : off ≤ a.length := by omega
  rw [slice, List.drop_append_of_le_length hdrop, List.take_append_of_le_length (by simp; omega), slice]

@[simp] theorem slice_cons_skip (x : Byte) (h : 0 < off) : slice (x :: b) off len = slice b (off - 1) len := by
  obtain ⟨k, rfl⟩ := Nat.exists_eq_add_of_lt h
  simp [slice]

@[simp] theorem slice_cons_zero (x : Byte) : slice (x :: b) 0 1 = [x] := by simp [slice]

@[simp] theorem field_append_skip (h : a.length ≤ off) : field (a ++ b) off len = field b (off - a.length) len := by
  rw [field, slice_append_skip h, field]

@[simp] theorem field_append_self (h : a.length = len) : field (a ++ b) 0 len = ofLe a := by rw [field, slice_append_self h]

theorem field_append_left (h : off + len ≤ a.length) : field (a ++ b) off len = field a off len := by
  rw [field, slice_append_left h, field]

@[simp] theorem field_self (h : a.length = len) : field a 0 len = ofLe a := by rw [field, slice_self h]

@[simp] theorem field_cons_skip (x : Byte) (h : 0 < off) : field (x :: b) off len = field b (off - 1) len := by
  rw [field, slice_cons_skip x h, field]

@[simp] theorem field_cons_zero (x : Byte) : field (x :: b) 0 1 = x.toNat := by rw [field, slice_cons_zero, ofLe_singleton]

end

/-! ### Packets on the line -/

/-- The 6 bytes of a header before its check. -/
theorem headerBytes_eq (kind tag : Byte) (aux : Half) (length : Nat) :
    ∃ h : List Byte, h = kind :: tag :: (le 2 aux.toNat ++ le 2 length) ∧ h.length = 6
      ∧ headerBytes kind tag aux length = h ++ checkBytes (crc16 h) := ⟨_, rfl, rfl, rfl⟩

@[simp] theorem headerBytes_length (kind tag : Byte) (aux : Half) (length : Nat) :
    (headerBytes kind tag aux length).length = 8 := rfl

@[simp] theorem checkBytes_length (c : Half) : (checkBytes c).length = 2 := rfl

theorem ofLe_checkBytes (c : Half) : ofLe (checkBytes c) = c.toNat := ofLe_le_of_lt (k := 2) c.isLt

/-- The header of a packet reads back by the receiver's own fields, whatever follows it. -/
theorem headerBytes_readBack (kind tag : Byte) (aux : Half) (length : Nat) (hlength : length < 65536) (rest : List Byte) :
    let line := headerBytes kind tag aux length ++ rest
    line.getD 0 0 = kind ∧ line.getD 1 0 = tag ∧ field line 2 2 = aux.toNat ∧ field line 4 2 = length
      ∧ field line 6 2 = (crc16 (line.take 6)).toNat := by
  obtain ⟨h, hfields, hlen, hline⟩ := headerBytes_eq kind tag aux length
  have haux : ofLe (le 2 aux.toNat) = aux.toNat := ofLe_le_of_lt aux.isLt
  have hlength' : ofLe (le 2 length) = length := ofLe_le_of_lt hlength
  have hbody (off : Nat) (hoff : off + 2 ≤ 6) :
      field (headerBytes kind tag aux length ++ rest) off 2 = field h off 2 := by
    rw [field_append_left (by simp; omega), hline, field_append_left (by omega)]
  refine ⟨rfl, rfl, ?_, ?_, ?_⟩
  · rw [hbody 2 (by omega), hfields, ← haux]
    simp
  · rw [hbody 4 (by omega), hfields, ← hlength']
    simp
  · rw [field_append_left (by simp), hline, List.append_assoc, List.take_left' hlen, field_append_skip hlen.le, hlen]
    rw [Nat.sub_self, field_self (checkBytes_length _), ofLe_checkBytes]

/-- Settles O10: each field is passed over or read, the checks by the bytes they stand over. -/
theorem packetBytesReadBack : Obligations.PacketBytesReadBack := by
  refine ⟨fun kind tag aux payload hlength => ?_, fun _ _ _ _ => rfl, fun _ _ => rfl, rfl, rfl, ?_⟩
  · obtain ⟨hkind, htag, haux, hlen, hcheck⟩ :=
      headerBytes_readBack kind tag aux payload.length hlength (payload ++ checkBytes (crc16 payload))
    have hline : longPacket kind tag aux payload =
        headerBytes kind tag aux payload.length ++ (payload ++ checkBytes (crc16 payload)) := List.append_assoc _ _ _
    rw [hline]
    refine ⟨by simp; omega, hkind, htag, haux, hlen, hcheck, ?_, ?_⟩
    · rw [slice_append_skip (by simp), headerBytes_length, Nat.sub_self, slice_append_self rfl]
    · rw [field_append_skip (by simp), headerBytes_length, Nat.add_sub_cancel_left, field_append_skip (Nat.le_refl _),
        Nat.sub_self, field_self (checkBytes_length _), ofLe_checkBytes]
  · have hcheck := (headerBytes_readBack 0xF1#8 0#8 0#16 0 (by decide) []).2.2.2.2
    simpa [OutPacket.bytes] using hcheck

end Sys2Proof.Machine
end

section
/-!
PROOFS. The receiver and the transmitter: headers, packets, batches, and the packets sent (R2 to R5, R7, R14).
-/

namespace Sys2Proof.Machine

variable {s t : State}

/-- A command that is an event ends in its change of the state. -/
theorem ends_of_event {i : Instr} {f : State → State} (hi : exec i s = event f s) (ht : f s.quiet = t) : Ends i s t := by
  subst ht
  exact hi

/-! ### Headers -/

theorem countUp_eq {n : Nat} (h : n ≤ 65535) : countUp n = min 65535 (n + 1) := by
  unfold countUp
  split <;> omega

theorem carries_iff (slc : Slc) : slc.carries = true ↔ slc.link = .active ∨ slc.link = .idle := by simp [Slc.carries]

theorem not_carries {slc : Slc} (h : slc.link = .down ∨ slc.link = .training ∨ slc.link = .sleep) :
    slc.carries = false := by
  rcases h with h | h | h <;> simp [Slc.carries, h]

/-- A link that carries packets is ACTIVE, or IDLE and woken for the header (R7). -/
theorem wakeForHeader_eq (s : State) :
    wakeForHeader s =
      if s.slc.link = .idle then
        { s with slc := { s.slc with
          link := .active, owed := false
          outgoing := if s.pendingEnabled ≠ 0#11 ∧ s.slc.owed = true then attended s.slc.outgoing else s.slc.outgoing } }
      else s := by
  simp [wakeForHeader, enterActive, slc_enterActive_eq]

theorem headerReceived_ends (hquiet : s.slc.receiver = .quiet) (hlink : s.slc.link = .active ∨ s.slc.link = .idle)
    (header : HeaderArrival) (held : Bool) (ht : decideHeader header held (wakeForHeader s.quiet) = t) :
    Ends (.headerReceived header held) s t :=
  ends_of_event rfl (by rw [headerArrives, if_pos ⟨(carries_iff _).2 hlink, hquiet⟩, ht])

theorem headerReceived_ignored (h : ¬ (s.slc.carries = true ∧ s.slc.receiver = .quiet)) (header : HeaderArrival)
    (held : Bool) : Ends (.headerReceived header held) s s.quiet :=
  ends_of_event rfl (if_neg h)

theorem decideHeader_rejects (v : Vector Byte 8) (held : Bool) (h : held = true ∨ 8 ≤ s.slc.places.length) :
    decideHeader (.whole v) held s = rejectHeader s := by
  have hheld : (held || s.slc.holdDriven) = true := by simpa [Slc.holdDriven, Config.inputPlaces] using h
  simp [decideHeader, hheld]

theorem decideHeader_badCheck (v : Vector Byte 8) (hroom : s.slc.places.length < 8)
    (h : field v.toList 6 2 ≠ (crc16 (v.toList.take 6)).toNat) : decideHeader (.whole v) false s = rejectHeader s := by
  have hhold : s.slc.holdDriven = false := by simpa [Slc.holdDriven, Config.inputPlaces] using hroom
  simp [decideHeader, hhold, h]

theorem decideHeader_accepts {v : Vector Byte 8} {kind tag : Byte} {aux : Half} {len : Nat}
    (hv : v.toList = headerBytes kind tag aux len) (hlen : len < 65536) (hroom : s.slc.places.length < 8) :
    decideHeader (.whole v) false s = acceptHeader kind tag aux len s := by
  have hhold : s.slc.holdDriven = false := by simpa [Slc.holdDriven, Config.inputPlaces] using hroom
  have hread := headerBytes_readBack kind tag aux len hlen []
  rw [List.append_nil] at hread
  obtain ⟨hkind, htag, haux, hlength, hcheck⟩ := hread
  simp only [decideHeader, hhold, hv, hkind, htag, haux, hlength, hcheck, Bool.or_self, Bool.false_eq_true, if_false, ne_eq,
    not_true_eq_false, BitVec.ofNat_toNat, BitVec.setWidth_eq]

theorem wakeForHeader_awake (hlink : s.slc.link = .active ∨ s.slc.link = .idle) :
    wakeForHeader s =
      if s.slc.link = .active then s
      else
        { s with slc := { s.slc with
          link := .active, owed := false
          outgoing :=
            if s.pendingEnabled ≠ 0#11 ∧ s.slc.owed = true then attended s.slc.outgoing else s.slc.outgoing } } := by
  rw [wakeForHeader_eq]
  rcases hlink with hlink | hlink
  · rw [if_neg (by simp [hlink]), if_pos hlink]
  · have hactive : s.slc.link ≠ .active := by simp [hlink]
    rw [if_pos hlink, if_neg hactive]

@[simp] theorem wakeForHeader_places (s : State) : (wakeForHeader s).slc.places = s.slc.places := by simp

/-- A header accepted in a place whose number no other place has (R2). -/
theorem acceptHeader_cases (kind tag : Byte) (aux : Half) (len : Nat) (s : State) :
    let p : Place := { slot := s.slc.newSlot, kind := kind, tag := tag, aux := aux, length := len, phase := .receiving }
    let placed := { s with slc.places := s.slc.places ++ [p] }
    (16384 < len → acceptHeader kind tag aux len s = answerPlace p .badPacket { placed with slc.receiver := .discarding })
      ∧ (len = 0 → acceptHeader kind tag aux len s = route p (emptyBody kind) placed)
      ∧ (1 ≤ len → len ≤ 16384 → acceptHeader kind tag aux len s = { placed with slc.receiver := .payload p.slot }) := by
  refine ⟨fun hlong => ?_, fun hzero => ?_, fun hpos hle => ?_⟩
  · simp only [acceptHeader]
    rw [if_pos (by exact hlong)]
  · subst hzero
    simp only [acceptHeader]
    rw [if_neg (by decide), if_pos True.intro]
  · simp only [acceptHeader]
    rw [if_neg (by simp only [Config.maxPayload]; omega), if_neg (by omega)]

/-- Settles O6: the place taken has the model's own new number. -/
theorem headerReception : Obligations.HeaderReception := by
  refine ⟨fun s => ⟨fun h held hlink => ?_, fun hdiscard => ⟨fun h held => ?_, ?_⟩⟩, fun s hquiet hlink => ?_⟩
  · exact headerReceived_ignored (by simp [not_carries hlink]) h held
  · exact headerReceived_ignored (by simp [hdiscard]) h held
  · exact ends_of_event rfl (if_pos hdiscard)
  · intro attended awake counted
    have hawake : wakeForHeader s.quiet = awake := wakeForHeader_awake (s := s.quiet) hlink
    have hplaces : awake.slc.places = s.slc.places := by rw [← hawake]; simp
    have herrors : awake.slc.linkErrors = s.slc.linkErrors := by rw [← hawake]; simp
    have hcounted (hle : s.slc.linkErrors ≤ 65535) :
        { awake with slc.linkErrors := countUp awake.slc.linkErrors } = counted := by rw [herrors, countUp_eq hle]
    have hrejected (hle : s.slc.linkErrors ≤ 65535) :
        rejectHeader awake = { counted with slc.receiver := .discarding } := by rw [← hcounted hle]; rfl
    refine ⟨fun hle held => ?_, fun hle v held h => ?_, fun hle v hroom hcheck => ?_,
      fun v kind tag aux len hv hlen hroom => ?_⟩
    · exact headerReceived_ends hquiet hlink _ _ (by rw [hawake, ← hcounted hle]; rfl)
    · exact headerReceived_ends hquiet hlink _ _
        (by rw [hawake, decideHeader_rejects v held (by rwa [hplaces]), hrejected hle])
    · exact headerReceived_ends hquiet hlink _ _
        (by rw [hawake, decideHeader_badCheck v (by rwa [hplaces]) hcheck, hrejected hle])
    · have haccept : decideHeader (.whole v) false (wakeForHeader s.quiet) = acceptHeader kind tag aux len awake := by
        rw [hawake, decideHeader_accepts hv hlen (by rwa [hplaces])]
      have hnew := awake.slc.newSlot_notMem (by rw [hplaces]; exact hroom)
      rw [Slc.slots, hplaces] at hnew
      obtain ⟨hlong, hzero, hpayload⟩ := acceptHeader_cases kind tag aux len awake
      simp only [hplaces] at hlong hzero hpayload
      refine ⟨awake.slc.newSlot, fun q hq hslot => hnew (hslot ▸ List.mem_map_of_mem hq), fun h => ?_, fun h => ?_,
        fun h h' => ?_⟩
      · exact headerReceived_ends hquiet hlink _ _ (by rw [haccept, hlong h])
      · exact headerReceived_ends hquiet hlink _ _ (by rw [haccept, hzero h])
      · exact headerReceived_ends hquiet hlink _ _ (by rw [haccept, hpayload h h'])

/-! ### Packets -/

theorem receivingPlace_eq {n : Nat} {p : Place} (hreceiver : s.slc.receiver = .payload n) (hplace : s.slc.place n = some p) :
    s.slc.receivingPlace = some p := by
  simp only [Slc.receivingPlace, hreceiver, hplace]

theorem completePacket_ends {n : Nat} {p : Place} {payload : List Byte} {check : Half}
    (hreceiver : s.slc.receiver = .payload n) (hplace : s.slc.place n = some p) (hsize : entrySizeOf p.kind = none)
    (hlink : s.slc.link = .active ∨ s.slc.link = .idle) (hlen : payload.length = p.length)
    (ht : (if (Kind.ofCode p.kind).isSome ∧ crc16 payload ≠ check then answerPlace p .badPacket (receiverQuiet s.quiet)
      else route p (.plain payload) (receiverQuiet s.quiet)) = t) : Ends (.packetComplete payload check) s t := by
  refine ends_of_event rfl ?_
  have hp : s.quiet.slc.receivingPlace = some p := receivingPlace_eq hreceiver hplace
  have hgood : s.quiet.slc.carries = true ∧ payload.length = p.length ∧ (entrySizeOf p.kind).isNone = true :=
    ⟨(carries_iff _).2 hlink, hlen, by rw [hsize]; rfl⟩
  rw [completePacket, hp]
  simp only
  rw [if_neg (not_not.2 hgood), ht]

/-- Settles O7. -/
theorem packetReception : Obligations.PacketReception := by
  intro s n p hreceiver hplace hsize quiet
  refine ⟨fun payload check hlink hlen => ⟨fun hkind => ?_, fun hkind hcheck => ?_, fun hkind hcheck => ?_⟩, fun hle => ?_⟩
  · refine completePacket_ends hreceiver hplace hsize hlink hlen ?_
    rw [if_neg (by simp [hkind]), route, hkind]
    rfl
  · exact completePacket_ends hreceiver hplace hsize hlink hlen (if_pos ⟨hkind, hcheck⟩)
  · exact completePacket_ends hreceiver hplace hsize hlink hlen (if_neg fun h => h.2 hcheck)
  · refine ends_of_event rfl ?_
    have hp : s.quiet.slc.receivingPlace = some p := receivingPlace_eq hreceiver hplace
    rw [breakPacket, hp]
    simp only [hsize, Option.isSome_none, Bool.false_eq_true, if_false]
    rw [← countUp_eq hle]
    rfl

/-! ### Batches -/

/-- Nothing after a bad or incomplete entry is an entry (R4). -/
theorem goodEntries_tail {size : Nat} (hsize : 2 ≤ size) {tail : List Byte}
    (htail : tail.length < size ∨ field tail (size - 2) 2 ≠ (crc16 (tail.take (size - 2))).toNat) (fuel : Nat) :
    goodEntries size fuel tail = [] := by
  cases fuel with
  | zero => rfl
  | succ fuel =>
    rw [goodEntries]
    refine if_neg fun ⟨hlen, hcheck⟩ => ?_
    have hwhole : size ≤ tail.length := by
      rw [List.length_take] at hlen
      omega
    refine htail.elim (fun h => by omega) fun h => h ?_
    rw [List.take_take, Nat.min_eq_left (by omega)] at hcheck
    have htake : (tail.take size).length = size := List.length_take_of_le hwhole
    rw [← hcheck]
    conv_lhs => rw [← List.take_append_drop size tail]
    exact field_append_left (by omega)

/-- The good entries at the front are taken, in order (R4). -/
theorem goodEntries_eq {size : Nat} (hsize : 2 ≤ size) {bodies : List (List Byte)}
    (hbodies : ∀ b ∈ bodies, b.length = size - 2) {tail : List Byte}
    (htail : tail.length < size ∨ field tail (size - 2) 2 ≠ (crc16 (tail.take (size - 2))).toNat)
    {fuel : Nat} (hfuel : bodies.length ≤ fuel) :
    goodEntries size fuel ((bodies.map fun b => b ++ checkBytes (crc16 b)).flatten ++ tail) =
      bodies.map fun b => b ++ checkBytes (crc16 b) := by
  induction bodies generalizing fuel with
  | nil => exact goodEntries_tail hsize htail fuel
  | cons b bodies ih =>
    obtain ⟨fuel, rfl⟩ : ∃ k, fuel = k + 1 := ⟨fuel - 1, by simp at hfuel; omega⟩
    have hb : b.length = size - 2 := hbodies b (by simp)
    have hentry : (b ++ checkBytes (crc16 b)).length = size := by simp [hb]; omega
    have hcheck : field (b ++ checkBytes (crc16 b)) (size - 2) 2 = (crc16 b).toNat := by
      rw [field_append_skip hb.le, hb, Nat.sub_self, field_self (checkBytes_length _), ofLe_checkBytes]
    simp only [List.map_cons, List.flatten_cons, List.append_assoc _ _ tail]
    rw [goodEntries]
    simp only [List.take_left' hentry, List.drop_left' hentry, List.take_left' hb]
    rw [if_pos ⟨hentry, hcheck⟩, ih (fun b' hb' => hbodies b' (by simp [hb'])) (by simpa using hfuel)]

theorem flatten_entries_length {size : Nat} (hsize : 2 ≤ size) {bodies : List (List Byte)}
    (hbodies : ∀ b ∈ bodies, b.length = size - 2) :
    (bodies.map fun b => b ++ checkBytes (crc16 b)).flatten.length = bodies.length * size := by
  induction bodies with
  | nil => simp
  | cons b bodies ih =>
    have hb : b.length = size - 2 := hbodies b (by simp)
    simp only [List.map_cons, List.flatten_cons, List.length_append, ih fun b' hb' => hbodies b' (by simp [hb']), hb,
      checkBytes_length, List.length_cons, Nat.succ_mul]
    omega

/-- The body of a batch of good entries and a tail that is none: whole where nothing follows the entries. -/
theorem batchBody_eq {size : Nat} (hsize : 2 ≤ size) {bodies : List (List Byte)}
    (hbodies : ∀ b ∈ bodies, b.length = size - 2) {tail : List Byte}
    (htail : tail.length < size ∨ field tail (size - 2) 2 ≠ (crc16 (tail.take (size - 2))).toNat)
    (complete : Bool) :
    batchBody size ((bodies.map fun b => b ++ checkBytes (crc16 b)).flatten ++ tail) complete =
      .batch (bodies.map fun b => b ++ checkBytes (crc16 b)) (complete && decide (tail = [])) := by
  have hlength := flatten_entries_length hsize hbodies
  have hfuel : bodies.length ≤ ((bodies.map fun b => b ++ checkBytes (crc16 b)).flatten ++ tail).length := by
    rw [List.length_append, hlength]
    exact (Nat.le_mul_of_pos_right _ (by omega)).trans (Nat.le_add_right _ _)
  have hwhole : bodies.length * size = bodies.length * size + tail.length ↔ tail = [] := by
    rw [← List.length_eq_zero_iff]
    omega
  simp only [batchBody]
  rw [goodEntries_eq hsize hbodies htail hfuel]
  simp only [List.length_append, List.length_map, hlength, hwhole]

theorem two_le_of_entrySizeOf {b : Byte} {size : Nat} (h : entrySizeOf b = some size) : 2 ≤ size := by
  rcases (entrySizeOf_iff b size).1 h with ⟨-, rfl⟩ | ⟨-, rfl⟩ | ⟨-, rfl⟩ <;> decide

/-- Settles O8. -/
theorem batchReception : Obligations.BatchReception := by
  intro s n size p bodies tail hreceiver hplace hsize hbodies htail entries bytes quiet
  have hp : s.quiet.slc.receivingPlace = some p := receivingPlace_eq hreceiver hplace
  have hbody (complete : Bool) : batchBody size bytes complete = .batch entries (complete && decide (tail = [])) :=
    batchBody_eq (two_le_of_entrySizeOf hsize) hbodies htail complete
  refine ⟨fun hlink hlen => ends_of_event rfl ?_, fun hle hlen => ends_of_event rfl ?_⟩
  · rw [completeBatch, hp]
    simp only [hsize]
    rw [if_pos ⟨(carries_iff _).2 hlink, hlen⟩, hbody true, Bool.true_and]
    rfl
  · rw [breakBatch, hp]
    simp only [hsize]
    rw [if_pos hlen, hbody false, Bool.false_and, ← countUp_eq hle]
    rfl

/-! ### The transmitter -/

theorem transmit_active (hsending : s.slc.sending = none) (hlink : s.slc.link = .active) : transmit s = startSending s := by
  simp only [transmit, hsending, hlink, if_true]

theorem transmit_idle (hsending : s.slc.sending = none) (hlink : s.slc.link = .idle) :
    transmit s = if s.slc.outgoing = [] ∧ s.nwu.receive = [] then s else startSending (partWake s) := by
  simp only [transmit, hsending, hlink, if_true]

theorem transmit_rest (h : s.slc.sending ≠ none ∨ s.slc.link = .down ∨ s.slc.link = .training ∨ s.slc.link = .sleep) :
    transmit s = s := by
  unfold transmit
  split
  next hsending =>
    rcases h with h | h | h | h
    · exact absurd hsending h
    all_goals rw [h]
  · rfl

theorem startSending_packet {p : OutPacket} {rest : List OutPacket} (h : s.slc.outgoing = p :: rest) :
    startSending s = { s with slc.outgoing := rest, slc.sending := some p } := by
  simp only [startSending, h]

theorem startSending_frameIn {f : RxFrame} {rest : List RxFrame} (h : s.slc.outgoing = [])
    (hreceive : s.nwu.receive = f :: rest) :
    startSending s = { s with nwu.receive := rest, slc.sending := some (.frameIn f.lost f.bytes) } := by
  simp only [startSending, h, hreceive]

theorem startSending_nothing (h : s.slc.outgoing = []) (hreceive : s.nwu.receive = []) : startSending s = s := by
  simp only [startSending, h, hreceive]

/-- The outgoing queue after the part's own WAKE: an owed ATTENTION joins it unless one waits there (R17). -/
theorem wake_outgoing (s : State) :
    (partWake s).slc.outgoing =
      if .attention ∈ s.slc.outgoing ∨ s.pendingEnabled = 0#11 ∨ s.slc.owed = false then s.slc.outgoing
      else s.slc.outgoing ++ [.attention] := by
  rw [partWake_eq]
  unfold attended
  by_cases hmem : OutPacket.attention ∈ s.slc.outgoing <;> by_cases hpending : s.pendingEnabled = 0#11 <;>
    cases howed : s.slc.owed <;> simp [hmem, hpending]

/-- The state at which the part, woken from IDLE, has taken a packet of the queue. -/
theorem transmitPacket_woken {q : List OutPacket} (hsending : s.slc.sending = none) (hlink : s.slc.link = .idle)
    (hsend : s.slc.outgoing ≠ [] ∨ s.nwu.receive ≠ []) (hq : (partWake s).slc.outgoing = q)
    (ht : startSending { s with slc := { s.slc with link := .active, owed := false, wakeOut := true, outgoing := q } } = t) :
    Ends .transmitPacket s t := by
  refine ends_of_event rfl ?_
  rw [transmit_idle (s := s.quiet) hsending hlink, if_neg fun h => hsend.elim (· h.1) (· h.2), ← ht, ← hq,
    partWake_eq s, partWake_eq s.quiet]
  rfl

theorem packetSendEnd_other {p : OutPacket} (h : s.slc.sending = some p)
    (hp : ∀ n tag aux payload, p ≠ .response (some n) tag aux payload) :
    Ends .packetSendEnd s { s.quiet with slc.sending := none } := by
  refine ends_of_event rfl ?_
  unfold endSending
  split
  next hnone => exact absurd (hnone.symm.trans h) (by simp)
  next n tag aux payload hresponse =>
    have heq : some (OutPacket.response (some n) tag aux payload) = some p := hresponse.symm.trans h
    exact absurd (Option.some.inj heq).symm (hp _ _ _ _)
  · rfl

/-- Settles O9. -/
theorem packetTransmission : Obligations.PacketTransmission := by
  intro s
  refine ⟨fun hsending hlink => ⟨fun p rest hout => ?_, fun f rest hout hreceive => ?_, fun hout hreceive => ?_⟩,
    fun hsending hlink => ?_, fun h => ends_of_event rfl (transmit_rest (s := s.quiet) h), fun h => ?_,
    fun n tag aux payload h => ?_, fun tag aux payload h => ?_, fun h => ?_, fun lost frame h => ?_⟩
  · refine ends_of_event rfl ?_
    rw [transmit_active (s := s.quiet) hsending hlink, startSending_packet (s := s.quiet) hout]
  · refine ends_of_event rfl ?_
    rw [transmit_active (s := s.quiet) hsending hlink, startSending_frameIn (s := s.quiet) hout hreceive]
  · refine ends_of_event rfl ?_
    rw [transmit_active (s := s.quiet) hsending hlink, startSending_nothing (s := s.quiet) hout hreceive]
  · intro attended awake
    have hq : (partWake s).slc.outgoing = attended := wake_outgoing s
    refine ⟨fun p rest hout hattended => ?_, fun hout hreceive hattended => ?_, fun f rest hout hreceive hattended => ?_,
      fun hout hreceive => ?_⟩
    · exact transmitPacket_woken hsending hlink (.inl hout) hq (startSending_packet hattended)
    · exact transmitPacket_woken hsending hlink (.inr hreceive) hq (startSending_packet hattended)
    · refine transmitPacket_woken hsending hlink (.inr (by simp [hreceive])) hq ?_
      rw [startSending_frameIn (by exact hattended) (by exact hreceive)]
    · refine ends_of_event rfl ?_
      rw [transmit_idle (s := s.quiet) hsending hlink]
      exact if_pos ⟨hout, hreceive⟩
  · refine ends_of_event rfl ?_
    have hnone : s.quiet.slc.sending = none := h
    simp only [endSending, hnone]
  · refine ends_of_event rfl ?_
    have hresponse : s.quiet.slc.sending = some (.response (some n) tag aux payload) := h
    simp only [endSending, hresponse]
    rfl
  · exact packetSendEnd_other h fun _ _ _ _ => by simp
  · exact packetSendEnd_other h fun _ _ _ _ => by simp
  · exact packetSendEnd_other h fun _ _ _ _ => by simp

end Sys2Proof.Machine
end

section
/-!
PROOFS. Training, the host's signals and the entry to RUN (R6 to R8, R10, R17, R168, R171, R184).
-/

namespace Sys2Proof.Machine

variable {s t : State}

/-! ### Entry to RUN -/

/-- The frames of a hold, the first with the lost flag of a hold in LOST (R184). -/
theorem Client.forwarded_eq (c : Client) :
    c.forwarded = c.held.zipIdx.map fun x => { lost := decide (x.2 = 0 ∧ c.holdStatus = .lost), bytes := x.1 } := by
  have hrest (l : List (List Byte)) (n : Nat) (hn : 0 < n) :
      (l.zipIdx n).map (fun x => ({ lost := decide (x.2 = 0 ∧ c.holdStatus = .lost), bytes := x.1 } : RxFrame)) =
        l.map fun g => { lost := false, bytes := g } := by
    induction l generalizing n with
    | nil => rfl
    | cons f l ih =>
      rw [List.zipIdx_cons, List.map_cons, List.map_cons, ih (n + 1) (Nat.succ_pos n)]
      simp [Nat.pos_iff_ne_zero.1 hn]
  unfold Client.forwarded
  split
  next hheld => rw [hheld]; rfl
  next f rest hheld => rw [hheld, List.zipIdx_cons, List.map_cons, hrest rest 1 Nat.one_pos]; simp

/-- The entries of a small array in ascending number. -/
theorem toList_eq_map_slot {α : Type} {n : Nat} (d : α) (v : Vector α n) : v.toList = (List.range n).map (slot d v) := by
  refine List.ext_getElem (by simp) fun k hk hk' => ?_
  have hlt : k < n := by simpa using hk
  simp [slot, hlt]

theorem State.forwarded_eq (s : State) : s.forwarded = (List.range 16).flatMap fun c => (s.client c).forwarded := by
  rw [State.forwarded, toList_eq_map_slot (Client.free 0), List.map_map, List.flatMap_def]
  rfl

@[simp] theorem client_enterRun (s : State) {c : Nat} (hc : c < 16) :
    (enterRun s).client c = { s.client c with holdStatus := .empty, held := [] } := by
  simp [enterRun, forwardHeld, slot, hc]

/-! ### Training and line signals -/

theorem hostPowered_iff (b : Bxp) :
    b.hostPowered = true ↔ b.power = .run ∨ b.power = .standbyEntry ∨ b.power = .waking ∧ b.phase = .powered := by
  unfold Bxp.hostPowered
  cases hpower : b.power <;> simp

/-- The line after training: ACTIVE, its start unacknowledged, an ATTENTION for what is pending (R10, R17). -/
theorem completeTraining_eq (hlink : s.slc.link = .training) :
    completeTraining s =
      wakeComplete { s with slc := { s.slc with
        link := .active, acked := false, owed := false
        outgoing := if s.pendingEnabled ≠ 0#11 then attended s.slc.outgoing else s.slc.outgoing } } := by
  have hpending : State.pendingEnabled { s with slc.acked := false } = s.pendingEnabled := rfl
  rw [completeTraining, if_pos hlink, enterActive, slc_enterActive_eq, hpending]
  simp only [Bool.or_true, and_true]

/-- Settles O11. -/
theorem trainingWakeAndEntryToRun : Obligations.TrainingWakeAndEntryToRun := by
  refine ⟨fun s => ⟨rfl, ?_, fun c hc => client_enterRun s hc, rfl⟩, fun s => ⟨fun hlink hpowered => ?_, fun hlink => ?_,
    hostPowered_iff s.bxp, fun h => ?_, fun h => ?_, fun h => ?_, fun h => ?_, fun h => ?_, fun h => ?_⟩⟩
  · simp only [enterRun, forwardHeld, State.forwarded_eq, Client.forwarded_eq]
  · exact ends_of_event rfl (if_pos ⟨hlink, hpowered⟩)
  · refine ⟨fun hwaking => ends_of_event rfl ?_, fun hwaking => ends_of_event rfl ?_⟩
    · rw [completeTraining_eq (s := s.quiet) hlink]
      exact if_pos hwaking
    · rw [completeTraining_eq (s := s.quiet) hlink]
      exact if_neg hwaking
  · exact ends_of_event rfl (if_neg fun hgood => h.elim (· hgood.1) fun hoff => by simpa [hoff] using hgood.2)
  · exact ends_of_event rfl (if_neg h)
  · exact ends_of_event rfl (if_neg h)
  · exact ends_of_event rfl (if_pos h)
  · exact ends_of_event rfl (if_neg h)
  · refine ends_of_event rfl ?_
    have hidle : s.quiet.slc.link = .idle := h
    rw [wakeSignal, if_pos hidle, enterActive, slc_enterActive_eq]
    simp only [Bool.or_false]
    rfl

/-! ### Sleep -/

/-- The link's part of entry to DOWN (R5, R6). -/
theorem slc_drop_eq (slc : Slc) :
    slc.drop =
      { slc with
        receiver := .quiet, places := [], outgoing := [], sending := none, deferred := Vector.replicate 8 none
        sleepReq := false
        owed := slc.owed || decide (.attention ∈ slc.outgoing) || decide (slc.sending = some .attention) } := by
  simp only [Slc.drop, Slc.attentionUnsent, Bool.or_assoc]

/-- Settles O12. -/
theorem sleepAcknowledgement : Obligations.SleepAcknowledgement := by
  intro s heard
  have hheard (h : heard) : ackSignal s.quiet = sleepAckReport { s.quiet with slc.link := .sleep } :=
    if_pos ⟨h.1, (carries_iff _).2 h.2⟩
  refine ⟨fun h => ends_of_event rfl (if_neg fun hc => h ⟨hc.1, (carries_iff _).1 hc.2⟩), fun h hpower => ?_,
    fun h hpower hstopped => ?_, fun h hpower hstopped => ?_⟩
  · exact ends_of_event rfl ((hheard h).trans (if_neg hpower))
  · refine ends_of_event rfl ((hheard h).trans ((if_pos hpower).trans (if_neg ?_)))
    simp [State.standbyReady, hstopped]
  · refine ends_of_event rfl ((hheard h).trans ((if_pos hpower).trans ((if_pos ?_).trans ?_)))
    · simp [State.standbyReady, hstopped, hpower]
    · rw [enterStandby, linkDown, slc_drop_eq]
      rfl

end Sys2Proof.Machine
end

section
/-!
PROOFS. Requests under ordered checks: what the first failing check comes to, and the gates of the tables' load state (R187,
R189).
-/

namespace Sys2Proof.Machine

variable {i : Instr} {k : Kind} {form : Request → Bool} {s t : State} {r : Request}

/-! ### Checks and conditions -/

@[simp] theorem Request.hasLength_eq (r : Request) (n : Nat) : r.hasLength n = decide (r.payload.length = n) := rfl

@[simp] theorem Request.auxNat_eq (r : Request) : r.auxNat = r.aux.toNat := rfl

/-- The checks of a list come, in order, to the conditions of another, one condition standing for one or more checks of its
status; checks that pass are left out, and so are those after the last condition. -/
inductive Covers : List (Bool × Status) → List (Prop × Status) → Prop where
  | done (cs : List (Bool × Status)) : Covers cs []
  | pass {b : Bool} {st : Status} {cs : List (Bool × Status)} {ps : List (Prop × Status)} (hb : b = false)
      (h : Covers cs ps) : Covers ((b, st) :: cs) ps
  | one {b : Bool} {P : Prop} {st : Status} {cs : List (Bool × Status)} {ps : List (Prop × Status)} (hb : b = true ↔ P)
      (h : Covers cs ps) : Covers ((b, st) :: cs) ((P, st) :: ps)
  | or {b : Bool} {P Q : Prop} {st : Status} {cs : List (Bool × Status)} {ps : List (Prop × Status)} (hb : b = true ↔ P)
      (h : Covers cs ((Q, st) :: ps)) : Covers ((b, st) :: cs) ((P ∨ Q, st) :: ps)

/-- A condition may be put in other words. -/
theorem Covers.iff {cs : List (Bool × Status)} {P Q : Prop} {st : Status} {ps : List (Prop × Status)} (hPQ : P ↔ Q)
    (h : Covers cs ((P, st) :: ps)) : Covers cs ((Q, st) :: ps) := propext hPQ ▸ h

/-- One check may stand for two conditions of those that share its status. -/
theorem Covers.or_or {b : Bool} {cs : List (Bool × Status)} {P Q R : Prop} {st : Status} {ps : List (Prop × Status)}
    (hb : b = true ↔ P ∨ Q) (h : Covers cs ((R, st) :: ps)) : Covers ((b, st) :: cs) ((P ∨ Q ∨ R, st) :: ps) :=
  .iff or_assoc (.or hb h)

/-- A request is refused by the conditions that its checks come to. -/
theorem Covers.refusedFirst {cs : List (Bool × Status)} {ps : List (Prop × Status)} (hcov : Covers cs ps)
    (h : ∀ st, firstFail cs = some st → Refused i s r st) : RefusedFirst i s r ps := by
  induction hcov with
  | done => exact trivial
  | pass hb _ ih => exact ih fun st hst => h st (by rw [hb, firstFail_pass, hst])
  | one hb _ ih => exact refusedFirst_cons hb h ih
  | or hb _ ih => exact refusedFirst_or hb h ih

/-- A command that takes its request under checks is refused by the conditions that they come to. -/
theorem refusedFirst_of_covers {checks : State → Request → List (Bool × Status)} {f : State → Request → State → State}
    {ps : List (Prop × Status)} (e : State → Host.Outcome State Fault Refusal) (he : exec i s = e s)
    (hi : e s = take k form (fun r s => guarded (checks s r) r (f s r) s) s)
    (ho : Offered s k r) (hform : form r = true) (hcov : Covers (checks s.quiet r) ps) : RefusedFirst i s r ps :=
  hcov.refusedFirst fun _ hst => refused_of_firstFail checks f (he.trans hi) ho hform hst

/-- A command that takes its request under checks ends, where they pass, in the request's effect. -/
theorem ends_of_checks_pass {checks : State → Request → List (Bool × Status)} {f : State → Request → State → State}
    (e : State → Host.Outcome State Fault Refusal) (he : exec i s = e s)
    (hi : e s = take k form (fun r s => guarded (checks s r) r (f s r) s) s) (ho : Offered s k r)
    (hform : form r = true) (hpass : firstFail (checks s.quiet r) = none) (ht : f s.quiet r s.quiet = t) : Ends i s t := by
  obtain ⟨hoffered, hkind⟩ := ho
  rw [Ends, he, hi, take_offered k form _ s r hoffered hkind hform, guarded_pass _ _ _ _ hpass, ht]

/-! ### Gates -/

theorem loaded_of_readable (h : Readable s) : s.loaded = true := decide_eq_true h

/-- Past the gate of the requests that read records. -/
theorem Covers.readable (h : Readable s) {cs : List (Bool × Status)} {ps : List (Prop × Status)} (hcov : Covers cs ps) :
    Covers ((!s.quiet.loaded, .notLoaded) :: cs) ps := .pass (by simp [loaded_of_readable h]) hcov

/-- Past the gate of the requests that change records. -/
theorem Covers.changeable (h : Changeable s) {cs : List (Bool × Status)} {ps : List (Prop × Status)} (hcov : Covers cs ps) :
    Covers ((!s.quiet.loaded, .notLoaded) :: (s.quiet.tiu.exporting, .imageBusy) :: cs) ps :=
  .readable h.1 (.pass h.2 hcov)

@[simp] theorem firstFail_readGate (h : Readable s) (cs : List (Bool × Status)) :
    firstFail (readGate s ++ cs) = firstFail cs := by
  rw [readGate, loaded_of_readable h]
  rfl

@[simp] theorem firstFail_changeGate (h : Changeable s) (cs : List (Bool × Status)) :
    firstFail (changeGate s ++ cs) = firstFail cs := by
  rw [changeGate, loaded_of_readable h.1, h.2]
  rfl

/-- Outside LOADED a request whose checks begin with the gate is refused NOT_LOADED (R187). -/
theorem refused_unloaded {checks : State → Request → List (Bool × Status)} {f : State → Request → State → State}
    {cs : List (Bool × Status)} (hload : s.tiu.load ≠ .loaded) (e : State → Host.Outcome State Fault Refusal) (he : exec i s = e s)
    (hi : e s = take k form (fun r s => guarded (checks s r) r (f s r) s) s)
    (hgate : checks s.quiet r = (!s.quiet.loaded, .notLoaded) :: cs) (hform : form r = true) (ho : Offered s k r) :
    Refused i s r .notLoaded := by
  refine refused_of_firstFail checks f (he.trans hi) ho hform ?_
  have hloaded : s.quiet.loaded = false := decide_eq_false hload
  rw [hgate, hloaded]
  rfl

/-- While an image is exported one whose checks begin with both gates is refused IMAGE_BUSY (R189). -/
theorem refused_exporting {checks : State → Request → List (Bool × Status)} {f : State → Request → State → State}
    {cs : List (Bool × Status)} (hload : s.tiu.load = .loaded) (hexporting : s.tiu.exporting = true)
    (e : State → Host.Outcome State Fault Refusal) (he : exec i s = e s)
    (hi : e s = take k form (fun r s => guarded (checks s r) r (f s r) s) s)
    (hgate : checks s.quiet r = (!s.quiet.loaded, .notLoaded) :: (s.quiet.tiu.exporting, .imageBusy) :: cs)
    (hform : form r = true) (ho : Offered s k r) : Refused i s r .imageBusy := by
  refine refused_of_firstFail checks f (he.trans hi) ho hform ?_
  have hloaded : s.quiet.loaded = true := decide_eq_true hload
  have hbusy : s.quiet.tiu.exporting = true := hexporting
  rw [hgate, hloaded, hbusy]
  rfl

/-- Settles O14: the checks of each begin with its gate. -/
theorem gatesOfRecordRequests : Obligations.GatesOfRecordRequests := by
  refine ⟨fun s r hload => ⟨?_, fun ho => ⟨fun haux => ?_, fun haux => ?_⟩, fun ho => ⟨fun hsel => ?_, fun hsel => ?_⟩,
    fun ho => ⟨fun haux => ?_, fun haux => ?_⟩⟩, fun s r hload hexporting => ⟨?_, fun ho haux => ?_, fun ho haux => ?_,
    fun ho haux => ?_⟩⟩
  · simp only [List.forall_mem_cons]
    and_intros
    · exact refused_unloaded hload execClientSet rfl rfl rfl rfl
    · exact refused_unloaded hload execClientRead rfl rfl rfl rfl
    · exact refused_unloaded hload execClientRetire rfl rfl rfl rfl
    · exact refused_unloaded hload execScheduleSet rfl rfl rfl rfl
    · exact refused_unloaded hload execStreamOpen rfl rfl rfl rfl
    · exact refused_unloaded hload execStreamData rfl rfl rfl rfl
    · exact refused_unloaded hload execStreamCommit rfl rfl rfl rfl
    · exact refused_unloaded hload execStreamFinish rfl rfl rfl rfl
    · exact refused_unloaded hload execStreamAbort rfl rfl rfl rfl
    · exact refused_unloaded hload execStreamRead rfl rfl rfl rfl
    · exact refused_unloaded hload execChunkRead rfl rfl rfl rfl
    · exact refused_unloaded hload execCollectionOpen rfl rfl rfl rfl
    · exact refused_unloaded hload execCollectionClose rfl rfl rfl rfl
    · exact refused_unloaded hload execRetireCollection rfl rfl rfl rfl
    · exact refused_unloaded hload execMemberAdd rfl rfl rfl rfl
    · exact refused_unloaded hload execMemberRemove rfl rfl rfl rfl
    · exact refused_unloaded hload execCollectionRead rfl rfl rfl rfl
    · exact refused_unloaded hload execMembersFetch rfl rfl rfl rfl
    · exact refused_unloaded hload execObjectRead rfl rfl rfl rfl
    · exact refused_unloaded hload execWalkStatus rfl rfl rfl rfl
    · exact refused_unloaded hload execGrantSet rfl rfl rfl rfl
    · exact refused_unloaded hload execGrantClear rfl rfl rfl rfl
    · exact refused_unloaded hload execPlanOpen rfl rfl rfl rfl
    · exact refused_unloaded hload execPlanFetch rfl rfl rfl rfl
    · exact refused_unloaded hload execPlanCheck rfl rfl rfl rfl
    · exact refused_unloaded hload execPlanDone rfl rfl rfl rfl
    · exact List.forall_mem_nil _
  · exact refused_unloaded hload execReleaseTake rfl rfl rfl (decide_eq_true haux) ho
  · exact refused_unloaded hload execReleaseTakeLastBatch rfl rfl rfl (decide_eq_true haux) ho
  · exact refused_unloaded hload execGrantRead rfl rfl rfl (decide_eq_true hsel) ho
  · exact refused_unloaded hload execGrantReadDecision rfl rfl rfl (decide_eq_true hsel) ho
  · exact refused_unloaded hload execFilterSet rfl rfl rfl (decide_eq_true haux) ho
  · exact refused_unloaded hload execFilterRead rfl rfl rfl (decide_eq_true haux) ho
  · simp only [List.forall_mem_cons]
    and_intros
    · exact refused_exporting hload hexporting execClientSet rfl rfl rfl rfl
    · exact refused_exporting hload hexporting execClientRetire rfl rfl rfl rfl
    · exact refused_exporting hload hexporting execScheduleSet rfl rfl rfl rfl
    · exact refused_exporting hload hexporting execStreamOpen rfl rfl rfl rfl
    · exact refused_exporting hload hexporting execStreamData rfl rfl rfl rfl
    · exact refused_exporting hload hexporting execStreamCommit rfl rfl rfl rfl
    · exact refused_exporting hload hexporting execStreamFinish rfl rfl rfl rfl
    · exact refused_exporting hload hexporting execStreamAbort rfl rfl rfl rfl
    · exact refused_exporting hload hexporting execCollectionOpen rfl rfl rfl rfl
    · exact refused_exporting hload hexporting execCollectionClose rfl rfl rfl rfl
    · exact refused_exporting hload hexporting execRetireCollection rfl rfl rfl rfl
    · exact refused_exporting hload hexporting execMemberAdd rfl rfl rfl rfl
    · exact refused_exporting hload hexporting execMemberRemove rfl rfl rfl rfl
    · exact refused_exporting hload hexporting execGrantSet rfl rfl rfl rfl
    · exact refused_exporting hload hexporting execGrantClear rfl rfl rfl rfl
    · exact List.forall_mem_nil _
  · exact refused_exporting hload hexporting execReleaseTake rfl rfl rfl (decide_eq_true haux) ho
  · exact refused_exporting hload hexporting execReleaseTakeLastBatch rfl rfl rfl (decide_eq_true haux) ho
  · exact refused_exporting hload hexporting execFilterSet rfl rfl rfl (decide_eq_true haux) ho

end Sys2Proof.Machine
end

section
/-!
PROOFS. Link status and settings (R15, R20, R21, R27, R57, R159).
-/

namespace Sys2Proof.Machine

variable {s t : State} {r : Request}

/-! ### Link status -/

/-- The deferred responses are counted by stream (R15). -/
theorem deferredCount_eq (slc : Slc) :
    slc.deferredCount = ((List.range 8).filter fun i => (slot none slc.deferred i).isSome).length := by
  rw [Slc.deferredCount, toList_eq_map_slot none, List.filter_map, List.length_map]
  rfl

/-- Settles O15. -/
theorem linkStatus : Obligations.LinkStatus := by
  refine ⟨fun s r ho hp => ?_, fun s p body hkind => ?_⟩
  · intro record
    have hrecord : s.slc.statusRecord = record := by
      rw [Slc.statusRecord, deferredCount_eq]
      rfl
    have hpass (haux : r.auxNat ≤ 1) : firstFail (linkStatusChecks r) = none := by
      have hle : ¬ 1 < r.aux.toNat := Nat.not_lt.2 haux
      simp [linkStatusChecks, hp, hle]
    refine ⟨fun haux => ?_, fun haux => ?_, fun haux => ?_⟩
    · refine ends_of_checks_pass execLinkStatus rfl rfl ho (by simp [haux]) (hpass (by simp [haux])) ?_
      rw [← hrecord]
      rfl
    · refine ends_of_checks_pass execLinkStatusClearCounts rfl rfl ho (by simp [haux]) (hpass (by simp [haux])) ?_
      rw [← hrecord]
      rfl
    · exact refused_of_firstFail (fun _ => linkStatusChecks) (fun _ => linkStatusTaken false) rfl ho
        (decide_eq_true (Nat.ne_of_gt haux)) (by simp [linkStatusChecks, hp, haux])
  · have hcode : Kind.ofCode p.kind = some .linkStatus := by rw [hkind]; rfl
    simp only [route, hcode]
    exact if_neg fun h => h.2 rfl

/-! ### The clamp of settings -/

theorem clamp_eq {lo hi : Nat} (h : lo ≤ hi) (n : Nat) : clamp lo hi n = max lo (min hi n) := by
  unfold clamp
  split
  · omega
  · split <;> omega

theorem clampZone_eq (z : Int) : clampZone z = max (-720) (min 840 z) := by
  unfold clampZone
  split
  · omega
  · split <;> omega

/-- The target is a power of two from 2^12 to 2^15 (R57). -/
theorem clampLtgt_pow (n : Nat) : ∃ g, 12 ≤ g ∧ g ≤ 15 ∧ clampLtgt n = 2 ^ g := by
  have hpow (k : Nat) : ∃ g, 12 ≤ g ∧ g ≤ 15 ∧ clamp 4096 32768 (2 ^ k) = 2 ^ g := by
    rcases Nat.lt_or_ge k 12 with hk | hk
    · refine ⟨12, le_rfl, by decide, ?_⟩
      have hle : 2 ^ k ≤ 2 ^ 12 := Nat.pow_le_pow_right (by decide) hk.le
      rw [clamp_eq (by decide)]
      omega
    · rcases Nat.lt_or_ge 15 k with hk' | hk'
      · refine ⟨15, by decide, le_rfl, ?_⟩
        have hle : 2 ^ 15 ≤ 2 ^ k := Nat.pow_le_pow_right (by decide) hk'.le
        rw [clamp_eq (by decide)]
        omega
      · refine ⟨k, hk, hk', ?_⟩
        have hlo : 2 ^ 12 ≤ 2 ^ k := Nat.pow_le_pow_right (by decide) hk
        have hhi : 2 ^ k ≤ 2 ^ 15 := Nat.pow_le_pow_right (by decide) hk'
        rw [clamp_eq (by decide)]
        omega
  unfold clampLtgt
  split
  · exact ⟨12, le_rfl, by decide, rfl⟩
  · exact hpow _

/-- A target in range stays. -/
theorem clampLtgt_of_pow {g : Nat} (hlo : 12 ≤ g) (hhi : g ≤ 15) : clampLtgt (2 ^ g) = 2 ^ g := by
  have h1 : 2 ^ 12 ≤ 2 ^ g := Nat.pow_le_pow_right (by decide) hlo
  have h2 : 2 ^ g ≤ 2 ^ 15 := Nat.pow_le_pow_right (by decide) hhi
  rw [clampLtgt, if_neg (by omega), Nat.log2_two_pow, clamp_eq (by decide)]
  omega

theorem clampLmin_bounds (n : Nat) : 2048 ≤ clampLmin n ∧ clampLmin n ≤ 16384 ∧ clampLmin n % 1024 = 0 := by
  rw [clampLmin, clamp_eq (by decide)]
  omega

theorem clampLmin_of_bounds {n : Nat} (hlo : 2048 ≤ n) (hhi : n ≤ 16384) (hmod : n % 1024 = 0) : clampLmin n = n := by
  rw [clampLmin, clamp_eq (by decide)]
  omega

/-- Under a target that is a power of two the minimum is at most its half (R57). -/
theorem lowerLmin_bounds {n g : Nat} (h : 2048 ≤ n ∧ n ≤ 16384 ∧ n % 1024 = 0) (hlo : 12 ≤ g) :
    2048 ≤ lowerLmin n (2 ^ g) ∧ 2 * lowerLmin n (2 ^ g) ≤ 2 ^ g ∧ lowerLmin n (2 ^ g) % 1024 = 0
      ∧ lowerLmin n (2 ^ g) ≤ 16384 := by
  obtain ⟨k, rfl⟩ := Nat.exists_eq_add_of_le hlo
  have hpos : 1 ≤ 2 ^ k := Nat.one_le_two_pow
  have hpow : 2 ^ (12 + k) = 4096 * 2 ^ k := by rw [Nat.pow_add]
  rw [hpow]
  unfold lowerLmin
  split <;> omega

theorem clampLmax_bounds {n g : Nat} (hlo : 12 ≤ g) (hhi : g ≤ 15) :
    4 * 2 ^ g ≤ clampLmax (2 ^ g) n ∧ clampLmax (2 ^ g) n ≤ 131072 ∧ clampLmax (2 ^ g) n % 4096 = 0 := by
  obtain ⟨k, rfl⟩ := Nat.exists_eq_add_of_le hlo
  have hpow : 2 ^ (12 + k) = 4096 * 2 ^ k := by rw [Nat.pow_add]
  have hle : 2 ^ k ≤ 2 ^ 3 := Nat.pow_le_pow_right (by decide) (by omega)
  rw [hpow, clampLmax, clamp_eq (by omega)]
  omega

theorem clampLmax_of_bounds {ltgt n : Nat} (hlo : 4 * ltgt ≤ n) (hhi : n ≤ 131072) (hmod : n % 4096 = 0) :
    clampLmax ltgt n = n := by
  rw [clampLmax, clamp_eq (hlo.trans hhi)]
  omega

theorem clamp_clamp (lo hi n : Nat) (h : lo ≤ hi) : clamp lo hi (clamp lo hi n) = clamp lo hi n := by
  rw [clamp_eq h, clamp_eq h]
  omega

theorem clampIdle_clampIdle (n : Nat) : clampIdle (clampIdle n) = clampIdle n := by
  have h := clamp_eq (show 60 ≤ 7200 by decide)
  unfold clampIdle
  simp only [h]
  split
  · rfl
  · rw [if_neg (by omega)]
    omega

/-- Settles O19. -/
theorem chunkParametersTakenAreConsistent : Obligations.ChunkParametersTakenAreConsistent := by
  intro draw x y
  obtain ⟨g, hlo, hhi, hltgt⟩ := clampLtgt_pow x.ltgt
  obtain ⟨hmin, hhalf, hminMod, hminMax⟩ := lowerLmin_bounds (clampLmin_bounds x.lmin) hlo
  obtain ⟨hmax, hmaxMax, hmaxMod⟩ := clampLmax_bounds (n := x.lmax) hlo hhi
  have hyltgt : y.ltgt = 2 ^ g := hltgt
  have hylmin : y.lmin = lowerLmin (clampLmin x.lmin) (2 ^ g) := by rw [← hltgt]; rfl
  have hylmax : y.lmax = clampLmax (2 ^ g) x.lmax := by rw [← hltgt]; rfl
  rw [← hylmin] at hmin hhalf hminMod hminMax
  rw [← hylmax] at hmax hmaxMax hmaxMod
  refine ⟨hmin, by rwa [hyltgt], hminMod, ⟨g, hlo, hhi, hyltgt⟩, by rwa [hyltgt], hmaxMax, hmaxMod, ?_⟩
  have htarget : clampLtgt y.ltgt = y.ltgt := by rw [hyltgt, clampLtgt_of_pow hlo hhi]
  have hzone : clampZone y.zone = y.zone := by
    rw [show y.zone = clampZone x.zone from rfl, clampZone_eq, clampZone_eq]
    omega
  have hlmin : lowerLmin (clampLmin y.lmin) y.ltgt = y.lmin := by
    rw [clampLmin_of_bounds hmin hminMax hminMod, lowerLmin, if_neg (by rw [hyltgt]; omega)]
  have hlmax : clampLmax y.ltgt y.lmax = y.lmax := clampLmax_of_bounds (by rwa [hyltgt]) hmaxMax hmaxMod
  have hbudget : max (clamp 7 30 y.budget) draw = y.budget := by
    rw [show y.budget = max (clamp 7 30 x.budget) draw from rfl, clamp_eq (by decide), clamp_eq (by decide)]
    omega
  simp only [Settings.clamped, htarget, hzone, hlmin, hlmax, hbudget]
  rw [show y.spinUp = clamp 4 30 x.spinUp from rfl, show y.idle = clampIdle x.idle from rfl,
    show y.spinDown = clamp 1 10 x.spinDown from rfl, clamp_clamp _ _ _ (by decide), clampIdle_clampIdle,
    clamp_clamp _ _ _ (by decide)]
  rfl

/-! ### The settings requests -/

/-- The clamp of a record in closed form (R27, R57, R159, Table 9.3). -/
theorem clamped_eq (draw : Nat) (x : Settings) :
    x.clamped draw =
      (let ltgt := max 4096 (min 32768 (if x.ltgt = 0 then 0 else 2 ^ Nat.log2 x.ltgt))
       let lmin := max 2048 (min 16384 x.lmin) / 1024 * 1024
       { zone := max (-720) (min 840 x.zone)
         lmin := if ltgt < 2 * lmin then ltgt / 2 else lmin
         ltgt := ltgt
         lmax := max (4 * ltgt) (min 131072 x.lmax) / 4096 * 4096
         budget := max (max 7 (min 30 x.budget)) draw
         spinUp := max 4 (min 30 x.spinUp)
         idle := if x.idle = 0 then 0 else max 60 (min 7200 x.idle)
         spinDown := max 1 (min 10 x.spinDown) }) := by
  have hltgt : clampLtgt x.ltgt = max 4096 (min 32768 (if x.ltgt = 0 then 0 else 2 ^ Nat.log2 x.ltgt)) :=
    clamp_eq (by decide) _
  have hlmin : clampLmin x.lmin = max 2048 (min 16384 x.lmin) / 1024 * 1024 := by rw [clampLmin, clamp_eq (by decide)]
  have hlmax (n : Nat) (hn : n ≤ 32768) : clampLmax n x.lmax = max (4 * n) (min 131072 x.lmax) / 4096 * 4096 := by
    rw [clampLmax, clamp_eq (by omega)]
  simp only [Settings.clamped, clampZone_eq, hltgt, hlmin, lowerLmin, clamp_eq (show 7 ≤ 30 by decide),
    clamp_eq (show 4 ≤ 30 by decide), clampIdle, clamp_eq (show 60 ≤ 7200 by decide), clamp_eq (show 1 ≤ 10 by decide)]
  rw [hlmax _ (by omega)]

theorem replaceSettings_eq (x : Settings) (s : State) :
    replaceSettings x s =
      { s with
        slc.settings := x.clamped s.bpc.totalDraw
        bpc := if (x.clamped s.bpc.totalDraw).budget = s.slc.settings.budget then s.bpc
          else s.bpc.examine (x.clamped s.bpc.totalDraw) } := by
  simp only [replaceSettings, ne_eq, decide_not, Bool.not_eq_true', decide_eq_false_iff_not]
  split
  · rfl
  next h => simp only [if_pos (not_not.1 h)]

/-- Settles O18. -/
theorem settingsReadAndWrite : Obligations.SettingsReadAndWrite := by
  intro s r bytes
  refine ⟨fun ho hp => ?_, fun ho hlen => ?_⟩
  · exact ends_of_checks_pass execSettingsRead rfl rfl ho rfl (by simp [hp]) rfl
  · intro p old named lmin0 ltgt0 lmax0 ltgt lmin1 new
    have hnew : (s.writtenSettings r.payload).clamped s.bpc.totalDraw = new := clamped_eq _ _
    refine ends_of_checks_pass execSettingsWrite rfl rfl ho rfl (by simp [hlen]) ?_
    simp only [replaceSettings_eq, State.quiet_writtenSettings]
    rw [show s.quiet.bpc = s.bpc from rfl, hnew]
    rfl

end Sys2Proof.Machine
end

section
/-!
PROOFS. The clock and the due evaluation (R22 to R25, R135, R155, R172, R173, R176).
-/

namespace Sys2Proof.Machine

variable {s t : State} {r : Request}

/-! ### Due flags -/

theorem getLsbD_setFlag (w : BitVec 16) (c : Nat) (v : Bool) {k : Nat} (hk : k < 16) :
    (setFlag w c v).getLsbD k = if k = c then v else w.getLsbD k := by
  have hbit : (1#16 <<< c).getLsbD k = decide (k = c) := by
    simp only [BitVec.getLsbD_shiftLeft, BitVec.getLsbD_one, hk, decide_true, Bool.true_and]
    by_cases hkc : k = c
    · simp [hkc]
    · have hne : ¬ k < c → k - c ≠ 0 := by omega
      simp only [hkc, decide_false, Bool.and_eq_false_imp, Bool.not_eq_true', decide_eq_false_iff_not]
      simpa using hne
  unfold setFlag
  split
  next hv =>
    rw [BitVec.getLsbD_or, hbit]
    by_cases hkc : k = c <;> simp [hkc, hv]
  next hv =>
    rw [BitVec.getLsbD_and, BitVec.getLsbD_not, hbit, decide_eq_true hk]
    by_cases hkc : k = c <;> simp [hkc, hv]

/-- The flags after an evaluation: those of the clients listed take the result, the others stay (R176). -/
theorem getLsbD_evaluatedDue (s : State) (cs : List Nat) {k : Nat} (hk : k < 16) :
    (s.evaluatedDue cs).getLsbD k =
      if k ∈ cs then (s.client k).isDue s.bck.boxTime else s.bxp.due.getLsbD k := by
  have hfold (w : BitVec 16) :
      (cs.foldl (fun w c => setFlag w c ((s.client c).isDue s.bck.boxTime)) w).getLsbD k =
        if k ∈ cs then (s.client k).isDue s.bck.boxTime else w.getLsbD k := by
    induction cs generalizing w with
    | nil => simp
    | cons c cs ih =>
      rw [List.foldl_cons, ih, getLsbD_setFlag _ _ _ hk]
      by_cases hkc : k = c
      · subst hkc
        simp
      · simp [hkc]
  exact hfold _

theorem evaluateDue_loaded (h : s.tiu.load = .loaded) (cs : List Nat) :
    evaluateDue cs s = match s.firstRise cs with
      | some c => dueRise c { s with bxp.due := s.evaluatedDue cs }
      | none => { s with bxp.due := s.evaluatedDue cs } := by
  have hloaded : s.loaded = true := decide_eq_true h
  unfold evaluateDue
  exact if_pos hloaded

/-- The first client of a list whose flag rises, with those before it, whose flags do not. -/
theorem firstRise_of_first {cs before after : List Nat} {c : Nat} (hcs : cs = before ++ c :: after)
    (hdue : (s.client c).isDue s.bck.boxTime = true) (hflag : s.bxp.due.getLsbD c = false)
    (hbefore : ∀ k ∈ before, (s.client k).isDue s.bck.boxTime = true → s.bxp.due.getLsbD k = true) :
    s.firstRise cs = some c := by
  rw [State.firstRise, hcs, List.find?_append, List.find?_eq_none.2, Option.none_or, List.find?_cons_of_pos]
  · simp [hdue, Bxp.dueFlag, hflag]
  · intro k hk
    cases hd : (s.client k).isDue s.bck.boxTime with
    | false => simp
    | true => simp [Bxp.dueFlag, hbefore k hk hd]

/-- Settles O22: the flags are those of `State.evaluatedDue`. -/
theorem dueEvaluation : Obligations.DueEvaluation := by
  intro s cs hcs due
  have hdue (c : Nat) : (s.client c).isDue s.bck.boxTime = due c := rfl
  refine ⟨fun hload => if_neg (by simpa [State.loaded] using hload), fun hload => ⟨s.evaluatedDue cs, fun c hc => ?_,
    fun hnone => ?_, fun before c after hsplit hc hflag hbefore => ?_⟩⟩
  · rw [getLsbD_evaluatedDue s cs hc, hdue]
  · have hrise : s.firstRise cs = none := by
      rw [State.firstRise, List.find?_eq_none]
      intro c hc
      cases hd : due c with
      | false => simp [hdue, hd]
      | true => simp [hdue, hd, Bxp.dueFlag, hnone c hc hd]
    rw [evaluateDue_loaded hload, hrise]
  · rw [evaluateDue_loaded hload, firstRise_of_first hsplit hc hflag hbefore]
    refine ⟨fun hpower => ?_, fun hpower => ?_, fun hstandby hentry => ?_⟩
    · simp only [dueRise, hpower]
      rfl
    · simp only [dueRise, hpower]
    · simp only [dueRise]

/-! ### The clock -/

theorem Grant.expired_eq (t : Nat) (g : Grant) : g.expired t = (g.live && g.expiry.any fun e => decide (e ≤ t)) := by
  unfold Grant.expired
  cases g.expiry <;> simp

theorem walkRuns_iff (s : State) : s.walkRuns = true ↔ s.tiu.load = .loaded ∧ s.tiu.exporting = false := by
  simp [State.walkRuns, State.loaded]

/-- Box time moves to `t`; a minute event sweeps the grants expired then (R24, R135). -/
theorem clockTo_eq (t : Nat) (minute : Bool) (s : State) :
    clockTo t minute s =
      { s with
        bck.boxTime := t
        grants := if minute = true ∧ s.tiu.load = .loaded ∧ s.tiu.exporting = false then
            s.grants.filter fun g => !(g.2.live && g.2.expiry.any fun e => decide (e ≤ t))
          else s.grants } := by
  have hruns : State.walkRuns { s with bck.boxTime := t } = s.walkRuns := rfl
  cases minute with
  | false => simp [clockTo]
  | true =>
    simp only [clockTo, sweepGrants, if_true, hruns, walkRuns_iff, Grant.expired_eq, true_and]
    split <;> rfl

theorem scheduledClients_eq (s : State) :
    s.scheduledClients = (List.range 16).filter fun c => (s.client c).active && (s.client c).schedule.isSome := by
  refine List.filter_congr fun c hc => ?_
  have hlt : c < 16 := List.mem_range.1 hc
  simp [slot, hlt]

/-- Settles O21. -/
theorem clockSetAndSecondEvents : Obligations.ClockSetAndSecondEvents := by
  refine ⟨fun s r ho => ?_, fun s r ho hlen => ?_, fun s sense => ?_⟩
  · exact refusedFirst_of_covers execClockSet rfl rfl ho rfl (.one (by simp) (.done _))
  · intro t swept moved
    have hmoved : clockTo t true { s.quiet with bck.clockSet := true } = moved := by
      rw [clockTo_eq]
      simp only [moved, swept, true_and]
      rfl
    refine ends_of_checks_pass execClockSet rfl rfl ho rfl (by simp [hlen]) ?_
    have hset : setClock t s.quiet = evaluateDue (List.range 16) moved := by rw [← hmoved]; rfl
    rw [← hset]
  · intro t swept
    refine ⟨(s.bpc.second sense).bays, fun i hi => Bpc.bay_second sense s.bpc hi, ends_of_event rfl ?_⟩
    have ht : nextSecond s.quiet.bck.boxTime = t := rfl
    rw [secondPasses, ht]
    simp only [clockTo_eq, scheduledClients_eq]
    simp only [minuteAt, decide_eq_true_eq, swept]
    rfl

end Sys2Proof.Machine
end

section
/-!
PROOFS. The requests on client records: CLIENT_SET, CLIENT_RETIRE, SCHEDULE_SET (R28 to R39, R136, R176).
-/

namespace Sys2Proof.Machine

variable {s t : State} {r : Request}

/-! ### What a client owns -/

theorem collectionsOwned_pos_iff (s : State) (c g : Nat) :
    0 < s.collectionsOwned c g ↔ ∃ l ∈ s.oct.colls, l.2.state ≠ .free ∧ l.2.owner = (c, g) := by
  simp [State.collectionsOwned, List.length_pos_iff_exists_mem]

theorem streamsOpenOf_pos_iff (s : State) (c : Nat) :
    0 < s.streamsOpenOf c ↔ ∃ i < 8, (s.stream i).state ≠ .closed ∧ (s.stream i).client = c := by
  rw [State.streamsOpenOf, toList_eq_map_slot Stream.closed, List.length_pos_iff_exists_mem]
  simp only [List.mem_filter, List.mem_map, List.mem_range, Bool.and_eq_true, decide_eq_true_eq]
  constructor
  · rintro ⟨-, ⟨i, hi, rfl⟩, h⟩
    exact ⟨i, hi, h⟩
  · rintro ⟨i, hi, h⟩
    exact ⟨_, ⟨i, hi, rfl⟩, h⟩

theorem plansOpenOf_pos_iff (s : State) (c : Nat) :
    0 < s.plansOpenOf c ↔ ∃ k < 16, (s.plan k).state ≠ .free ∧ (s.plan k).client = c := by
  rw [State.plansOpenOf, toList_eq_map_slot Plan.free, List.length_pos_iff_exists_mem]
  simp only [List.mem_filter, List.mem_map, List.mem_range, Bool.and_eq_true, decide_eq_true_eq]
  constructor
  · rintro ⟨-, ⟨i, hi, rfl⟩, h⟩
    exact ⟨i, hi, h⟩
  · rintro ⟨i, hi, h⟩
    exact ⟨_, ⟨i, hi, rfl⟩, h⟩

/-! ### The checks of CLIENT_SET -/

theorem roleOfCode_isNone_iff (n : Nat) : (Role.ofCode n).isNone = true ↔ n < 1 ∨ 3 < n := by
  match n with
  | 0 | 1 | 2 | 3 => decide
  | n + 4 => simp [Role.ofCode]

theorem roleOfCode_getD_eq_viewer_iff (n : Nat) : (Role.ofCode n).getD .unset = .viewer ↔ n = 2 := by
  match n with
  | 0 | 1 | 2 | 3 => decide
  | n + 4 => simp [Role.ofCode]

theorem not_acceptableAddress_iff (a : List Byte) :
    (!acceptableAddress a) = true ↔ (∀ b ∈ a, b = 0#8) ∨ (a.getD 0 0#8).getLsbD 0 = true := by
  simp only [acceptableAddress, Bool.not_and, Bool.not_not, Bool.or_eq_true, Bool.not_eq_true', List.any_eq_false,
    decide_eq_true_eq, not_not]

theorem addressTaken_iff (s : State) (c : Nat) (a : List Byte) :
    s.addressTaken c a = true ↔ ∃ k < 16, k ≠ c ∧ (s.client k).active = true ∧ (s.client k).address = a := by
  simp [State.addressTaken, and_assoc]

theorem lowestFreeClient_isNone_iff (s : State) :
    s.lowestFreeClient.isNone = true ↔ ∀ k < 16, (s.client k).active = true := by
  simp [State.lowestFreeClient]

/-- The record that a CLIENT_SET names, or that FFh finds (R30). -/
theorem clientChosen_eq {n c : Nat} (hc : c < 16)
    (h : n = c ∨ n = 255 ∧ (s.client c).active = false ∧ ∀ k < c, (s.client k).active = true) :
    s.clientChosen n = some c := by
  rcases h with rfl | ⟨rfl, hfree, hbelow⟩
  · exact if_neg (by omega)
  · rw [State.clientChosen, if_pos rfl, State.lowestFreeClient, List.find?_range_eq_some]
    exact ⟨by simp [hfree], List.mem_range.2 hc, fun k hk => by simp [hbelow k hk]⟩

theorem viewerRefused_iff (s : State) (c n : Nat) :
    s.viewerRefused c ((Role.ofCode n).getD .unset) = true ↔
      (s.client c).active = true ∧ ((s.client c).role = .source ∨ (s.client c).role = .family) ∧ n = 2
        ∧ (0 < s.collectionsOwned c (s.client c).generation ∨ 0 < s.streamsOpenOf c) := by
  simp only [State.viewerRefused, Bool.and_eq_true, Bool.or_eq_true, decide_eq_true_eq, roleOfCode_getD_eq_viewer_iff,
    and_assoc]

/-! ### CLIENT_SET -/

/-- The quota taken, in the words of R33. -/
theorem quotaTaken_eq (q charged : Nat) :
    quotaTaken q charged =
      if q = 0 then none else if charged ≤ q * 1048576 then some q else some ((charged + 1048575) / 1048576) := rfl

/-- A payload that passes the checks of CLIENT_SET (R30 to R33). -/
theorem firstFail_clientSetChecks {c : Nat} {role : Role} (hchange : Changeable s) (hlen : r.payload.length = 28)
    (hchosen : s.clientChosen (byteAt r.payload 0) = some c) (hnumber : byteAt r.payload 0 ≤ 15 ∨ byteAt r.payload 0 = 255)
    (hrole : Role.ofCode (byteAt r.payload 1) = some role) (haddress : acceptableAddress (slice r.payload 2 6) = true)
    (hquota : field r.payload 24 4 ≤ 16777215) (hfree : s.addressTaken c (slice r.payload 2 6) = false)
    (hviewer : s.viewerRefused c role = false) : firstFail (clientSetChecks s r) = none := by
  have hrange : (decide (15 < byteAt r.payload 0) && !decide (byteAt r.payload 0 = 255)) = false := by
    rcases hnumber with h | h <;> simp [h]
  have hmax : ¬ Config.maxQuota < field r.payload 24 4 := Nat.not_lt.2 hquota
  rw [clientSetChecks, firstFail_changeGate hchange]
  simp [hlen, hchosen, hrange, hrole, haddress, hmax, hfree, hviewer]

theorem becomesViewer_iff (x : Client) (role : Role) :
    x.becomesViewer role = true ↔ x.active = true ∧ x.role ≠ .viewer ∧ role = .viewer := by
  simp [Client.becomesViewer, and_assoc]

section
variable {p : List Byte} {role : Role} {c : Nat}

theorem setClientRecord_created (hcode : Role.ofCode (byteAt p 1) = some role) (hfree : (s.client c).active = false) :
    setClientRecord c p s =
      s.setClient c ((s.client c).create role (slice p 2 6) (slice p 8 16) (field p 24 4)) := by
  have hactive : ¬ (s.client c).active = true := by simp [hfree]
  have hkeeps : ¬ (s.client c).becomesViewer role = true := fun h => hactive ((becomesViewer_iff _ _).1 h).1
  simp only [setClientRecord, hcode, Option.getD_some]
  rw [if_neg hactive, dropDueIf, if_neg hkeeps]

theorem setClientRecord_modified (hcode : Role.ofCode (byteAt p 1) = some role) (hactive : (s.client c).active = true)
    (hkeeps : ¬ (s.client c).becomesViewer role = true) :
    setClientRecord c p s =
      s.setClient c { s.client c with
        role := role, address := slice p 2 6, label := slice p 8 16
        quota := quotaTaken (field p 24 4) (s.client c).charged } := by
  simp only [setClientRecord, hcode, Option.getD_some]
  rw [if_pos hactive, dropDueIf, if_neg hkeeps, Client.modify, if_neg hkeeps]

theorem setClientRecord_viewer (hcode : Role.ofCode (byteAt p 1) = some role) (hactive : (s.client c).active = true)
    (hviewer : (s.client c).becomesViewer role = true) :
    setClientRecord c p s =
      dropDue c (s.setClient c { s.client c with
        role := role, address := slice p 2 6, label := slice p 8 16
        quota := quotaTaken (field p 24 4) (s.client c).charged, schedule := none, missed := 0 }) := by
  simp only [setClientRecord, hcode, Option.getD_some]
  rw [if_pos hactive, dropDueIf, if_pos hviewer, Client.modify, if_pos hviewer]

end

/-- Settles O23. -/
theorem clientSet : Obligations.ClientSet := by
  refine ⟨fun s r ho hchange => ?_, fun s r c role => ?_⟩
  · intro p address bad
    refine ⟨?_, fun c hc hnamed => ?_⟩
    · refine refusedFirst_of_covers execClientSet rfl rfl ho rfl (.changeable hchange ?_)
      refine .or (by simp [p]) <| .or (by simp [p]) <| .or_or (roleOfCode_isNone_iff _) <|
        .or_or (not_acceptableAddress_iff _) <| .one decide_eq_true_iff <| .one ?_ (.done _)
      by_cases hany : byteAt p 0 = 255
      · have hchosen : s.quiet.clientChosen (byteAt r.payload 0) = s.lowestFreeClient := if_pos hany
        rw [hchosen, lowestFreeClient_isNone_iff]
        simp [hany]
      · have hchosen : s.quiet.clientChosen (byteAt r.payload 0) = some (byteAt p 0) := if_neg hany
        simp [hchosen, hany]
    · intro x owns
      have hchosen : s.quiet.clientChosen (byteAt r.payload 0) = some c := clientChosen_eq hc hnamed
      refine refusedFirst_of_covers execClientSet rfl rfl ho rfl (.changeable hchange ?_)
      refine .or (by simp [p]) <| .or (by simp [p]) <| .or_or (roleOfCode_isNone_iff _) <|
        .or_or (not_acceptableAddress_iff _) <| .one decide_eq_true_iff <| .pass (by rw [hchosen]; rfl) <|
        .one ?_ <| .one ?_ (.done _)
      · rw [hchosen]
        exact addressTaken_iff s c address
      · have howns : (0 < s.collectionsOwned c x.generation ∨ 0 < s.streamsOpenOf c) ↔ owns :=
          or_congr (collectionsOwned_pos_iff s c _) (streamsOpenOf_pos_iff s c)
        rw [hchosen, ← howns]
        exact viewerRefused_iff s c _
  · intro p x q ho hchange hlen hnamed hrole hzero hgroup hquota hunused howns quota created modified
    have hchosen : s.clientChosen (byteAt p 0) = some c := by
      rcases hnamed with ⟨h, hc⟩ | ⟨h, hc, hfree, hbelow⟩
      · exact clientChosen_eq hc (.inl h)
      · exact clientChosen_eq hc (.inr ⟨h, hfree, hbelow⟩)
    have hcode : Role.ofCode (byteAt p 1) = some role := by
      rcases hrole with ⟨h, rfl⟩ | ⟨h, rfl⟩ | ⟨h, rfl⟩ <;> rw [h] <;> rfl
    have haddress : acceptableAddress (slice p 2 6) = true := by
      by_contra h
      rcases (not_acceptableAddress_iff _).1 (by simpa using h) with hall | hbit
      · obtain ⟨b, hb, hne⟩ := hzero
        exact hne (hall b hb)
      · rw [hgroup] at hbit
        contradiction
    have hfree : s.addressTaken c (slice p 2 6) = false := by
      rw [← Bool.not_eq_true, addressTaken_iff]
      rintro ⟨k, hk, hne, hactive, haddr⟩
      exact hunused k hk hne hactive haddr
    have hviewer : s.viewerRefused c role = false := by
      rw [← Bool.not_eq_true]
      intro h
      simp only [State.viewerRefused, Bool.and_eq_true, Bool.or_eq_true, decide_eq_true_eq, and_assoc] at h
      obtain ⟨hactive, hsource, hviewer, hpos⟩ := h
      obtain ⟨hcolls, hstreams⟩ := howns hactive hsource hviewer
      rw [hcolls, hstreams] at hpos
      exact hpos.elim (Nat.lt_irrefl 0) (Nat.lt_irrefl 0)
    have hnumber : byteAt p 0 ≤ 15 ∨ byteAt p 0 = 255 := hnamed.imp (fun h => by omega) fun h => h.1
    have hpass : firstFail (clientSetChecks s.quiet r) = none :=
      firstFail_clientSetChecks (s := s.quiet) hchange hlen hchosen hnumber hcode haddress hquota hfree hviewer
    have hanswers (t : State) (ht : setClientRecord c p s.quiet = t) : Answers .clientSet s r .ok (t.clientRecord c) t := by
      refine ends_of_checks_pass (f := fun _ => clientSetTaken) execClientSet rfl rfl ho rfl hpass ?_
      have hc : (s.quiet.clientChosen (byteAt r.payload 0)).getD 16 = c := congrArg (Option.getD · 16) hchosen
      simp only [clientSetTaken, hc, ← ht]
      rfl
    refine ⟨fun hactive => hanswers _ ?_, fun hactive hrest => hanswers _ ?_, fun hactive hv hx => hanswers _ ?_⟩
    · exact setClientRecord_created (s := s.quiet) hcode hactive
    · refine setClientRecord_modified (s := s.quiet) hcode hactive fun h => ?_
      obtain ⟨-, hx, hv⟩ := (becomesViewer_iff _ _).1 h
      exact hrest.elim (· hv) hx
    · exact setClientRecord_viewer (s := s.quiet) hcode hactive ((becomesViewer_iff _ _).2 ⟨hactive, hx, hv⟩)

end Sys2Proof.Machine
end

section
/-!
PROOFS. CLIENT_RETIRE and SCHEDULE_SET (R36, R39, R136, R176).
-/

namespace Sys2Proof.Machine

variable {s t : State} {r : Request}

/-! ### Their checks -/

theorem ownsRecords_iff (s : State) (c : Nat) :
    s.ownsRecords c = true ↔
      (∃ l ∈ s.oct.colls, l.2.state ≠ .free ∧ l.2.owner = (c, (s.client c).generation))
        ∨ (∃ i < 8, (s.stream i).state ≠ .closed ∧ (s.stream i).client = c)
        ∨ (∃ k < 16, (s.plan k).state ≠ .free ∧ (s.plan k).client = c) ∨ (s.client c).holdStatus ≠ .empty := by
  simp only [State.ownsRecords, Bool.or_eq_true, decide_eq_true_eq, collectionsOwned_pos_iff, streamsOpenOf_pos_iff,
    plansOpenOf_pos_iff, or_assoc]

theorem firstFail_clientRetireChecks (hchange : Changeable s) (hlen : r.payload.length = 1) (hc : byteAt r.payload 0 < 16)
    (hactive : (s.client (byteAt r.payload 0)).active = true) (howns : s.ownsRecords (byteAt r.payload 0) = false) :
    firstFail (clientRetireChecks s r) = none := by
  rw [clientRetireChecks, List.append_assoc, firstFail_changeGate hchange, clientNumberChecks]
  generalize byteAt r.payload 0 = c at hc hactive howns
  simp [hlen, hactive, howns, Nat.not_lt.2 (Nat.le_of_lt_succ hc)]

theorem firstFail_scheduleSetChecks (hchange : Changeable s) (hlen : r.payload.length = 10)
    (hc : byteAt r.payload 0 < 16) (hactive : (s.client (byteAt r.payload 0)).active = true)
    (hpresent : byteAt r.payload 1 = 0 ∨ byteAt r.payload 1 = 1 ∧ 1 ≤ field r.payload 2 2 ∧ field r.payload 2 2 ≤ 40320
      ∧ field r.payload 8 2 ≤ 3600) :
    firstFail (scheduleSetChecks s r) =
      if byteAt r.payload 1 = 1 ∧ (s.client (byteAt r.payload 0)).role = .viewer then some .state else none := by
  have hrange : ¬ 15 < byteAt r.payload 0 := Nat.not_lt.2 (Nat.le_of_lt_succ hc)
  rw [scheduleSetChecks, firstFail_changeGate hchange]
  rcases hpresent with h | ⟨h, hlow, hhigh, hlead⟩
  · simp [hlen, hrange, hactive, h]
  · have hfirst : ¬ field r.payload 2 2 = 0 := Nat.one_le_iff_ne_zero.1 hlow
    have hlast : ¬ 40320 < field r.payload 2 2 := Nat.not_lt.2 hhigh
    have hmax : ¬ 3600 < field r.payload 8 2 := Nat.not_lt.2 hlead
    by_cases hv : (s.client (byteAt r.payload 0)).role = .viewer <;>
      simp [hlen, hrange, hactive, h, hfirst, hlast, hmax, hv, firstFail]

/-- SCHEDULE_SET is taken, and answered with the record after it (R36). -/
def scheduleSetTaken (r : Request) (s : State) : State :=
  let t := writeSchedule (byteAt r.payload 0) (scheduleOf r.payload) s
  answer r .ok (t.clientRecord (byteAt r.payload 0)) t

theorem execScheduleSet_eq (s : State) :
    execScheduleSet s =
      take .scheduleSet anyForm (fun r s => guarded (scheduleSetChecks s r) r (scheduleSetTaken r) s) s := rfl

/-- Settles O24. -/
theorem clientRetireAndScheduleSet : Obligations.ClientRetireAndScheduleSet := by
  refine ⟨fun s r hchange => ?_, fun s r c hchange hbyte hc hactive => ?_⟩
  · intro p c x owns
    refine ⟨fun ho => ?_, fun ho => ?_⟩
    · refine refusedFirst_of_covers execClientRetire rfl rfl ho rfl (.changeable hchange ?_)
      exact .or (by simp [p]) <| .one decide_eq_true_iff <| .one (by simp [x, c, p]) <| .one (ownsRecords_iff s c) (.done _)
    · refine refusedFirst_of_covers execScheduleSet rfl rfl ho rfl (.changeable hchange ?_)
      have hviewer : (decide (byteAt p 1 = 1) && decide (x.role = .viewer)) = true ↔ byteAt p 1 = 1 ∧ x.role = .viewer := by
        rw [Bool.and_eq_true, decide_eq_true_iff, decide_eq_true_iff]
      have hsplit : (byteAt p 1 = 1 ∧ (field p 2 2 < 1 ∨ 40320 < field p 2 2)) ∨ (byteAt p 1 = 1 ∧ 3600 < field p 8 2) ↔
          byteAt p 1 = 1 ∧ (field p 2 2 < 1 ∨ 40320 < field p 2 2 ∨ 3600 < field p 8 2) := by
        rw [← and_or_left, or_assoc]
      exact .or (by simp [p]) <| .or decide_eq_true_iff <| .or decide_eq_true_iff <| .iff hsplit <|
        .or (by simp [p]) <| .one (by simp [p]) <| .one (by simp [x, c, p]) <| .one hviewer (.done _)
  · subst hbyte
    refine ⟨fun ho hlen hcolls hstreams hplans hhold => ?_, fun ho hlen => ?_⟩
    · intro u t
      have howns : s.ownsRecords (byteAt r.payload 0) = false := by
        simp [State.ownsRecords, hcolls, hstreams, hplans, hhold]
      exact ends_of_checks_pass execClientRetire rfl rfl ho rfl
        (firstFail_clientRetireChecks (s := s.quiet) hchange hlen hc hactive howns) rfl
    · intro p written
      have hanswers (y : Option Schedule) (hy : scheduleOf p = y)
          (hpass : firstFail (scheduleSetChecks s.quiet r) = none) :
          Answers .scheduleSet s r .ok ((written y).clientRecord (byteAt p 0)) (written y) := by
        subst hy
        exact ends_of_checks_pass execScheduleSet rfl (execScheduleSet_eq s) ho rfl hpass rfl
      refine ⟨fun h0 => ?_, fun h1 hlow hhigh hlead => ⟨fun hv => ?_, fun hv => ?_⟩⟩
      · refine hanswers _ (if_neg (by rw [h0]; decide)) ?_
        have h0' : byteAt r.payload 1 = 0 := h0
        rw [firstFail_scheduleSetChecks (s := s.quiet) hchange hlen hc hactive (.inl h0), h0']
        rfl
      · refine hanswers _ (if_pos h1) ?_
        rw [firstFail_scheduleSetChecks (s := s.quiet) hchange hlen hc hactive (.inr ⟨h1, hlow, hhigh, hlead⟩)]
        exact if_neg fun h => hv h.2
      · refine refused_of_firstFail scheduleSetChecks (fun _ => scheduleSetTaken) (execScheduleSet_eq s) ho rfl ?_
        rw [firstFail_scheduleSetChecks (s := s.quiet) hchange hlen hc hactive (.inr ⟨h1, hlow, hhigh, hlead⟩)]
        exact if_pos ⟨h1, hv⟩

end Sys2Proof.Machine
end

section
/-!
PROOFS. The requests that only read (R38, R66, R90, R108 to R110, R120, R126, R166, R178, R185, R186).
-/

namespace Sys2Proof.Machine

variable {s t : State} {r : Request}

/-- A payload of no bytes, as its length is checked. -/
theorem not_hasLength_zero_iff (r : Request) : (!r.hasLength 0) = true ↔ r.payload ≠ [] := by
  simp

/-- A payload of `n` bytes, as its length is checked. -/
theorem not_hasLength_iff (r : Request) (n : Nat) : (!r.hasLength n) = true ↔ r.payload.length ≠ n := by
  simp

theorem not_hasLength_of {n : Nat} (h : r.payload.length = n) : (!r.hasLength n) = false := by
  simp [h]

theorem not_hasLength_of_eq_nil (h : r.payload = []) : (!r.hasLength 0) = false := by
  simp [h]

/-- A number below a bound, as it is checked. -/
theorem decide_lt_of_lt {m n : Nat} (h : n < m + 1) : decide (m < n) = false :=
  decide_eq_false (Nat.not_lt.2 (Nat.le_of_lt_succ h))

theorem decide_le_of_lt {m n : Nat} (h : n < m) : decide (m ≤ n) = false :=
  decide_eq_false (Nat.not_le.2 h)

/-! ### Past a check, and past a gate -/

section
variable {cs : List (Bool × Status)} {o : Option Status}

theorem firstFail_skip {b : Bool} {st : Status} (hb : b = false) (h : firstFail cs = o) : firstFail ((b, st) :: cs) = o := by
  rw [hb, firstFail_pass, h]

theorem firstFail_readable (hload : Readable s) (h : firstFail cs = o) :
    firstFail ((!s.quiet.loaded, .notLoaded) :: cs) = o :=
  firstFail_skip (by simp [loaded_of_readable hload]) h

theorem firstFail_changeable (hchange : Changeable s) (h : firstFail cs = o) :
    firstFail ((!s.quiet.loaded, .notLoaded) :: (s.quiet.tiu.exporting, .imageBusy) :: cs) = o :=
  firstFail_readable hchange.1 (firstFail_skip hchange.2 h)

end

/-! ### Reads of records -/

theorem flagByte_decide (P : Prop) [Decidable P] : flagByte (decide P) = if P then 1#8 else 0#8 := by
  by_cases h : P <;> simp [flagByte, h]

/-- TEMPLATE_SET with aux 1 is checked for its length and its number alone (R185). -/
def templateReadChecks (r : Request) : List (Bool × Status) :=
  [(!r.hasLength 1, .badField), (decide (3 < byteAt r.payload 0), .badField)]

theorem templateRead_answers (ho : Offered s .templateSet r) (haux : r.aux = 1#16) (hlen : r.payload.length = 1)
    (hi : byteAt r.payload 0 < 4) : Answers .templateRead s r .ok (s.templateRecord (byteAt r.payload 0)) s.quiet :=
  ends_of_checks_pass (checks := fun _ => templateReadChecks) execTemplateRead rfl rfl ho (by simp [haux])
    (firstFail_skip (not_hasLength_of hlen) <| firstFail_skip (decide_lt_of_lt hi) rfl) rfl

theorem templateRecord_some {i : Nat} {x : Template} (hx : s.template i = some x) :
    s.templateRecord i =
      le 1 i ++ [1#8] ++ le 2 x.offset ++ le 1 x.pattern.length ++ le 1 x.reply.length ++ x.pattern ++ x.mask ++ x.reply := by
  rw [State.templateRecord, hx]

/-- Settles O25: each answers over the state as it stands, past its gate and checks. -/
theorem readsAnswerTheRecordAndChangeNothing : Obligations.ReadsAnswerTheRecordAndChangeNothing := by
  refine ⟨fun s r => ?_, fun s r => ?_⟩
  · intro p client
    refine ⟨fun ho hload => ?_, fun ho hload => ?_, fun ho hload => ?_, fun ho hload => ?_, fun ho hload => ?_,
      fun ho hchange haux => ?_, fun ho => ?_, fun ho hload haux => ?_, fun ho haux => ?_⟩
    · refine refusedFirst_of_covers execClientRead rfl rfl ho rfl (.readable hload ?_)
      exact .or (not_hasLength_iff r 1) <| .one decide_eq_true_iff (.done _)
    · refine refusedFirst_of_covers execStreamRead rfl rfl ho rfl (.readable hload ?_)
      exact .or decide_eq_true_iff <| .one (not_hasLength_zero_iff r) (.done _)
    · refine refusedFirst_of_covers execCollectionRead rfl rfl ho rfl (.readable hload ?_)
      exact .or (not_hasLength_iff r 2) <| .one decide_eq_true_iff (.done _)
    · refine refusedFirst_of_covers execMembersFetch rfl rfl ho rfl (.readable hload ?_)
      exact .or (not_hasLength_iff r 6) <| .or decide_eq_true_iff <| .one decide_eq_true_iff <|
        .one decide_eq_true_iff (.done _)
    · refine refusedFirst_of_covers execObjectRead rfl rfl ho rfl (.readable hload ?_)
      exact .or (not_hasLength_iff r 10) <| .or decide_eq_true_iff <| .one decide_eq_true_iff (.done _)
    · have hform : decide (r.auxNat = 1) = true := by simp [haux]
      have hone : decide (1 < r.auxNat) = false := by simp [haux]
      refine refusedFirst_of_covers execReleaseTakeLastBatch rfl rfl ho hform (.changeable hchange ?_)
      exact .pass hone <| .or (not_hasLength_iff r 2) <| .one (by simp [p]) (.done _)
    · exact refusedFirst_of_covers (checks := fun _ r => [(!r.hasLength 0, .badField)]) execBayStatus rfl rfl ho rfl
        (.one (not_hasLength_zero_iff r) (.done _))
    · have hform : decide (r.auxNat = 1) = true := by simp [haux]
      refine refusedFirst_of_covers execFilterRead rfl rfl ho hform (.readable hload ?_)
      exact .or (not_hasLength_iff r 1) <| .one decide_eq_true_iff <| .one (by simp [client, p]) (.done _)
    · have hform : decide (r.auxNat = 1) = true := by simp [haux]
      refine refusedFirst_of_covers (checks := fun _ => templateReadChecks) execTemplateRead rfl rfl ho hform ?_
      exact .or (not_hasLength_iff r 1) <| .one decide_eq_true_iff (.done _)
  · intro p
    refine ⟨fun ho hload hlen hc => ?_, fun ho hload hlen hi => ?_, fun ho hload hlen hn => ?_,
      fun ho hload hlen hc hm hfree => ?_, fun ho hload hlen hn hcount => ?_, fun ho hchange haux hlen hlow hhigh => ?_,
      fun ho hlen => ?_, fun ho hload haux hlen hc hactive => ?_, fun ho haux hlen hi => ⟨fun hnone => ?_, fun x hx => ?_⟩⟩
    · exact ends_of_checks_pass execClientRead rfl rfl ho rfl
        (firstFail_readable hload <| firstFail_skip (not_hasLength_of hlen) <| firstFail_skip (decide_lt_of_lt hc) rfl) rfl
    · exact ends_of_checks_pass execStreamRead rfl rfl ho rfl
        (firstFail_readable hload <| firstFail_skip (decide_lt_of_lt hi) <|
          firstFail_skip (not_hasLength_of_eq_nil hlen) rfl) rfl
    · exact ends_of_checks_pass execCollectionRead rfl rfl ho rfl
        (firstFail_readable hload <| firstFail_skip (not_hasLength_of hlen) <| firstFail_skip (decide_le_of_lt hn) rfl) rfl
    · intro from_
      rw [← flagByte_decide]
      exact ends_of_checks_pass execMembersFetch rfl rfl ho rfl
        (firstFail_readable hload <| firstFail_skip (not_hasLength_of hlen) <| firstFail_skip (decide_le_of_lt hc) <|
          firstFail_skip (decide_le_of_lt hm) <| firstFail_skip (decide_eq_false hfree) rfl) rfl
    · exact ends_of_checks_pass execObjectRead rfl rfl ho rfl
        (firstFail_readable hload <| firstFail_skip (not_hasLength_of hlen) <| firstFail_skip (decide_le_of_lt hn) <|
          firstFail_skip (decide_lt_of_lt (Nat.lt_succ_of_le hcount)) rfl) rfl
    · have hform : decide (r.auxNat = 1) = true := by simp [haux]
      have hone : decide (1 < r.auxNat) = false := by simp [haux]
      have hcount : (decide (field r.payload 0 2 = 0) || decide (512 < field r.payload 0 2)) = false := by
        rw [Bool.or_eq_false_iff, decide_eq_false_iff_not, decide_eq_false_iff_not]
        exact ⟨Nat.one_le_iff_ne_zero.1 hlow, Nat.not_lt.2 hhigh⟩
      exact ends_of_checks_pass execReleaseTakeLastBatch rfl rfl ho hform
        (firstFail_changeable hchange <| firstFail_skip hone <| firstFail_skip (not_hasLength_of hlen) <|
          firstFail_skip hcount rfl) rfl
    · exact ends_of_checks_pass (checks := fun _ r => [(!r.hasLength 0, .badField)]) execBayStatus rfl rfl ho rfl
        (firstFail_skip (not_hasLength_of_eq_nil hlen) rfl) rfl
    · have hform : decide (r.auxNat = 1) = true := by simp [haux]
      exact ends_of_checks_pass execFilterRead rfl rfl ho hform
        (firstFail_readable hload <| firstFail_skip (not_hasLength_of hlen) <| firstFail_skip (decide_lt_of_lt hc) <|
          firstFail_skip (by simpa using hactive) rfl) rfl
    · have hrec : s.templateRecord (byteAt p 0) = le 1 (byteAt p 0) ++ [0#8] := by rw [State.templateRecord, hnone]
      rw [← hrec]
      exact templateRead_answers ho haux hlen hi
    · have hrec := templateRecord_some hx
      rw [← hrec]
      exact templateRead_answers ho haux hlen hi

/-! ### Reads with bytes of no stated content -/

theorem flagByte_eq (b : Bool) : flagByte b = if b = true then 1#8 else 0#8 := rfl

theorem freeBytes_length (s : State) (n : Nat) : (s.freeBytes n).length = n := by
  simp [State.freeBytes]

theorem chunkNamed_handle {p : List Byte} (h : byteAt p 0 = 0) : s.chunkNamed p = some (field p 1 4) := if_pos h

theorem chunkNamed_digest {p : List Byte} (h : byteAt p 0 = 1) :
    s.chunkNamed p = s.findDigest (digestOf (slice p 1 32)) := if_neg (by rw [h]; decide)

/-- The checks of CHUNK_READ for a payload in range come to whether the entry is there (R90). -/
theorem firstFail_chunkReadChecks (hload : Readable s) (hlen : r.payload.length = 33) {o : Option Status}
    (hsel : byteAt r.payload 0 = 0 ∧ field r.payload 1 4 < 33554432 ∨ byteAt r.payload 0 = 1)
    (h : firstFail [((s.chunkNamed r.payload).isNone, .noSuch)] = o) : firstFail (chunkReadChecks s.quiet r) = o := by
  have hone : decide (1 < byteAt r.payload 0) = false := by
    rcases hsel with ⟨h, -⟩ | h <;> rw [h] <;> rfl
  have hrange : (decide (byteAt r.payload 0 = 0) && decide (Config.chunkCount ≤ field r.payload 1 4)) = false := by
    rcases hsel with ⟨-, h⟩ | h
    · rw [decide_le_of_lt h, Bool.and_false]
    · rw [h]
      rfl
  exact firstFail_readable hload <| firstFail_skip (not_hasLength_of hlen) <| firstFail_skip hone <|
    firstFail_skip hrange h

theorem chunkRead_answers {h : Nat} (ho : Offered s .chunkRead r) (hload : Readable s) (hlen : r.payload.length = 33)
    (hsel : byteAt r.payload 0 = 0 ∧ field r.payload 1 4 < 33554432 ∨ byteAt r.payload 0 = 1)
    (hnamed : s.chunkNamed r.payload = some h) :
    ∃ open_ : List Byte, open_.length = 2
      ∧ Answers .chunkRead s r .ok ((s.chunk h).record h open_) { s.quiet with free := s.free + 2 } := by
  refine ⟨s.freeBytes 2, freeBytes_length s 2, ends_of_checks_pass (f := fun _ => chunkReadTaken) execChunkRead rfl rfl ho rfl
    (firstFail_chunkReadChecks hload hlen hsel (by rw [hnamed]; rfl)) ?_⟩
  have hquiet : (s.quiet.chunkNamed r.payload).getD 0 = h := congrArg (Option.getD · 0) hnamed
  simp only [chunkReadTaken, hquiet]
  rfl

/-- Settles O26. -/
theorem readsWithUnstatedBytes : Obligations.ReadsWithUnstatedBytes := by
  refine ⟨fun s r => ⟨fun ho hload => ?_, fun ho hload => ?_, fun ho => ?_⟩, fun s r => ?_⟩
  · refine refusedFirst_of_covers (f := fun _ => chunkReadTaken) execChunkRead rfl rfl ho rfl (.readable hload ?_)
    refine .or (not_hasLength_iff r 33) <| .or decide_eq_true_iff <| .one ?_ (.done _)
    rw [Bool.and_eq_true, decide_eq_true_iff, decide_eq_true_iff]
    exact and_congr_right fun _ => Nat.succ_le_iff
  · refine refusedFirst_of_covers execWalkStatus rfl rfl ho rfl (.readable hload ?_)
    exact .one (not_hasLength_zero_iff r) (.done _)
  · exact refusedFirst_of_covers (checks := fun _ r => [(!r.hasLength 0, .badField)]) execPowerStatus rfl rfl ho rfl
      (.one (not_hasLength_zero_iff r) (.done _))
  · intro p spent
    refine ⟨fun ho hload hlen => ⟨fun h h0 hfield hh => ?_, fun h h1 hfind => ?_, fun h1 hfind => ?_⟩,
      fun ho hload hlen => ?_, fun ho hlen => ?_⟩
    · subst hfield
      exact chunkRead_answers ho hload hlen (.inl ⟨h0, hh⟩) (chunkNamed_handle h0)
    · exact chunkRead_answers ho hload hlen (.inr h1) ((chunkNamed_digest h1).trans hfind)
    · refine refused_of_firstFail chunkReadChecks (fun _ => chunkReadTaken) (k := .chunkRead) (form := anyForm) rfl ho rfl ?_
      refine firstFail_chunkReadChecks hload hlen (.inr h1) ?_
      rw [chunkNamed_digest h1, hfind]
      rfl
    · refine ⟨s.freeBytes 4, (s.spend 4).freeBytes 4, freeBytes_length _ _, freeBytes_length _ _, ?_⟩
      refine ends_of_checks_pass execWalkStatus rfl rfl ho rfl
        (firstFail_readable hload <| firstFail_skip (not_hasLength_of_eq_nil hlen) rfl) ?_
      refine congrArg (answer r .ok · (spent 8)) (?_ : s.walkRecord = _)
      unfold State.walkRecord
      generalize s.rtu.walk = walk, s.rtu.current = current, s.rtu.nested = nested
      rcases current with _ | _ | _ <;> cases walk <;> cases nested <;> rfl
    · refine ⟨Config.freeByte s.free, ?_⟩
      exact ends_of_checks_pass (checks := fun _ r => [(!r.hasLength 0, .badField)]) execPowerStatus rfl rfl ho rfl
        (firstFail_skip (not_hasLength_of_eq_nil hlen) rfl) rfl

end Sys2Proof.Machine
end

section
/-!
PROOFS. The layouts of the records (Tables 2.2, 2.7, 3.6, 4.4, 5.7, 5.8, 7.6, 9.4, 10.4, R66).
-/

namespace Sys2Proof.Machine

variable {s t : State} {r : Request}

@[simp] theorem toNat_flagByte (b : Bool) : (flagByte b).toNat = if b = true then 1 else 0 := by
  cases b <;> rfl

/-- Contexts counted over their vector, and over their numbers. -/
theorem length_filter_toList {α : Type} {n : Nat} (d : α) (v : Vector α n) (f : α → Bool) :
    (v.toList.filter f).length = ((List.range n).filter fun i => f (slot d v i)).length := by
  rw [toList_eq_map_slot d, List.filter_map, List.length_map]
  rfl

theorem streamsOpenOf_eq (s : State) (c : Nat) :
    s.streamsOpenOf c = ((List.range 8).filter fun i =>
      decide ((s.stream i).state ≠ .closed ∧ (s.stream i).client = c)).length := by
  rw [State.streamsOpenOf, length_filter_toList Stream.closed]
  simp only [Bool.decide_and]

theorem plansOpenOf_eq (s : State) (c : Nat) :
    s.plansOpenOf c = ((List.range 16).filter fun i =>
      decide ((s.plan i).state ≠ .free ∧ (s.plan i).client = c)).length := by
  rw [State.plansOpenOf, length_filter_toList Plan.free]
  simp only [Bool.decide_and]

theorem length_filter_range_mod {n m : Nat} (h : n < m) (f : Nat → Bool) :
    ((List.range n).filter f).length % m = ((List.range n).filter f).length :=
  Nat.mod_eq_of_lt (((List.length_filter_le _ _).trans_eq List.length_range).trans_lt h)

@[simp] theorem scheduleBytes_length (x : Option Schedule) : (scheduleBytes x).length = 9 := by
  cases x <;> simp [scheduleBytes]

/-- The client record, its parts one after the other. -/
theorem clientRecord_eq (s : State) (c : Nat) :
    s.clientRecord c = le 1 c ++ (flagByte (s.client c).active :: (le 1 (s.client c).generation ++ (le 1 (s.client c).role.code
      ++ ((s.client c).address ++ ((s.client c).label ++ (le 4 ((s.client c).quota.getD 0) ++ (le 6 (s.client c).charged
      ++ (scheduleBytes (s.client c).schedule ++ (le 1 (s.client c).missed ++ (flagByte (s.bxp.dueFlag c)
      :: (le 1 (s.client c).filters.length ++ (le 1 (s.client c).holdStatus.code ++ (le 1 (s.client c).held.length
      ++ (le 2 (s.collectionsOwned c (s.client c).generation) ++ (le 1 (s.streamsOpenOf c) ++ (le 1 (s.plansOpenOf c)
      ++ [0#8, 0#8])))))))))))))))) := by
  simp only [State.clientRecord, List.append_assoc, List.cons_append, List.nil_append]

theorem collectionsOwned_eq (s : State) (c g : Nat) :
    s.collectionsOwned c g = (s.oct.colls.filter fun q => decide (q.2.state ≠ .free ∧ q.2.owner = (c, g))).length := by
  simp only [State.collectionsOwned, Bool.decide_and]

/-- Table 2.7. -/
theorem clientRecord_fields (s : State) (c : Nat) (hc : c < 16) (ha : (s.client c).address.length = 6)  (hl : (s.client c).label.length = 16) :
        let x := s.client c
        let rec_ := s.clientRecord c
        rec_.length = 56 ∧ byteAt rec_ 0 = c ∧ byteAt rec_ 1 = (if x.active = true then 1 else 0)
          ∧ byteAt rec_ 2 = x.generation % 256
          ∧ byteAt rec_ 3 = (match x.role with | .unset => 0 | .source => 1 | .viewer => 2 | .family => 3)
          ∧ slice rec_ 4 6 = x.address ∧ slice rec_ 10 16 = x.label
          ∧ field rec_ 26 4 = x.quota.getD 0 % 4294967296 ∧ field rec_ 30 6 = x.charged % 281474976710656
          ∧ (x.schedule = none → slice rec_ 36 9 = List.replicate 9 0#8)
          ∧ (∀ y, x.schedule = some y →
              byteAt rec_ 36 = 1 ∧ field rec_ 37 2 = y.period % 65536 ∧ field rec_ 39 4 = y.nextDue % 4294967296
                ∧ field rec_ 43 2 = y.lead % 65536)
          ∧ byteAt rec_ 45 = x.missed % 256
          ∧ byteAt rec_ 46 = (if s.bxp.due.getLsbD c then 1 else 0)
          ∧ byteAt rec_ 47 = x.filters.length % 256
          ∧ byteAt rec_ 48 = (match x.holdStatus with | .empty => 0 | .one => 1 | .two => 2 | .lost => 3)
          ∧ byteAt rec_ 49 = x.held.length % 256
          ∧ field rec_ 50 2 = (s.oct.colls.filter fun q =>
              decide (q.2.state ≠ .free ∧ q.2.owner = (c, x.generation))).length % 65536
          ∧ byteAt rec_ 52 = ((List.range 8).filter fun i =>
              decide ((s.stream i).state ≠ .closed ∧ (s.stream i).client = c)).length
          ∧ byteAt rec_ 53 = ((List.range 16).filter fun i =>
              decide ((s.plan i).state ≠ .free ∧ (s.plan i).client = c)).length
          ∧ slice rec_ 54 2 = [0#8, 0#8] := by
  intro x rec_
  have hc' : c < 256 := by omega
  have hsched : (scheduleBytes (s.client c).schedule).length = 9 := scheduleBytes_length _
  have hstreams : s.streamsOpenOf c % 256 = s.streamsOpenOf c := by
    rw [streamsOpenOf_eq]
    exact length_filter_range_mod (by decide) _
  have hplans : s.plansOpenOf c % 256 = s.plansOpenOf c := by
    rw [plansOpenOf_eq]
    exact length_filter_range_mod (by decide) _
  rw [show rec_ = _ from clientRecord_eq s c, ← streamsOpenOf_eq, ← plansOpenOf_eq, ← collectionsOwned_eq]
  refine ⟨?_, ?_, ?_, ?_, ?_, ?_, ?_, ?_, ?_, fun hnone => ?_, fun y hy => ?_, ?_, ?_, ?_, ?_, ?_, ?_, ?_, ?_, ?_⟩
  case refine_5 =>
    suffices h : x.role.code % 256 = _ by simpa [byteAt] using h
    cases x.role <;> rfl
  case refine_10 =>
    refine Eq.trans ?_ (congrArg scheduleBytes hnone : scheduleBytes (s.client c).schedule = _)
    simp [ha, hl, hsched]
  case refine_11 =>
    have hsched : scheduleBytes (s.client c).schedule = 1#8 :: (le 2 y.period ++ le 4 y.nextDue ++ le 2 y.lead) :=
      congrArg scheduleBytes hy
    simp [byteAt, ha, hl, hsched]
  case refine_13 => simp [byteAt, ha, hl, hsched, Bxp.dueFlag]
  case refine_15 =>
    suffices h : x.holdStatus.code % 256 = _ by simpa [byteAt, ha, hl, hsched] using h
    cases x.holdStatus <;> rfl
  case refine_18 => simpa [byteAt, ha, hl, hsched] using hstreams
  case refine_19 => simpa [byteAt, ha, hl, hsched] using hplans
  case refine_2 => simpa [byteAt] using hc'
  all_goals simp [x, ha, hl, hsched]

/-- The collection record, its parts one after the other. -/
theorem collRecord_eq (s : State) (n : Nat) :
    s.collRecord n = le 2 n ++ ((s.coll n).state.code :: (s.coll n).kind.code :: (le 1 (s.coll n).owner.1
      ++ (le 1 (s.coll n).owner.2 ++ (le 4 (s.coll n).created ++ (flagByte (s.coll n).closed.isSome
      :: (le 4 ((s.coll n).closed.getD 0) ++ (le 3 (s.coll n).members.length ++ (le 1 (s.coll n).reserved
      ++ (le 4 (pagesOf (s.coll n).slots) ++ (le 4 s.oct.freePages ++ List.replicate 5 0#8)))))))))) := by
  simp only [State.collRecord, List.append_assoc, List.cons_append, List.nil_append]

/-- Table 5.7. -/
theorem collRecord_fields (s : State) (n : Nat) :
        let x := s.coll n
        let rec_ := s.collRecord n
        rec_.length = 32 ∧ field rec_ 0 2 = n % 65536
          ∧ byteAt rec_ 2 = (match x.state with | .free => 0 | .open => 1 | .closed => 2 | .retiring => 3)
          ∧ byteAt rec_ 3 = (match x.kind with | .snapshot => 1 | .album => 2)
          ∧ byteAt rec_ 4 = x.owner.1 % 256 ∧ byteAt rec_ 5 = x.owner.2 % 256 ∧ field rec_ 6 4 = x.created % 4294967296
          ∧ (x.closed = none → byteAt rec_ 10 = 0 ∧ field rec_ 11 4 = 0)
          ∧ (∀ at_, x.closed = some at_ → byteAt rec_ 10 = 1 ∧ field rec_ 11 4 = at_ % 4294967296)
          ∧ field rec_ 15 3 = x.members.length % 16777216 ∧ byteAt rec_ 18 = x.reserved % 256
          ∧ field rec_ 19 4 = (x.members.length + x.reserved + 63) / 64 % 4294967296
          ∧ field rec_ 23 4 = s.oct.freePages % 4294967296 ∧ slice rec_ 27 5 = List.replicate 5 0#8 := by
  intro x rec_
  rw [show rec_ = _ from collRecord_eq s n]
  refine ⟨?_, ?_, ?_, ?_, ?_, ?_, ?_, fun hnone => ?_, fun y hy => ?_, ?_, ?_, ?_, ?_, ?_⟩
  case refine_3 =>
    suffices h : x.state.code.toNat = _ by simpa [byteAt] using h
    cases x.state <;> rfl
  case refine_4 =>
    suffices h : x.kind.code.toNat = _ by simpa [byteAt] using h
    cases x.kind <;> rfl
  case refine_8 =>
    have hclosed : (s.coll n).closed = none := hnone
    simp [byteAt, hclosed]
  case refine_9 =>
    have hclosed : (s.coll n).closed = some y := hy
    simp [byteAt, hclosed]
  case refine_12 => simp [x, pagesOf, Coll.slots, Config.pageSlots]
  all_goals simp [x]

end Sys2Proof.Machine
end

section
/-!
PROOFS. The layouts of the bay, power and clock records (Tables 2.2, 9.4, 10.4).
-/

namespace Sys2Proof.Machine

variable {s t : State} {r : Request}

/-! ### Bays -/

@[simp] theorem timerBytes_length (x : Option (BayTimer × Nat)) : (timerBytes x).length = 3 := by
  cases x <;> simp [timerBytes]

/-- The bay record, its parts one after the other. -/
theorem bayRecord_eq (b : Bpc) (i : Nat) :
    b.bayRecord i = (b.bay i).state.code :: (le 1 (b.bay i).streamHolds ++ (le 1 (b.bay i).planHolds
      ++ (flagByte (b.bay i).manual :: flagByte (b.bay i).respin :: (le 1 (b.queuePlace i) ++ (timerBytes (b.bay i).timer
      ++ (le 1 (b.bay i).state.draw ++ [flagByte (b.bay i).present, 0#8])))))) := by
  simp only [Bpc.bayRecord, List.append_assoc, List.cons_append, List.nil_append]

@[simp] theorem bayRecord_length (b : Bpc) (i : Nat) : (b.bayRecord i).length = 12 := by
  simp [bayRecord_eq]

theorem bayRecord_draw (b : Bpc) (i : Nat) : byteAt (b.bayRecord i) 9 = (b.bay i).state.draw := by
  suffices h : (b.bay i).state.draw % 256 = (b.bay i).state.draw by simpa [bayRecord_eq, byteAt] using h
  cases (b.bay i).state <;> rfl

theorem queuePlace_of_mem {b : Bpc} {i : Nat} {before after : List Nat} (hq : b.queue = before ++ i :: after)
    (hi : i ∉ before) : b.queuePlace i = before.length + 1 := by
  have hmem : i ∈ b.queue := by simp [hq]
  rw [Bpc.queuePlace, if_pos hmem, hq, List.idxOf_append_of_notMem hi, List.idxOf_cons_self, Nat.add_zero]

/-- Table 9.4, bytes of one bay. -/
theorem bayRecord_fields (b : Bpc) (i : Nat) :
        let x := b.bay i
        let rec_ := b.bayRecord i
        rec_.length = 12
          ∧ byteAt rec_ 0 = (match x.state with
              | .empty => 0 | .off => 1 | .queued => 2 | .spinningUp => 3 | .ready => 4 | .spinningDown => 5)
          ∧ byteAt rec_ 1 = x.streamHolds % 256 ∧ byteAt rec_ 2 = x.planHolds % 256
          ∧ byteAt rec_ 3 = (if x.manual = true then 1 else 0) ∧ byteAt rec_ 4 = (if x.respin = true then 1 else 0)
          ∧ (i ∉ b.queue → byteAt rec_ 5 = 0)
          ∧ (∀ before after, b.queue = before ++ i :: after → i ∉ before →
              byteAt rec_ 5 = (before.length + 1) % 256)
          ∧ (x.timer = none → byteAt rec_ 6 = 0 ∧ field rec_ 7 2 = 0)
          ∧ (∀ k n, x.timer = some (k, n) →
              byteAt rec_ 6 = (match k with | .spinUp => 1 | .idle => 2 | .spinDown => 3) ∧ field rec_ 7 2 = n % 65536)
          ∧ byteAt rec_ 9 = (match x.state with
              | .empty => 0 | .off => 0 | .queued => 0 | .spinningUp => 5 | .ready => 2 | .spinningDown => 2)
          ∧ byteAt rec_ 10 = (if x.present = true then 1 else 0) ∧ byteAt rec_ 11 = 0 := by
  intro x rec_
  rw [show rec_ = _ from bayRecord_eq b i]
  refine ⟨?_, ?_, ?_, ?_, ?_, ?_, fun hi => ?_, fun before after hq hi => ?_, fun hnone => ?_, fun k n hk => ?_, ?_, ?_, ?_⟩
  case refine_2 =>
    suffices h : x.state.code.toNat = _ by simpa [byteAt] using h
    cases x.state <;> rfl
  case refine_7 => simp [byteAt, Bpc.queuePlace, hi]
  case refine_8 => simp [byteAt, queuePlace_of_mem hq hi]
  case refine_9 =>
    have htimer : timerBytes (b.bay i).timer = 0#8 :: le 2 0 := congrArg timerBytes hnone
    simp [byteAt, htimer]
  case refine_10 =>
    have htimer : timerBytes (b.bay i).timer = k.code :: le 2 n := congrArg timerBytes hk
    suffices h : k.code.toNat = _ by simpa [byteAt, htimer] using h
    cases k <;> rfl
  case refine_11 =>
    suffices h : x.state.draw % 256 = _ by simpa [byteAt] using h
    cases x.state <;> rfl
  all_goals simp [x]

theorem byteAt_of_getElem? {p : List Byte} {k : Nat} {b : Byte} (h : p[k]? = some b) : byteAt p k = b.toNat := by
  have hone : slice p k 1 = [b] := by
    rw [slice, List.take_one, List.head?_drop, h]
    rfl
  rw [byteAt, field, hone, ofLe_singleton]

/-- The draw of the four bays (R159). -/
theorem totalDraw_eq (b : Bpc) : b.totalDraw = ((List.range 4).map fun i => (b.bay i).state.draw).sum := by
  rw [Bpc.totalDraw, toList_eq_map_slot (Bay.atReset false), List.map_map]
  rfl

theorem totalDraw_lt (b : Bpc) : b.totalDraw < 256 := by
  have hdraw (i : Nat) : (b.bay i).state.draw ≤ 5 := by cases (b.bay i).state <;> decide
  have h0 := hdraw 0
  have h1 := hdraw 1
  have h2 := hdraw 2
  have h3 := hdraw 3
  rw [totalDraw_eq]
  simp only [List.range_succ, List.range_zero, List.nil_append, List.map_append, List.map_cons, List.map_nil, List.sum_append,
    List.sum_cons, List.sum_nil]
  omega

/-- The BAY_STATUS record, its parts one after the other. -/
theorem bayStatusRecord_eq (s : State) :
    s.bayStatusRecord = le 1 s.bpc.totalDraw ++ (le 1 s.slc.settings.budget ++ (flagByte s.bpc.force
      :: (le 1 s.bpc.queue.length ++ (s.bpc.queue.map (BitVec.ofNat 8) ++ (List.replicate (4 - s.bpc.queue.length) 0xFF#8
      ++ (s.bpc.bayRecord 0 ++ (s.bpc.bayRecord 1 ++ (s.bpc.bayRecord 2 ++ s.bpc.bayRecord 3)))))))) := by
  simp [State.bayStatusRecord, List.range_succ, List.append_assoc]

theorem bayStatusRecord_split (s : State) :
    ∃ front : List Byte, front.length = 4 ∧ s.bayStatusRecord = front
      ++ ((s.bpc.queue.map (BitVec.ofNat 8) ++ List.replicate (4 - s.bpc.queue.length) 0xFF#8)
      ++ (s.bpc.bayRecord 0 ++ (s.bpc.bayRecord 1 ++ (s.bpc.bayRecord 2 ++ s.bpc.bayRecord 3)))) :=
  ⟨le 1 s.bpc.totalDraw ++ (le 1 s.slc.settings.budget ++ (flagByte s.bpc.force :: le 1 s.bpc.queue.length)), by simp,
    by simp only [bayStatusRecord_eq, List.append_assoc, List.cons_append]⟩

/-- Table 9.4. -/
theorem bayStatusRecord_fields (s : State) (hqueue : s.bpc.queue.length ≤ 4) :
        let rec_ := s.bayStatusRecord
        rec_.length = 56 ∧ byteAt rec_ 0 = ((List.range 4).map fun i => byteAt (s.bpc.bayRecord i) 9).sum
          ∧ byteAt rec_ 1 = s.slc.settings.budget % 256 ∧ byteAt rec_ 2 = (if s.bpc.force = true then 1 else 0)
          ∧ byteAt rec_ 3 = s.bpc.queue.length
          ∧ (∀ k < 4, byteAt rec_ (4 + k) = (match s.bpc.queue[k]? with | some i => i % 256 | none => 255))
          ∧ ∀ i < 4, slice rec_ (8 + 12 * i) 12 = s.bpc.bayRecord i := by
  intro rec_
  have hrest : s.bpc.queue.length + (4 - s.bpc.queue.length) = 4 := by omega
  refine ⟨?_, ?_, ?_, ?_, ?_, fun k hk => ?_, fun i hi => ?_⟩
  · simp [rec_, bayStatusRecord_eq]
    omega
  · simp only [bayRecord_draw, ← totalDraw_eq]
    suffices h : s.bpc.totalDraw % 256 = s.bpc.totalDraw by simpa [rec_, bayStatusRecord_eq, byteAt] using h
    exact Nat.mod_eq_of_lt (totalDraw_lt _)
  · simp [rec_, bayStatusRecord_eq]
  · simp [rec_, bayStatusRecord_eq]
  · suffices h : s.bpc.queue.length % 256 = s.bpc.queue.length by simpa [rec_, bayStatusRecord_eq, byteAt] using h
    omega
  · have hskip : rec_[4 + k]? =
        (s.bpc.queue.map (BitVec.ofNat 8) ++ List.replicate (4 - s.bpc.queue.length) 0xFF#8)[k]? := by
      have hlen : k < (s.bpc.queue.map (BitVec.ofNat 8) ++ List.replicate (4 - s.bpc.queue.length) 0xFF#8).length := by
        simp [hrest, hk]
      obtain ⟨front, hfront, hrec⟩ := bayStatusRecord_split s
      rw [show rec_ = _ from hrec, List.getElem?_append_right (by omega), List.getElem?_append_left (by simp [hfront, hrest]; omega)]
      congr 1
      omega
    by_cases hlt : k < s.bpc.queue.length
    · have hget : rec_[4 + k]? = some (BitVec.ofNat 8 s.bpc.queue[k]) := by
        rw [hskip]
        simp [List.getElem?_append, hlt]
      rw [byteAt_of_getElem? hget, List.getElem?_eq_getElem hlt, BitVec.toNat_ofNat]
    · have hget : rec_[4 + k]? = some 255#8 := by
        have hroom : k - s.bpc.queue.length < 4 - s.bpc.queue.length := by omega
        rw [hskip]
        simp [List.getElem?_append, hlt, hroom]
      rw [byteAt_of_getElem? hget, List.getElem?_eq_none (Nat.le_of_not_gt hlt)]
      rfl
  · have hskip : slice rec_ (8 + 12 * i) 12 =
        slice (s.bpc.bayRecord 0 ++ (s.bpc.bayRecord 1 ++ (s.bpc.bayRecord 2 ++ s.bpc.bayRecord 3))) (12 * i) 12 := by
      obtain ⟨front, hfront, hrec⟩ := bayStatusRecord_split s
      rw [show rec_ = _ from hrec, slice_append_skip (by omega), slice_append_skip (by simp; omega)]
      congr 1
      simp
      omega
    rw [hskip]
    interval_cases i <;> simp

/-! ### The clock -/

theorem leSigned_toInt (z : Int) : (ofLe (leSigned z) : Int) = z % 65536 := by
  rw [leSigned, ofLe_le_of_lt (BitVec.isLt _), BitVec.toNat_ofInt]
  omega

@[simp] theorem leSigned_length (z : Int) : (leSigned z).length = 2 := le_length _ _

/-- Table 2.2. -/
theorem clockRecord_fields (s : State) :
        let rec_ := s.clockRecord
        rec_.length = 9 ∧ field rec_ 0 4 = s.bck.boxTime % 4294967296
          ∧ byteAt rec_ 4 = (if s.bck.clockSet = true then 1 else 0)
          ∧ (field rec_ 5 2 : Int) = s.slc.settings.zone % 65536 ∧ field rec_ 7 2 = s.minute % 65536 := by
  intro rec_
  have hrec : rec_ = le 4 s.bck.boxTime ++ (flagByte s.bck.clockSet :: (leSigned s.slc.settings.zone ++ le 2 s.minute)) := by
    simp [rec_, State.clockRecord]
  rw [hrec]
  refine ⟨?_, ?_, ?_, ?_, ?_⟩
  case refine_4 => simp [leSigned_toInt]
  all_goals simp

/-! ### Box power -/

@[simp] theorem wakeCause_bytes_length (x : WakeCause) : x.bytes.length = 2 := by
  cases x <;> simp [WakeCause.bytes]

theorem standbyFailure_bytes_length {open_ : List Byte} (h : open_.length = 1) (x : StandbyFailure) :
    (x.bytes open_).length = 3 := by
  cases x <;> simp [StandbyFailure.bytes, h]

@[simp] theorem setBytes_length (p : Nat → Bool) : (setBytes p).length = 2 := le_length _ _

/-- The sum of the powers that a predicate picks out, bit for bit. -/
theorem sum_pow_filter (n : Nat) (p : Nat → Bool) :
    (((List.range n).filter p).map (2 ^ ·)).sum < 2 ^ n
      ∧ ∀ i < n, (((List.range n).filter p).map (2 ^ ·)).sum.testBit i = p i := by
  induction n with
  | zero => exact ⟨Nat.zero_lt_one, fun i hi => absurd hi (Nat.not_lt_zero i)⟩
  | succ n ih =>
    obtain ⟨hlt, hbits⟩ := ih
    cases hp : p n with
    | false =>
      have hsum : (((List.range (n + 1)).filter p).map (2 ^ ·)).sum = (((List.range n).filter p).map (2 ^ ·)).sum := by
        simp [List.range_succ, hp]
      rw [hsum]
      refine ⟨hlt.trans (Nat.pow_lt_pow_right (by decide) (Nat.lt_succ_self n)), fun i hi => ?_⟩
      rcases Nat.lt_succ_iff_lt_or_eq.1 hi with h | rfl
      · exact hbits i h
      · rw [Nat.testBit_lt_two_pow hlt, hp]
    | true =>
      have hsum : (((List.range (n + 1)).filter p).map (2 ^ ·)).sum =
          2 ^ n + (((List.range n).filter p).map (2 ^ ·)).sum := by
        simp [List.range_succ, hp, Nat.add_comm]
      rw [hsum]
      refine ⟨by omega, fun i hi => ?_⟩
      rcases Nat.lt_succ_iff_lt_or_eq.1 hi with h | rfl
      · rw [Nat.testBit_two_pow_add_gt h, hbits i h]
      · rw [Nat.testBit_two_pow_add_eq, Nat.testBit_lt_two_pow hlt, hp]
        rfl

theorem getD_firstFail_cons (b : Bool) (st : Status) (cs : List (Bool × Status)) :
    (firstFail ((b, st) :: cs)).getD .ok = if b = true then st else (firstFail cs).getD .ok := by
  cases b <;> rfl

/-- The power record, its parts one after the other. -/
theorem powerRecord_eq (s : State) :
    s.powerRecord = s.bxp.power.code :: flagByte s.bxp.returnStandby :: (s.bxp.cause.bytes ++ (le 1 s.bxp.failures
      ++ (s.bxp.lastFailure.bytes (s.freeBytes 1) ++ (le 2 s.bxp.due.toNat
      ++ (setBytes (fun c => decide ((s.client c).holdStatus ≠ .empty)) ++ (le 1 s.streamCount ++ (le 1 s.planCount
      ++ (le 1 s.bpc.manualSet ++ (flagByte s.buttonLatched :: flagByte s.bxp.sleepAcked :: s.entryStatus.code
      :: le 2 ((s.bxp.timer.map (·.2)).getD 0)))))))))) := by
  simp only [State.powerRecord, List.append_assoc, List.cons_append, List.nil_append]

theorem streamCount_eq (s : State) :
    s.streamCount = ((List.range 8).filter fun i => decide ((s.stream i).state ≠ .closed)).length :=
  length_filter_toList Stream.closed _ _

theorem planCount_eq (s : State) :
    s.planCount = ((List.range 16).filter fun i => decide ((s.plan i).state ≠ .free)).length :=
  length_filter_toList Plan.free _ _

theorem field_setBytes (p : Nat → Bool) : ∀ c < 16, (ofLe (setBytes p)).testBit c = p c := by
  obtain ⟨hlt, hbits⟩ := sum_pow_filter 16 p
  rw [setBytes, ofLe_le_of_lt hlt]
  exact hbits

theorem streamCount_pos_iff (s : State) : 0 < s.streamCount ↔ ∃ i ∈ List.range 8, (s.stream i).state ≠ .closed := by
  rw [State.streamCount, toList_eq_map_slot Stream.closed, List.length_pos_iff_exists_mem]
  simp [State.stream]

theorem planCount_pos_iff (s : State) : 0 < s.planCount ↔ ∃ i ∈ List.range 16, (s.plan i).state ≠ .free := by
  rw [State.planCount, toList_eq_map_slot Plan.free, List.length_pos_iff_exists_mem]
  simp [State.plan]

theorem anyManual_iff (s : State) :
    s.bpc.bays.toList.any Bay.manual = true ↔ ∃ i ∈ List.range 4, (s.bay i).manual = true := by
  rw [toList_eq_map_slot (Bay.atReset false), List.any_map, List.any_eq_true]
  rfl

theorem anyHold_iff (s : State) : s.anyHold = true ↔ ∃ c ∈ List.range 16, (s.client c).holdStatus ≠ .empty := by
  rw [State.anyHold, toList_eq_map_slot (Client.free 0), List.any_map, List.any_eq_true]
  simp [State.client]

/-- The status that checks 3 to 7 of R170 give now, in the words of Table 10.4. -/
theorem entryStatus_eq (s : State) :
    s.entryStatus =
      if s.tiu.load = .loading ∨ s.tiu.exporting = true then .imageBusy
      else if ∃ i ∈ List.range 8, (s.stream i).state ≠ .closed then .streamsOpen
      else if ∃ i ∈ List.range 16, (s.plan i).state ≠ .free then .plansOpen
      else if ∃ i ∈ List.range 4, (s.bay i).manual = true then .baysHeld
      else if s.bxp.due ≠ 0#16 ∨ (∃ c ∈ List.range 16, (s.client c).holdStatus ≠ .empty) ∨ s.slc.latched.getLsbD 6 = true
      then .wakePending else .ok := by
  have hbutton : s.buttonLatched = s.slc.latched.getLsbD 6 := rfl
  simp only [State.entryStatus, entryChecks, getD_firstFail_cons, Bool.or_eq_true, decide_eq_true_eq, streamCount_pos_iff,
    planCount_pos_iff, anyManual_iff, anyHold_iff, hbutton, or_assoc]
  rfl

/-- Table 10.4. -/
theorem powerRecord_fields (s : State) :
        let rec_ := s.powerRecord
        rec_.length = 20
          ∧ byteAt rec_ 0 = (match s.bxp.power with
              | .run => 0 | .standbyEntry => 1 | .standby => 2 | .waking => 3 | .halted => 4)
          ∧ byteAt rec_ 1 = (if s.bxp.returnStandby = true then 1 else 0)
          ∧ byteAt rec_ 2 = (match s.bxp.cause with | .powerOn => 0 | .button => 1 | .network _ => 2 | .schedule _ => 3)
          ∧ byteAt rec_ 3 = (match s.bxp.cause with
              | .powerOn => 0 | .button => 0 | .network c => c % 256 | .schedule c => c % 256)
          ∧ byteAt rec_ 4 = s.bxp.failures % 256
          ∧ byteAt rec_ 5 = (match s.bxp.lastFailure with
              | .none => 0 | .handshakeTimeout => 1 | .due _ => 2 | .network _ => 2 | .button => 2 | .linkReset => 3)
          ∧ byteAt rec_ 6 = (match s.bxp.lastFailure with
              | .none => 0 | .handshakeTimeout => 0 | .due _ => 1 | .network _ => 2 | .button => 3 | .linkReset => 0)
          ∧ (∀ c, s.bxp.lastFailure = .due c ∨ s.bxp.lastFailure = .network c → byteAt rec_ 7 = c % 256)
          ∧ field rec_ 8 2 = s.bxp.due.toNat
          ∧ (∀ c < 16, (field rec_ 10 2).testBit c = decide ((s.client c).holdStatus ≠ .empty))
          ∧ byteAt rec_ 12 = ((List.range 8).filter fun i => decide ((s.stream i).state ≠ .closed)).length
          ∧ byteAt rec_ 13 = ((List.range 16).filter fun i => decide ((s.plan i).state ≠ .free)).length
          ∧ byteAt rec_ 14 < 16 ∧ (∀ i < 4, (byteAt rec_ 14).testBit i = (s.bay i).manual)
          ∧ byteAt rec_ 15 = (if s.slc.latched.getLsbD 6 = true then 1 else 0)
          ∧ byteAt rec_ 16 = (if s.bxp.sleepAcked = true then 1 else 0)
          ∧ byteAt rec_ 17 =
              (if s.tiu.load = .loading ∨ s.tiu.exporting = true then 0x07
              else if ∃ i ∈ List.range 8, (s.stream i).state ≠ .closed then 0x12
              else if ∃ i ∈ List.range 16, (s.plan i).state ≠ .free then 0x13
              else if ∃ i ∈ List.range 4, (s.bay i).manual = true then 0x14
              else if s.bxp.due ≠ 0#16 ∨ (∃ c ∈ List.range 16, (s.client c).holdStatus ≠ .empty)
                ∨ s.slc.latched.getLsbD 6 = true
              then 0x15 else 0)
          ∧ (s.bxp.timer = none → field rec_ 18 2 = 0)
          ∧ ∀ k n, s.bxp.timer = some (k, n) → field rec_ 18 2 = n % 65536 := by
  intro rec_
  have hfail : (s.bxp.lastFailure.bytes (s.freeBytes 1)).length = 3 := standbyFailure_bytes_length (freeBytes_length _ _) _
  have hopen : ∃ b : Byte, s.freeBytes 1 = [b] := ⟨_, rfl⟩
  obtain ⟨hmanual, hbits⟩ : s.bpc.manualSet < 2 ^ 4 ∧ ∀ i < 4, s.bpc.manualSet.testBit i = (s.bay i).manual :=
    sum_pow_filter 4 _
  have hmanual256 : s.bpc.manualSet % 256 = s.bpc.manualSet := Nat.mod_eq_of_lt (hmanual.trans (by decide))
  have hstatus : s.entryStatus.code.toNat =
      if s.tiu.load = .loading ∨ s.tiu.exporting = true then 0x07
      else if ∃ i ∈ List.range 8, (s.stream i).state ≠ .closed then 0x12
      else if ∃ i ∈ List.range 16, (s.plan i).state ≠ .free then 0x13
      else if ∃ i ∈ List.range 4, (s.bay i).manual = true then 0x14
      else if s.bxp.due ≠ 0#16 ∨ (∃ c ∈ List.range 16, (s.client c).holdStatus ≠ .empty) ∨ s.slc.latched.getLsbD 6 = true
      then 0x15 else 0 := by
    rw [entryStatus_eq]
    split_ifs <;> rfl
  have hset := field_setBytes fun c => decide ((s.client c).holdStatus ≠ .empty)
  have hstreams : s.streamCount % 256 = s.streamCount := by
    rw [streamCount_eq]
    exact length_filter_range_mod (by decide) _
  have hplans : s.planCount % 256 = s.planCount := by
    rw [planCount_eq]
    exact length_filter_range_mod (by decide) _
  have hdue : s.bxp.due.toNat % 65536 = s.bxp.due.toNat := Nat.mod_eq_of_lt s.bxp.due.isLt
  rw [← streamCount_eq, ← planCount_eq, show rec_ = _ from powerRecord_eq s]
  obtain ⟨open_, hopen⟩ := hopen
  refine ⟨?_, ?_, ?_, ?_, ?_, ?_, ?_, ?_, fun c hc => ?_, ?_, ?_, ?_, ?_, ?_, ?_, ?_, ?_, ?_, fun hnone => ?_, fun k n hk => ?_⟩
  case refine_2 =>
    suffices h : s.bxp.power.code.toNat = _ by simpa [byteAt] using h
    cases s.bxp.power <;> rfl
  case refine_4 => cases hc : s.bxp.cause <;> simp [byteAt, WakeCause.bytes]
  case refine_5 => cases hc : s.bxp.cause <;> simp [byteAt, WakeCause.bytes]
  case refine_7 => cases hf : s.bxp.lastFailure <;> simp [byteAt, StandbyFailure.bytes]
  case refine_8 => cases hf : s.bxp.lastFailure <;> simp [byteAt, StandbyFailure.bytes, hopen]
  case refine_9 => rcases hc with hf | hf <;> simp [byteAt, StandbyFailure.bytes, hf]
  case refine_10 => simpa [hfail] using hdue
  case refine_11 => simpa [hfail] using hset
  case refine_12 => simpa [hfail, byteAt] using hstreams
  case refine_13 => simpa [hfail, byteAt] using hplans
  case refine_14 => simpa [hfail, byteAt, hmanual256] using hmanual
  case refine_15 => simpa [hfail, byteAt, hmanual256] using hbits
  case refine_16 => simp [hfail, State.buttonLatched, Notice.bit]
  case refine_18 =>
    refine Eq.trans (by simp [hfail]) hstatus
  case refine_19 =>
    have htimer : (s.bxp.timer.map (·.2)).getD 0 = 0 := by rw [hnone]; rfl
    simp [hfail, htimer]
  case refine_20 =>
    have htimer : (s.bxp.timer.map (·.2)).getD 0 = n := by rw [hk]; rfl
    simp [hfail, htimer]
  all_goals simp [hfail]

end Sys2Proof.Machine
end

section
/-!
PROOFS. The layouts of the records of streams, objects, chunk entries, grants and verdicts (Tables 3.6, 4.4, 5.8, 7.6, R66).
-/

namespace Sys2Proof.Machine

variable {s t : State} {r : Request}

/-! ### Records one after the other -/

/-- One of the records of equal length that stand one after the other. -/
theorem slice_flatMap {α : Type} {f : α → List Byte} {n : Nat} {l : List α} (h : ∀ x ∈ l, (f x).length = n) :
    ∀ {k : Nat} {x : α}, l[k]? = some x → slice (l.flatMap f) (n * k) n = f x := by
  induction l with
  | nil => simp
  | cons y l ih =>
    intro k x hk
    have hy : (f y).length = n := h y (by simp)
    rw [List.flatMap_cons]
    cases k with
    | zero =>
      obtain rfl : y = x := by simpa using hk
      exact slice_append_self hy
    | succ k =>
      rw [slice_append_skip (by rw [hy, Nat.mul_succ]; exact Nat.le_add_left _ _), hy, Nat.mul_succ, Nat.add_sub_cancel]
      exact ih (fun z hz => h z (by simp [hz])) (by simpa using hk)

theorem length_flatMap_of {α : Type} {f : α → List Byte} {n : Nat} {l : List α} (h : ∀ x ∈ l, (f x).length = n) :
    (l.flatMap f).length = n * l.length := by
  rw [List.length_flatMap, List.map_congr_left h, List.map_const', List.sum_replicate, smul_eq_mul, Nat.mul_comm]

@[simp] theorem digestBytes_length (d : Digest) : (digestBytes d).length = 32 := by simp [digestBytes]

/-! ### Streams -/

@[simp] theorem itemBytes_length (it : Item) : it.bytes.length = 44 := by
  simp only [Item.bytes]
  cases it.kind <;> simp

/-- The STREAM_READ record, its parts one after the other. -/
theorem streamRecord_eq (x : Stream) :
    x.record = x.state.code :: (le 1 x.client ++ (le 1 x.generation ++ (le 3 x.object ++ (le 2 x.collection ++ (le 1 x.bay
      ++ (flagByte x.bayHeld :: (le 4 x.lmin ++ (le 4 x.ltgt ++ (le 4 x.lmax ++ (le 6 x.position ++ (le 3 x.chunkLength
      ++ (le 4 x.ordinal ++ (haltCode x.haltReason :: (x.window ++ (le 1 x.outstanding.length
      ++ x.outstanding.flatMap Item.bytes))))))))))))))) := by
  simp only [Stream.record, List.append_assoc, List.cons_append, List.nil_append]

theorem streamRecord_split (x : Stream) (hwindow : x.window.length = 48) :
    ∃ front : List Byte, front.length = 85 ∧ x.record = front ++ x.outstanding.flatMap Item.bytes :=
  ⟨[x.state.code] ++ le 1 x.client ++ le 1 x.generation ++ le 3 x.object ++ le 2 x.collection ++ le 1 x.bay
    ++ [flagByte x.bayHeld] ++ le 4 x.lmin ++ le 4 x.ltgt ++ le 4 x.lmax ++ le 6 x.position ++ le 3 x.chunkLength
    ++ le 4 x.ordinal ++ [haltCode x.haltReason] ++ x.window ++ le 1 x.outstanding.length, by simp [hwindow], rfl⟩

/-- R66. -/
theorem streamRecord_fields (x : Stream) (hwindow : x.window.length = 48) :
    let rec_ := x.record
    let handle (k : Byte) (ordinal h : Nat) : List Byte := k :: (le 4 ordinal ++ le 4 h ++ List.replicate 35 0#8)
    rec_.length = 85 + 44 * x.outstanding.length
      ∧ byteAt rec_ 0 = (match x.state with | .closed => 0 | .open => 1 | .ended => 2 | .finishing => 3 | .halted => 4)
      ∧ byteAt rec_ 1 = x.client % 256 ∧ byteAt rec_ 2 = x.generation % 256 ∧ field rec_ 3 3 = x.object % 16777216
      ∧ field rec_ 6 2 = x.collection % 65536 ∧ byteAt rec_ 8 = x.bay % 256
      ∧ byteAt rec_ 9 = (if x.bayHeld = true then 1 else 0)
      ∧ field rec_ 10 4 = x.lmin % 4294967296 ∧ field rec_ 14 4 = x.ltgt % 4294967296
      ∧ field rec_ 18 4 = x.lmax % 4294967296 ∧ field rec_ 22 6 = x.position % 281474976710656
      ∧ field rec_ 28 3 = x.chunkLength % 16777216 ∧ field rec_ 31 4 = x.ordinal % 4294967296
      ∧ byteAt rec_ 35 = (match x.haltReason with
          | none => 0 | some .quota => 0x0D | some .poolFull => 0x0B | some .writeFailed => 0x18
          | some .bayLost => 0x19 | some .tooLong => 0x1A)
      ∧ slice rec_ 36 48 = x.window ∧ byteAt rec_ 84 = x.outstanding.length % 256
      ∧ ∀ k it, x.outstanding[k]? = some it →
          slice rec_ (85 + 44 * k) 44 = (match it.kind with
            | .owedNew h => handle 1#8 it.ordinal h
            | .owedPrivate d n => 2#8 :: (le 4 it.ordinal ++ List.replicate 4 0xFF#8 ++ le 3 n ++ digestBytes d)
            | .owedRewrite h => handle 3#8 it.ordinal h
            | .pending h => handle 4#8 it.ordinal h) := by
  intro rec_ handle
  have hitems : ∀ k it, x.outstanding[k]? = some it → slice rec_ (85 + 44 * k) 44 = it.bytes := by
    intro k it hk
    obtain ⟨front, hfront, hrec⟩ := streamRecord_split x hwindow
    rw [show rec_ = _ from hrec, slice_append_skip (by omega), hfront, Nat.add_sub_cancel_left]
    exact slice_flatMap (fun y _ => itemBytes_length y) hk
  rw [show rec_ = _ from streamRecord_eq x]
  refine ⟨?_, ?_, ?_, ?_, ?_, ?_, ?_, ?_, ?_, ?_, ?_, ?_, ?_, ?_, ?_, ?_, ?_, fun k it hk => ?_⟩
  case refine_1 => simp [hwindow, length_flatMap_of fun y _ => itemBytes_length y]; omega
  case refine_2 =>
    suffices h : x.state.code.toNat = _ by simpa [byteAt] using h
    cases x.state <;> rfl
  case refine_15 =>
    suffices h : (haltCode x.haltReason).toNat = _ by simpa [byteAt] using h
    cases x.haltReason with
    | none => rfl
    | some why => cases why <;> rfl
  case refine_18 =>
    rw [← streamRecord_eq]
    refine (hitems k it hk).trans ?_
    simp only [Item.bytes]
    cases it.kind <;> rfl
  all_goals simp [hwindow]

/-! ### Objects -/

@[simp] theorem refBytes_length (ref : Ref) : ref.bytes.length = 50 := by
  rcases ref with _ | ⟨_ | _, _, _, _⟩ <;> simp [Ref.bytes]

/-- The OBJECT_READ record, its parts one after the other. -/
theorem objectRecord_eq (o : Obj) (n first count : Nat) :
    o.record n first count = le 4 n ++ (o.state.code :: (le 1 o.owner.1 ++ (le 1 o.owner.2 ++ (le 6 o.length
      ++ (le 2 o.holders ++ (le 1 o.planHolds ++ (le 4 o.recipe.length ++ (le 4 (recipeSlots o.recipe)
      ++ (le 4 (pagesOf (recipeSlots o.recipe)) ++ (le 2 (o.run first count).length
      ++ (o.run first count).flatMap Ref.bytes)))))))))) := by
  simp only [Obj.record, List.append_assoc, List.cons_append, List.nil_append]

theorem objectRecord_split (o : Obj) (n first count : Nat) :
    ∃ front : List Byte, front.length = 30 ∧ o.record n first count = front ++ (o.run first count).flatMap Ref.bytes :=
  ⟨le 4 n ++ [o.state.code] ++ le 1 o.owner.1 ++ le 1 o.owner.2 ++ le 6 o.length ++ le 2 o.holders ++ le 1 o.planHolds
    ++ le 4 o.recipe.length ++ le 4 (recipeSlots o.recipe) ++ le 4 (pagesOf (recipeSlots o.recipe))
    ++ le 2 (o.run first count).length, by simp, rfl⟩

/-- Table 5.8. -/
theorem objectRecord_fields (o : Obj) (n first count : Nat) :
    let rec_ := o.record n first count
    let run := (o.recipe.drop first).take count
    let slots := (o.recipe.map fun ref => match ref with | .indexed _ => 1 | .priv _ _ _ _ => 6).sum
    rec_.length = 30 + 50 * run.length ∧ field rec_ 0 4 = n % 4294967296
      ∧ byteAt rec_ 4 = (match o.state with | .free => 0 | .building => 1 | .complete => 2 | .retiring => 3)
      ∧ byteAt rec_ 5 = o.owner.1 % 256 ∧ byteAt rec_ 6 = o.owner.2 % 256 ∧ field rec_ 7 6 = o.length % 281474976710656
      ∧ field rec_ 13 2 = o.holders % 65536 ∧ byteAt rec_ 15 = o.planHolds % 256
      ∧ field rec_ 16 4 = o.recipe.length % 4294967296 ∧ field rec_ 20 4 = slots % 4294967296
      ∧ field rec_ 24 4 = (slots + 63) / 64 % 4294967296 ∧ field rec_ 28 2 = run.length % 65536
      ∧ ∀ k ref, run[k]? = some ref →
          slice rec_ (30 + 50 * k) 50 = (match ref with
            | .indexed h => [1#8, 0#8, 0xFF#8] ++ le 4 h ++ List.replicate 43 0#8
            | .priv l m d damaged =>
              [2#8, if damaged = true then 1#8 else 0#8] ++ le 1 (l.elim 255 Loc.bay) ++ List.replicate 4 0xFF#8
                ++ le 6 (l.elim 0 Loc.block) ++ le 3 m ++ digestBytes d ++ [0#8, 0#8]) := by
  intro rec_ run slots
  have hslots : recipeSlots o.recipe = slots :=
    congrArg List.sum (List.map_congr_left fun ref _ => by cases ref <;> rfl)
  have hrefs : ∀ k ref, run[k]? = some ref → slice rec_ (30 + 50 * k) 50 = ref.bytes := by
    intro k ref hk
    obtain ⟨front, hfront, hrec⟩ := objectRecord_split o n first count
    rw [show rec_ = _ from hrec, slice_append_skip (by omega), hfront, Nat.add_sub_cancel_left]
    exact slice_flatMap (fun y _ => refBytes_length y) hk
  rw [show rec_ = _ from objectRecord_eq o n first count, hslots]
  refine ⟨?_, ?_, ?_, ?_, ?_, ?_, ?_, ?_, ?_, ?_, ?_, ?_, fun k ref hk => ?_⟩
  case refine_1 => simp [length_flatMap_of fun y _ => refBytes_length y, run, Obj.run]; omega
  case refine_3 =>
    suffices h : o.state.code.toNat = _ by simpa [byteAt] using h
    cases o.state <;> rfl
  case refine_11 => simp [pagesOf, Config.pageSlots]
  case refine_12 => simp [run, Obj.run]
  case refine_13 =>
    rw [← hslots, ← objectRecord_eq]
    refine (hrefs k ref hk).trans ?_
    rcases ref with _ | ⟨_ | _, _, _, _⟩ <;> rfl
  all_goals simp

/-! ### Chunk entries -/

@[simp] theorem locBytes_length (x : Option Loc) : (locBytes x).length = 9 := by cases x <;> simp [locBytes]

theorem payerBytes_length {open_ : List Byte} (h : open_.length = 2) (x : Option (Nat × Nat)) :
    (payerBytes open_ x).length = 3 := by
  rcases x with _ | ⟨_, _⟩ <;> simp [payerBytes, h]

/-- The CHUNK_READ record, its parts one after the other. -/
theorem chunkRecord_eq (e : Chunk) (h : Nat) (open_ : List Byte) :
    e.record h open_ = le 4 h ++ (e.state.code :: (le 3 e.refcount ++ (le 3 e.length ++ (locBytes e.loc
      ++ (payerBytes open_ e.payer ++ (le 1 (e.writer.getD 255) ++ digestBytes e.digest)))))) := by
  simp only [Chunk.record, List.append_assoc, List.cons_append, List.nil_append]

/-- Table 4.4. -/
theorem chunkRecord_fields (e : Chunk) (h : Nat) (open_ : List Byte) (hopen : open_.length = 2) :
    let rec_ := e.record h open_
    rec_.length = 56 ∧ field rec_ 0 4 = h % 4294967296
      ∧ byteAt rec_ 4 = (match e.state with
          | .empty => 0 | .reserved => 1 | .present => 2 | .needsWriter => 3 | .damaged => 4 | .rewriting => 5)
      ∧ field rec_ 5 3 = e.refcount % 16777216 ∧ field rec_ 8 3 = e.length % 16777216
      ∧ byteAt rec_ 11 = e.loc.elim 255 Loc.bay % 256 ∧ field rec_ 12 8 = e.loc.elim 0 Loc.block % 18446744073709551616
      ∧ (e.payer = none → byteAt rec_ 20 = 0 ∧ slice rec_ 21 2 = open_)
      ∧ (∀ c g, e.payer = some (c, g) →
          byteAt rec_ 20 = 1 ∧ byteAt rec_ 21 = c % 256 ∧ byteAt rec_ 22 = g % 256)
      ∧ byteAt rec_ 23 = e.writer.getD 255 % 256 ∧ slice rec_ 24 32 = digestBytes e.digest := by
  intro rec_
  have hpayer := payerBytes_length hopen e.payer
  rw [show rec_ = _ from chunkRecord_eq e h open_]
  refine ⟨?_, ?_, ?_, ?_, ?_, ?_, ?_, fun hnone => ?_, fun c g hsome => ?_, ?_, ?_⟩
  case refine_3 =>
    suffices h : e.state.code.toNat = _ by simpa [byteAt] using h
    cases e.state <;> rfl
  case refine_6 => cases hl : e.loc <;> simp [byteAt, locBytes]
  case refine_7 => cases hl : e.loc <;> simp [locBytes]
  case refine_8 => simp [payerBytes, hnone, hopen]
  case refine_9 => simp [payerBytes, hsome]
  all_goals simp [hpayer]

/-! ### Grants -/

@[simp] theorem target_bytes_length (x : Target) : x.bytes.length = 3 := by cases x <;> simp [Target.bytes]

/-- The grant record, its parts one after the other. -/
theorem grantRecord_eq (s : State) (n : Nat) :
    s.grantRecord n = le 1 n ++ (flagByte (s.grant n).live :: (le 1 (s.grant n).grantee.code ++ ((s.grant n).target.bytes
      ++ ((s.grant n).mode.code :: (le 2 (s.grant n).windowStart ++ (le 2 (s.grant n).windowEnd
      ++ (flagByte (s.grant n).expiry.isSome :: (le 4 ((s.grant n).expiry.getD 0)
      ++ [flagByte ((s.grant n).expired s.bck.boxTime), 0#8])))))))) := by
  simp only [State.grantRecord, List.append_assoc, List.cons_append, List.nil_append]

/-- Table 7.6. -/
theorem grantRecord_fields (s : State) (n : Nat) :
    let rec_ := s.grantRecord n
    let g := s.grant n
    rec_.length = 18 ∧ byteAt rec_ 0 = n % 256 ∧ byteAt rec_ 1 = (if g.live = true then 1 else 0)
      ∧ byteAt rec_ 2 = (match g.grantee with | .client c => c % 256 | .anyViewer => 255)
      ∧ byteAt rec_ 3 = (match g.target with | .album _ => 1 | .allOf _ => 2)
      ∧ field rec_ 4 2 = (match g.target with | .album a => a % 65536 | .allOf c => c % 65536)
      ∧ byteAt rec_ 6 = (match g.mode with | .deny => 0 | .inWindow => 1 | .outOfWindow => 2 | .allow => 3)
      ∧ field rec_ 7 2 = g.windowStart % 65536 ∧ field rec_ 9 2 = g.windowEnd % 65536
      ∧ (g.expiry = none → byteAt rec_ 11 = 0 ∧ field rec_ 12 4 = 0 ∧ byteAt rec_ 16 = 0)
      ∧ (∀ e, g.expiry = some e → byteAt rec_ 11 = 1 ∧ field rec_ 12 4 = e % 4294967296
          ∧ byteAt rec_ 16 = (if g.live = true ∧ e ≤ s.bck.boxTime then 1 else 0))
      ∧ byteAt rec_ 17 = 0 := by
  intro rec_ g
  rw [show rec_ = _ from grantRecord_eq s n]
  refine ⟨?_, ?_, ?_, ?_, ?_, ?_, ?_, ?_, ?_, fun hnone => ?_, fun e he => ?_, ?_⟩
  case refine_4 =>
    suffices h : g.grantee.code % 256 = _ by simpa [byteAt] using h
    cases g.grantee <;> rfl
  case refine_5 => cases hg : g.target <;> simp [byteAt, Target.bytes]
  case refine_6 => cases hg : g.target <;> simp [Target.bytes]
  case refine_7 =>
    suffices h : g.mode.code.toNat = _ by simpa [byteAt] using h
    cases g.mode <;> rfl
  case refine_10 =>
    have hnone' : (s.grant n).expiry = none := hnone
    simp [byteAt, Grant.expired, hnone']
  case refine_11 =>
    have he' : (s.grant n).expiry = some e := he
    simp [byteAt, Grant.expired, he', g]
  all_goals simp [g]

/-! ### Verdicts -/

/-- Table 3.6. -/
theorem verdictRecord_fields (x : VerdictRecord) :
    x.bytes.length = 18 ∧ field x.bytes 0 4 = x.ordinal % 4294967296 ∧ field x.bytes 4 6 = x.offset % 281474976710656
      ∧ field x.bytes 10 3 = x.length % 16777216
      ∧ byteAt x.bytes 13 = (match x.verdict with
          | .fresh _ => 1 | .takeover _ => 1 | .newPrivate => 2 | .duplicate _ => 3 | .duplicatePending _ => 4
          | .rewrite _ => 5)
      ∧ field x.bytes 14 4 = (match x.verdict with
          | .newPrivate => 4294967295
          | .fresh h => h % 4294967296 | .takeover h => h % 4294967296 | .duplicate h => h % 4294967296
          | .duplicatePending h => h % 4294967296 | .rewrite h => h % 4294967296) := by
  have hrec : x.bytes = le 4 x.ordinal ++ (le 6 x.offset ++ (le 3 x.length ++ (x.verdict.code
      :: le 4 (x.verdict.handle.getD 0xFFFFFFFF)))) := by
    simp only [VerdictRecord.bytes, List.append_assoc, List.cons_append, List.nil_append]
  rw [hrec]
  refine ⟨?_, ?_, ?_, ?_, ?_, ?_⟩
  case refine_5 => cases hv : x.verdict <;> simp [byteAt, Verdict.code]
  case refine_6 => cases hv : x.verdict <;> simp [Verdict.handle]
  all_goals simp

/-- Settles O27: each record's fields, as its lemma states them. -/
theorem recordLayouts : Obligations.RecordLayouts :=
  ⟨fun s => ⟨clientRecord_fields s, collRecord_fields s, fun i _ => bayRecord_fields s.bpc i, bayStatusRecord_fields s,
    powerRecord_fields s, clockRecord_fields s⟩, streamRecord_fields, objectRecord_fields, chunkRecord_fields,
    grantRecord_fields, verdictRecord_fields⟩

end Sys2Proof.Machine
end

section
/-!
PROOFS. STREAM_OPEN: the lowest unused number of a record array, the checks of R45, and what opens (R45, R46, R93, R99).
-/

namespace Sys2Proof.Machine

variable {s t : State} {r : Request}

/-! ### The lowest unused number -/

/-- The number that a rising list does not list from `k` on, and those below it that it lists. -/
theorem Table.lowestFreeFrom_spec {α : Type} (t : Table α) :
    ∀ k, t.Pairwise (fun p q => p.1 < q.1) → (∀ p ∈ t, k ≤ p.1) →
      k ≤ Table.lowestFreeFrom k t ∧ (∀ p ∈ t, p.1 ≠ Table.lowestFreeFrom k t)
        ∧ ∀ j, k ≤ j → j < Table.lowestFreeFrom k t → ∃ p ∈ t, p.1 = j := by
  induction t with
  | nil => exact fun k _ _ => ⟨Nat.le_refl k, by simp, fun j hk hj => absurd hj (Nat.not_lt.2 hk)⟩
  | cons p t ih =>
    intro k hs hk
    obtain ⟨hrest, hs⟩ := List.pairwise_cons.1 hs
    by_cases hp : p.1 = k
    · have hstep : Table.lowestFreeFrom k (p :: t) = Table.lowestFreeFrom (k + 1) t := if_pos hp
      obtain ⟨hle, hne, hlist⟩ := ih (k + 1) hs fun q hq => hp ▸ hrest q hq
      rw [hstep]
      refine ⟨by omega, ?_, fun j hj hlt => ?_⟩
      · rw [List.forall_mem_cons]
        exact ⟨by omega, hne⟩
      · rcases Nat.eq_or_lt_of_le hj with rfl | hj
        · exact ⟨p, by simp, hp⟩
        · obtain ⟨q, hq, hqj⟩ := hlist j hj hlt
          exact ⟨q, by simp [hq], hqj⟩
    · have hstep : Table.lowestFreeFrom k (p :: t) = k := if_neg hp
      have hlt : k < p.1 := Nat.lt_of_le_of_ne (hk p (by simp)) (Ne.symm hp)
      rw [hstep]
      refine ⟨Nat.le_refl k, ?_, fun j hk hj => absurd hj (Nat.not_lt.2 hk)⟩
      rw [List.forall_mem_cons]
      exact ⟨hp, fun q hq => Nat.ne_of_gt (hlt.trans (hrest q hq))⟩

theorem Table.lowestFree_eq_some_iff {α : Type} {t : Table α} {bound k : Nat} (hs : Table.sorted t = true) :
    Table.lowestFree bound t = some k ↔ k < bound ∧ (∀ p ∈ t, p.1 ≠ k) ∧ ∀ j < k, ∃ p ∈ t, p.1 = j := by
  obtain ⟨-, hne, hlist⟩ := Table.lowestFreeFrom_spec t 0 ((Table.sorted_iff t).1 hs) fun p _ => Nat.zero_le p.1
  simp only [Table.lowestFree]
  constructor
  · intro h
    split at h
    · cases h
      exact ⟨‹_›, hne, fun j => hlist j (Nat.zero_le j)⟩
    · cases h
  · rintro ⟨hk, hfree, hbelow⟩
    have heq : Table.lowestFreeFrom 0 t = k := by
      rcases Nat.lt_trichotomy (Table.lowestFreeFrom 0 t) k with h | h | h
      · obtain ⟨p, hp, hpj⟩ := hbelow _ h
        exact absurd hpj (hne p hp)
      · exact h
      · obtain ⟨p, hp, hpj⟩ := hlist k (Nat.zero_le k) h
        exact absurd hpj (hfree p hp)
    rw [heq, if_pos hk]

theorem Table.lowestFree_eq_none_iff {α : Type} {t : Table α} {bound : Nat} (hs : Table.sorted t = true) :
    Table.lowestFree bound t = none ↔ ∀ j < bound, ∃ p ∈ t, p.1 = j := by
  obtain ⟨-, hne, hlist⟩ := Table.lowestFreeFrom_spec t 0 ((Table.sorted_iff t).1 hs) fun p _ => Nat.zero_le p.1
  simp only [Table.lowestFree, ite_eq_right_iff, reduceCtorEq, imp_false, Nat.not_lt]
  constructor
  · exact fun hbound j hj => hlist j (Nat.zero_le j) (hj.trans_le hbound)
  · intro hall
    by_contra hlt
    obtain ⟨p, hp, hpj⟩ := hall _ (Nat.lt_of_not_le hlt)
    exact hne p hp hpj

/-! ### STREAM_OPEN -/

theorem closedStream_isNone_iff (s : State) : s.closedStream.isNone = true ↔ ∀ i < 8, (s.stream i).state ≠ .closed := by
  simp [State.closedStream]

theorem closedStream_eq {i : Nat} (hi : i < 8) (hclosed : (s.stream i).state = .closed)
    (hbelow : ∀ j < i, (s.stream j).state ≠ .closed) : s.closedStream = some i := by
  rw [State.closedStream, List.find?_range_eq_some]
  exact ⟨decide_eq_true hclosed, List.mem_range.2 hi, fun j hj => by simpa using hbelow j hj⟩

/-- The pool does not have the pages that a list needs to grow (R91). -/
theorem not_poolFits_iff (s : State) (old new : Nat) :
    (!s.poolFits old new) = true ↔ (old + 63) / 64 + s.oct.freePages < (new + 63) / 64 := by
  rw [State.poolFits, ← decide_not, decide_eq_true_iff, Nat.not_le]
  rfl

theorem not_poolFits_eq_false {old new : Nat} (h : (new + 63) / 64 ≤ (old + 63) / 64 + s.oct.freePages) :
    (!s.poolFits old new) = false := by
  rw [← Bool.not_eq_true, not_poolFits_iff]
  exact Nat.not_lt.2 h

/-- The state that STREAM_OPEN makes (R46, R93, R99, R156). -/
theorem openStream_stream {i : Nat} (hi : i < 8) (f : OpenFields) (n : Nat) :
    (openStream f i n s).stream i = Stream.opened s f n := slot_put_self _ _ _ _ hi

/-- Settles O28. -/
theorem streamOpen : Obligations.StreamOpen := by
  refine ⟨fun t bound k hs => ⟨Table.lowestFree_eq_some_iff hs, Table.lowestFree_eq_none_iff hs⟩,
    fun s r ho hchange => ?_, fun s r i n => ?_⟩
  · intro c k b x l pages used
    refine refusedFirst_of_covers (f := fun _ => streamOpenTaken) execStreamOpen rfl rfl ho rfl (.changeable hchange ?_)
    refine .or (not_hasLength_iff r 4) <| .or decide_eq_true_iff <| .or decide_eq_true_iff <| .one decide_eq_true_iff <|
      .one decide_eq_true_iff <| .one (closedStream_isNone_iff s) <| .one (by simp [x, c, OpenFields.ofBytes]) <| .one decide_eq_true_iff <|
      .one decide_eq_true_iff <| .one ?_ <| .one decide_eq_true_iff <| .one Option.isNone_iff_eq_none <| .one decide_eq_true_iff <| .one ?_ (.done _)
    · rw [Bool.or_eq_true, decide_eq_true_iff, decide_eq_true_iff]
      rfl
    · exact not_poolFits_iff s used (used + 1)
  · intro c k b x l pages used cfg ho hchange hrun hlen hc hk hb hi hclosed hbelow hactive hrole hopen howner hbay hobj hroom
      hpool
    have hstream := closedStream_eq hi hclosed hbelow
    have hfree : l.state ≠ .free := by rw [hopen]; decide
    have howned : (decide (l.state ≠ .open) || decide (l.owner ≠ (c, x.generation))) = false := by
      rw [decide_eq_false (not_not.2 hopen), decide_eq_false (not_not.2 howner)]
      rfl
    have hpass : firstFail (streamOpenChecks s.quiet r) = none := by
      refine firstFail_changeable hchange <| firstFail_skip (not_hasLength_of hlen) <| firstFail_skip (decide_lt_of_lt hc) <|
        firstFail_skip (decide_le_of_lt hk) <| firstFail_skip (decide_lt_of_lt hb) <| 
        firstFail_skip (decide_eq_false (not_not.2 hrun)) <| firstFail_skip (congrArg Option.isNone hstream) <| firstFail_skip (congrArg not hactive) <|
        firstFail_skip (decide_eq_false hrole) <| firstFail_skip (decide_eq_false hfree) <|
        firstFail_skip howned <| firstFail_skip (decide_eq_false hbay) <| firstFail_skip (congrArg Option.isNone hobj) <|
        firstFail_skip (decide_le_of_lt hroom) <| firstFail_skip (not_poolFits_eq_false hpool) rfl
    refine ends_of_checks_pass (f := fun _ => streamOpenTaken) execStreamOpen rfl rfl ho rfl hpass ?_
    have hs : s.quiet.closedStream.getD 0 = i := congrArg (Option.getD · 0) hstream
    have hn : s.quiet.freeObject.getD 0 = n := congrArg (Option.getD · 0) hobj
    simp only [streamOpenTaken, hs, hn, openStream_stream hi]
    rfl

end Sys2Proof.Machine
end

section
/-!
PROOFS. The bytes of a packet: a byte that joins, a chunk that is cut, a halt, END, and packets taken one after the other
(R47 to R53).
-/

namespace Sys2Proof.Machine

variable {s t : State} {r : Request} {i : Nat}

/-! ### Writes of one context -/

theorem setStream_setStream (s : State) (i : Nat) (x y : Stream) : (s.setStream i x).setStream i y = s.setStream i y :=
  congrArg (fun v => { s with streams := v }) (put_put _ _ _ _)

theorem stream_setStream (hi : i < 8) (x : Stream) : (s.setStream i x).stream i = x := slot_put_self _ _ _ _ hi

@[simp] theorem present_stream (j : Nat) (d : Digest) (n : Nat) : (present i d n s).2.stream j = s.stream j :=
  congrArg (slot Stream.closed · j) (by simp)

/-! ### A halt in a packet -/

/-- Context `i` halted in a packet (R53). -/
def haltedInPacket (i : Nat) (u : State) (why : HaltReason) : State :=
  let y := u.stream i
  u.setStream i { y with
    position := y.position - y.chunkLength, chunkLength := 0, running := Running.start, state := .halted
    haltReason := some why }

theorem haltStream_of_open (why : HaltReason) (h : (s.stream i).state = .open) :
    haltStream i why s = s.setStream i { s.stream i with state := .halted, haltReason := some why } := by
  simp only [haltStream, h]

theorem haltPacket_of_open (hi : i < 8) (why : HaltReason) (h : (s.stream i).state = .open) :
    haltPacket i why s = haltedInPacket i s why := by
  simp only [haltPacket]
  rw [haltStream_of_open _ (by rw [stream_setStream hi]; exact h), stream_setStream hi, setStream_setStream]
  rfl

theorem haltedInPacket_state (hi : i < 8) (u : State) (why : HaltReason) :
    ((haltedInPacket i u why).stream i).state = .halted :=
  congrArg Stream.state (stream_setStream hi _)

/-! ### A cut -/

/-- What a cut of the current chunk comes to, with the state of the context after a verdict (R49, R50, R51). -/
def cutInto (i : Nat) (u : State) (state : StreamState) : List VerdictRecord × State :=
  let y := u.stream i
  let d := y.running.finish
  match present i d y.chunkLength u with
  | (.halt why, u') => ([], haltedInPacket i u' why)
  | (.recorded v, u') =>
    ([{ ordinal := y.ordinal, offset := y.position - y.chunkLength, length := y.chunkLength, verdict := v }],
     u'.setStream i { y with
      state := state
      outstanding := y.outstanding ++ ((v.item d y.chunkLength).map fun k => Item.mk y.ordinal k).toList
      ordinal := y.ordinal + 1, chunkLength := 0, running := Running.start })

theorem afterVerdict_eq (x : Stream) (v : Verdict) (d : Digest) :
    x.afterVerdict v d = { x with
      outstanding := x.outstanding ++ ((v.item d x.chunkLength).map fun k => Item.mk x.ordinal k).toList
      ordinal := x.ordinal + 1, chunkLength := 0, running := Running.start } := by
  simp only [Stream.afterVerdict]
  cases v.item d x.chunkLength <;> simp

/-- A cut: a record and a stream that is still OPEN, or none and one that is HALTED (R49, R53). -/
theorem cutChunk_cases (hi : i < 8) (h : (s.stream i).state = .open) :
    (∃ rec : VerdictRecord, ∃ u, cutChunk i s = (some rec, u) ∧ cutInto i s .open = ([rec], u)
        ∧ cutInto i s .ended = ([rec], endStream i u) ∧ (u.stream i).state = .open)
      ∨ ∃ u, cutChunk i s = (none, u) ∧ (∀ st, cutInto i s st = ([], u)) ∧ (u.stream i).state = .halted := by
  have hstream := present_stream (s := s) (i := i) i (s.stream i).running.finish (s.stream i).chunkLength
  simp only [cutChunk, cutInto]
  rcases hp : present i (s.stream i).running.finish (s.stream i).chunkLength s with ⟨_ | why, u⟩
  case recorded v =>
    refine .inl ⟨_, _, rfl, ?_, ?_, ?_⟩
    · rw [afterVerdict_eq, ← h]
    · simp only [endStream, stream_setStream hi, setStream_setStream, afterVerdict_eq]
    · rw [stream_setStream hi, afterVerdict_eq]
      exact h
  case halt =>
    have hopen : (u.stream i).state = .open := by
      rw [hp] at hstream
      exact (congrArg Stream.state hstream).trans h
    refine .inr ⟨_, rfl, fun st => ?_, ?_⟩
    · rw [haltPacket_of_open hi why hopen]
    · rw [haltPacket_of_open hi why hopen]
      exact haltedInPacket_state hi u why

/-! ### Bytes -/

/-- A byte that finds no room in the object (R49). -/
theorem takeBytes_tooLong (hi : i < 8) (h : (s.stream i).state = .open) (b : Byte) (bs : List Byte)
    (recs : List VerdictRecord) (hpos : (s.stream i).position = Config.maxObjectLength) :
    takeBytes i (b :: bs) recs s = (recs, haltedInPacket i s .tooLong) := by
  simp only [takeBytes]
  rw [if_pos hpos, haltPacket_of_open hi _ h]

/-- A byte within a chunk (R49). -/
theorem takeBytes_within (b : Byte) (bs : List Byte) (recs : List VerdictRecord)
    (hpos : (s.stream i).position ≠ Config.maxObjectLength) (hbound : ((s.stream i).takeByte b).atBoundary = false) :
    takeBytes i (b :: bs) recs s = takeBytes i bs recs (s.setStream i ((s.stream i).takeByte b)) := by
  simp only [takeBytes]
  rw [if_neg hpos, if_neg (by rw [hbound]; decide)]

/-- A byte that ends a chunk whose verdict is recorded (R49, R51). -/
theorem takeBytes_recorded (b : Byte) (bs : List Byte) (recs : List VerdictRecord) {rec : VerdictRecord} {u : State}
    (hpos : (s.stream i).position ≠ Config.maxObjectLength) (hbound : ((s.stream i).takeByte b).atBoundary = true)
    (hcut : cutChunk i (s.setStream i ((s.stream i).takeByte b)) = (some rec, u)) :
    takeBytes i (b :: bs) recs s = takeBytes i bs (recs ++ [rec]) u := by
  simp only [takeBytes]
  rw [if_neg hpos, if_pos hbound, hcut]

/-- A byte that ends a chunk at which the stream halts (R49, R53). -/
theorem takeBytes_halted (b : Byte) (bs : List Byte) (recs : List VerdictRecord) {u : State}
    (hpos : (s.stream i).position ≠ Config.maxObjectLength) (hbound : ((s.stream i).takeByte b).atBoundary = true)
    (hcut : cutChunk i (s.setStream i ((s.stream i).takeByte b)) = (none, u)) :
    takeBytes i (b :: bs) recs s = (recs, u) := by
  simp only [takeBytes]
  rw [if_neg hpos, if_pos hbound, hcut]

/-- What a byte does to an OPEN stream: it halts, or it is taken, with or without a record, and the stream is OPEN. -/
theorem takeBytes_cons_cases (hi : i < 8) (h : (s.stream i).state = .open) (b : Byte) :
    (∃ u, (u.stream i).state ≠ .open ∧ ∀ bs recs, takeBytes i (b :: bs) recs s = (recs, u))
      ∨ ∃ recs' u, (u.stream i).state = .open
          ∧ ∀ bs recs, takeBytes i (b :: bs) recs s = takeBytes i bs (recs ++ recs') u := by
  by_cases hpos : (s.stream i).position = Config.maxObjectLength
  · refine .inl ⟨_, ?_, fun bs recs => takeBytes_tooLong hi h b bs recs hpos⟩
    rw [haltedInPacket_state hi]
    decide
  · have hopen : ((s.setStream i ((s.stream i).takeByte b)).stream i).state = .open := by
      rw [stream_setStream hi]
      exact h
    cases hbound : ((s.stream i).takeByte b).atBoundary with
    | false => exact .inr ⟨[], _, hopen, fun bs recs => by rw [List.append_nil, takeBytes_within b bs recs hpos hbound]⟩
    | true =>
      rcases cutChunk_cases hi hopen with ⟨rec, u, hcut, -, -, hu⟩ | ⟨u, hcut, -, hu⟩
      · exact .inr ⟨[rec], u, hu, fun bs recs => takeBytes_recorded b bs recs hpos hbound hcut⟩
      · exact .inl ⟨u, by rw [hu]; decide, fun bs recs => takeBytes_halted b bs recs hpos hbound hcut⟩

/-- The records taken before stand in front. -/
theorem takeBytes_records (hi : i < 8) (bs : List Byte) (h : (s.stream i).state = .open) (recs : List VerdictRecord) :
    takeBytes i bs recs s = (recs ++ (takeBytes i bs [] s).1, (takeBytes i bs [] s).2) := by
  induction bs generalizing s recs with
  | nil => simp [takeBytes]
  | cons b bs ih =>
    rcases takeBytes_cons_cases hi h b with ⟨u, -, hbytes⟩ | ⟨recs', u, hu, hbytes⟩
    · rw [hbytes bs recs, hbytes bs [], List.append_nil]
    · rw [hbytes bs recs, hbytes bs [], List.nil_append, ih hu (recs ++ recs'), ih hu recs', List.append_assoc]

/-- Bytes taken one part after the other, as long as the stream is OPEN. -/
theorem takeBytes_append (hi : i < 8) (a b : List Byte) (h : (s.stream i).state = .open) (recs : List VerdictRecord) :
    takeBytes i (a ++ b) recs s =
      if ((takeBytes i a recs s).2.stream i).state = .open then takeBytes i b (takeBytes i a recs s).1 (takeBytes i a recs s).2
      else takeBytes i a recs s := by
  induction a generalizing s recs with
  | nil => exact (if_pos h).symm
  | cons x a ih =>
    rcases takeBytes_cons_cases hi h x with ⟨u, hu, hbytes⟩ | ⟨recs', u, hu, hbytes⟩
    · rw [List.cons_append, hbytes _ recs, hbytes _ recs, if_neg hu]
    · rw [List.cons_append, hbytes _ recs, hbytes _ recs, ih hu]

/-! ### END -/

theorem takeEnd_records (recs recs' : List VerdictRecord) :
    takeEnd i (recs ++ recs') s = (recs ++ (takeEnd i recs' s).1, (takeEnd i recs' s).2) := by
  simp only [takeEnd]
  split
  · rfl
  · split
    · rfl
    · rcases cutChunk i s with ⟨_ | rec, u⟩ <;> simp

theorem takeEnd_of_not_open (recs : List VerdictRecord) (h : (s.stream i).state ≠ .open) : takeEnd i recs s = (recs, s) :=
  if_pos h

/-- The division of bytes into packets does not matter (R49). -/
theorem takePacket_append (hi : i < 8) (h : (s.stream i).state = .open) (a b : List Byte) (last : Bool) :
    takePacket i (a ++ b) last s =
      if ((takeBytes i a [] s).2.stream i).state = .open then
        ((takeBytes i a [] s).1 ++ (takePacket i b last (takeBytes i a [] s).2).1,
          (takePacket i b last (takeBytes i a [] s).2).2)
      else takeBytes i a [] s := by
  have happend := takeBytes_append hi a b h []
  simp only [takePacket]
  split at happend
  next hopen =>
    rw [if_pos hopen, happend, takeBytes_records hi b hopen]
    cases last with
    | false => rfl
    | true => exact takeEnd_records _ _
  next hclosed =>
    rw [if_neg hclosed, happend]
    cases last with
    | false => rfl
    | true => exact takeEnd_of_not_open _ hclosed

/-- Settles O31. -/
theorem bytesOfAStream : Obligations.BytesOfAStream := by
  intro s i hi hopen x halted cut
  refine ⟨fun b hpos => takeBytes_tooLong hi hopen b [] [] hpos, fun b hpos => ?_, fun hlen => ?_, fun hlen => ?_,
    takePacket_append hi hopen⟩
  · intro y
    have hy : ((s.setStream i y).stream i).state = .open := congrArg Stream.state (stream_setStream hi y) |>.trans hopen
    have hbound : (boundary x.lmin x.ltgt x.lmax (x.chunkLength + 1) y.window) = (x.takeByte b).atBoundary := rfl
    cases hb : (x.takeByte b).atBoundary with
    | false =>
      rw [if_neg (by rw [hbound, hb]; decide)]
      exact takeBytes_within b [] [] hpos hb
    | true =>
      rw [if_pos (hbound.trans hb)]
      rcases cutChunk_cases hi hy with ⟨rec, u, hcut, hinto, -, -⟩ | ⟨u, hcut, hinto, -⟩
      · exact (takeBytes_recorded b [] [] hpos hb hcut).trans hinto.symm
      · exact (takeBytes_halted b [] [] hpos hb hcut).trans (hinto _).symm
  · have hempty : takePacket i [] true s = takeEnd i [] s := rfl
    rw [hempty, takeEnd, if_neg (not_not.2 hopen), if_pos hlen]
    rfl
  · have hempty : takePacket i [] true s = takeEnd i [] s := rfl
    rw [hempty, takeEnd, if_neg (not_not.2 hopen), if_neg hlen]
    rcases cutChunk_cases hi hopen with ⟨rec, u, hcut, -, hinto, -⟩ | ⟨u, hcut, hinto, -⟩
    · rw [hcut]
      exact hinto.symm
    · rw [hcut]
      exact (hinto _).symm

end Sys2Proof.Machine
end

section
/-!
PROOFS. STREAM_DATA (R47, R48); halts and settlement (R52, R62); STREAM_FINISH and completion (R13, R60, R61, R100).
-/

namespace Sys2Proof.Machine

variable {s t : State} {r : Request} {i : Nat}

/-! ### STREAM_DATA -/

theorem dataRecord_eq (y : Stream) (records : List VerdictRecord) :
    y.dataRecord records = [y.state.code, (y.haltReason.map fun why => why.status.code).getD 0#8] ++ le 6 y.position
      ++ le 1 records.length ++ le 1 y.outstanding.length ++ records.flatMap VerdictRecord.bytes := by
  simp only [Stream.dataRecord, haltCode]
  cases y.haltReason <;> rfl

theorem dataStatus_eq (y : Stream) : y.dataStatus = (y.haltReason.map HaltReason.status).getD .ok := by
  simp only [Stream.dataStatus]
  cases y.haltReason <;> rfl

/-- The stream number and the flags of a STREAM_DATA request (R47). -/
theorem streamData_aux {last : Bool} (haux : r.aux.toNat = i + if last then 256 else 0) (hi : i < 8) :
    r.auxLow = i ∧ r.isEnd = last ∧ decide (1 < r.auxHigh) = false := by
  have hlow : r.auxLow = r.aux.toNat % 256 := rfl
  have hhigh : r.auxHigh = r.aux.toNat / 256 := rfl
  cases last with
  | true =>
    have hone : r.auxHigh = 1 := by simp only [if_true] at haux; omega
    exact ⟨by simp only [if_true] at haux; omega, by rw [Request.isEnd, hone]; rfl, by rw [hone]; rfl⟩
  | false =>
    have hzero : r.auxHigh = 0 := by simp only [Bool.false_eq_true, if_false] at haux; omega
    exact ⟨by simp only [Bool.false_eq_true, if_false] at haux; omega, by rw [Request.isEnd, hzero]; rfl, by rw [hzero]; rfl⟩

/-- Settles O29. -/
theorem streamDataAdmission : Obligations.StreamDataAdmission := by
  refine ⟨fun s r ho hchange => ?_, fun s r i last ho hchange haux hi hdata hopen => ?_⟩
  · intro i flags
    refine refusedFirst_of_covers (f := fun _ => streamDataTaken) execStreamData rfl rfl ho rfl (.changeable hchange ?_)
    have hflags : (1 < flags ∨ r.payload = [] ∧ flags ≠ 1) ↔ (1 < flags ∨ r.payload = [] ∧ flags = 0) := by
      refine or_congr_right' fun hone => and_congr_right fun _ => ?_
      omega
    have hempty : (decide (r.payload.length = 0) && !r.isEnd) = true ↔ r.payload = [] ∧ flags ≠ 1 := by
      rw [Bool.and_eq_true, decide_eq_true_iff, List.length_eq_zero_iff, Request.isEnd, ← decide_not, decide_eq_true_iff]
      rfl
    exact .one decide_eq_true_iff <| .iff hflags <| .or decide_eq_true_iff <| .one hempty <|
      .one decide_eq_true_iff (.done _)
  · intro x need rec_
    obtain ⟨hlow, hend, hflags⟩ := streamData_aux haux hi
    have hpass : firstFail (streamDataChecks s.quiet r) = none := by
      have hdata' : (decide (r.payload.length = 0) && !r.isEnd) = false := by
        rw [hend]
        rcases hdata with h | h <;> simp [h]
      have hopen' : (s.quiet.stream r.auxLow).state = .open := by rw [hlow]; exact hopen
      exact firstFail_changeable hchange <| firstFail_skip (by rw [hlow]; exact decide_lt_of_lt hi) <| firstFail_skip hflags <|
        firstFail_skip hdata' <| firstFail_skip (decide_eq_false (not_not.2 hopen')) rfl
    have hadmits : x.admits r.payload.length last = decide (need ≤ 64) := rfl
    refine ⟨fun hneed => ?_, fun hneed => ?_⟩
    · have hfull : (s.quiet.stream i).admits r.payload.length last = false :=
        hadmits.trans (decide_eq_false (Nat.not_le.2 hneed))
      refine ends_of_checks_pass (f := fun _ => streamDataTaken) execStreamData rfl rfl ho rfl hpass ?_
      simp only [streamDataTaken, hlow, hend, hfull, dataRecord_eq]
      rfl
    · have hroom : (s.quiet.stream i).admits r.payload.length last = true := hadmits.trans (decide_eq_true hneed)
      refine ends_of_checks_pass (f := fun _ => streamDataTaken) execStreamData rfl rfl ho rfl hpass ?_
      simp only [streamDataTaken, hlow, hend, hroom, dataRecord_eq, dataStatus_eq, if_true]
      rfl

/-! ### Halts -/

theorem haltStream_closed (why : HaltReason) (h : (s.stream i).state = .closed ∨ (s.stream i).state = .halted) :
    haltStream i why s = s := by
  rcases h with h | h <;> simp only [haltStream, h]

theorem haltStream_running (why : HaltReason) (h : (s.stream i).state = .open ∨ (s.stream i).state = .ended) :
    haltStream i why s = s.setStream i { s.stream i with state := .halted, haltReason := some why } := by
  rcases h with h | h <;> simp only [haltStream, h]

theorem haltStream_finishing (why : HaltReason) (h : (s.stream i).state = .finishing) :
    haltStream i why s =
      sendDeferred i .halted (s.setStream i { s.stream i with state := .halted, haltReason := some why }) := by
  simp only [haltStream, h]

theorem sendDeferred_none (st : Status) (h : slot none s.slc.deferred i = none) : sendDeferred i st s = s := by
  simp only [sendDeferred, h]

theorem sendDeferred_some (st : Status) {tag : Byte} {aux : Half} (h : slot none s.slc.deferred i = some (tag, aux)) :
    sendDeferred i st s = { s with slc := { s.slc with
      deferred := put s.slc.deferred i none
      outgoing := s.slc.outgoing ++ [.response none tag aux [st.code, 0x23#8]] } } := by
  simp only [sendDeferred, h]
  rfl

/-! ### Settlement -/

theorem finished_iff (x : Stream) : x.finished = true ↔ x.state = .finishing ∧ x.outstanding = [] := by
  simp [Stream.finished]

/-- FINISHING streams with an empty list complete, in ascending number (R52). -/
theorem completeFinished_eq (s : State) :
    completeFinished s = (List.range 8).foldl (fun v k =>
      if (v.stream k).state = .finishing ∧ (v.stream k).outstanding = [] then completeStream k v else v) s := by
  simp only [completeFinished, finished_iff]

/-- The handle leaves the list of a context that is not CLOSED (R52). -/
def Stream.withoutPending (h : Nat) (x : Stream) : Stream :=
  if x.state = .closed then x else { x with outstanding := x.outstanding.filter fun it => decide (it.kind ≠ .pending h) }

theorem slot_map {α : Type} {n k : Nat} (d : α) (v : Vector α n) (f : α → α) (hk : k < n) :
    slot d (v.map f) k = f (slot d v k) := by
  simp [slot, hk]

theorem settleHandle_eq (h : Nat) (s : State) :
    settleHandle h s = completeFinished { s with streams := s.streams.map (Stream.withoutPending h) } := by
  have hpending : (fun it => !Item.pendingOn h it) = fun it : Item => decide (it.kind ≠ .pending h) := by
    funext it
    exact (decide_not ..).symm
  simp only [settleHandle, hpending]
  rfl

/-- Settles O33. -/
theorem haltsAndSettlement : Obligations.HaltsAndSettlement := by
  intro s i h why hi x halted
  refine ⟨haltStream_closed why, haltStream_running why, fun hfin hnone => ?_, fun tag aux hfin hsome => ?_,
    { s with streams := s.streams.map (Stream.withoutPending h) }, fun k hk => ?_, rfl, ?_⟩
  · rw [haltStream_finishing why hfin]
    exact sendDeferred_none (s := halted) _ hnone
  · rw [haltStream_finishing why hfin]
    exact sendDeferred_some (s := halted) _ hsome
  · exact slot_map _ _ _ hk
  · rw [settleHandle_eq, completeFinished_eq]

/-! ### STREAM_FINISH and completion -/

theorem completeIfFinished_eq (i : Nat) (s : State) :
    completeIfFinished i s =
      if (s.stream i).state = .finishing ∧ (s.stream i).outstanding = [] then completeStream i s else s := by
  simp only [completeIfFinished, finished_iff]

theorem mem_insertMember (n m : Nat) (l : List Nat) : m ∈ insertMember n l ↔ m = n ∨ m ∈ l := by
  induction l with
  | nil => simp [insertMember]
  | cons x l ih =>
    simp only [insertMember]
    split
    · simp
    · split
      next h => simp [h]
      next => simp only [List.mem_cons, ih, or_left_comm]

theorem insertMember_pairwise (n : Nat) {l : List Nat} (h : l.Pairwise (· < ·)) : (insertMember n l).Pairwise (· < ·) := by
  induction l with
  | nil => simp [insertMember]
  | cons x l ih =>
    obtain ⟨hx, hl⟩ := List.pairwise_cons.1 h
    simp only [insertMember]
    split
    next hlt =>
      refine List.pairwise_cons.2 ⟨fun y hy => ?_, h⟩
      rcases List.mem_cons.1 hy with rfl | hy
      · exact hlt
      · exact hlt.trans (hx y hy)
    next hge =>
      split
      · exact h
      next hne =>
        refine List.pairwise_cons.2 ⟨fun y hy => ?_, ih hl⟩
        rcases (mem_insertMember n y l).1 hy with rfl | hy
        · omega
        · exact hx y hy

/-- The state that completion makes, but for the deferred response (R61, R91, R100). -/
def completed (i : Nat) (s : State) : State :=
  let x := s.stream i
  let o := s.object x.object
  let c := s.coll x.collection
  let members := insertMember x.object c.members
  { s with
    oct :=
      { objects := Table.write Obj.free s.oct.objects x.object { o with state := .complete, length := x.position, holders := 1 }
        colls := Table.write Coll.free s.oct.colls x.collection { c with members := members, reserved := c.reserved - 1 }
        freePages := s.oct.freePages + (c.members.length + c.reserved + 63) / 64
          - (members.length + (c.reserved - 1) + 63) / 64 }
    bpc := if x.bayHeld = true then s.bpc.release s.slc.settings .stream x.bay else s.bpc
    streams := put s.streams i Stream.closed }

theorem completeStream_eq (i : Nat) (s : State) : completeStream i s = sendDeferred i .ok (completed i s) := by
  simp only [completeStream, completed]
  cases (s.stream i).bayHeld <;> rfl

/-- Settles O35. -/
theorem streamFinishAndCompletion : Obligations.StreamFinishAndCompletion := by
  refine ⟨fun s r ho hchange => ?_, fun s r i ho hchange haux hi hlen => ⟨fun hstate => ?_, fun hstate => ?_⟩,
    fun s i => ⟨fun hfin hempty => ?_, fun hnot => ?_⟩,
    fun n l hl => ⟨insertMember_pairwise n hl, fun m => mem_insertMember n m l⟩, fun s i hi => ?_⟩
  · refine refusedFirst_of_covers (f := fun _ => streamFinishTaken) execStreamFinish rfl rfl ho rfl (.changeable hchange ?_)
    exact .or decide_eq_true_iff <| .one (not_hasLength_zero_iff r) <| .one decide_eq_true_iff (.done _)
  · subst haux
    refine refused_of_firstFail streamFinishChecks (fun _ => streamFinishTaken) (k := .streamFinish) (form := anyForm) rfl ho rfl ?_
    refine firstFail_changeable hchange <| firstFail_skip (decide_lt_of_lt hi) <|
      firstFail_skip (not_hasLength_of_eq_nil hlen) ?_
    have hfails : decide ((s.quiet.stream r.auxNat).state ≠ .ended) = true := decide_eq_true hstate
    rw [hfails]
    rfl
  · subst haux
    intro u
    have hnow : u.stream r.aux.toNat = { s.stream r.aux.toNat with state := .finishing } := slot_put_self _ _ _ _ hi
    refine ends_of_checks_pass (f := fun _ => streamFinishTaken) execStreamFinish rfl rfl ho rfl
      (firstFail_changeable hchange <| firstFail_skip (decide_lt_of_lt hi) <|
        firstFail_skip (not_hasLength_of_eq_nil hlen) <| firstFail_skip (decide_eq_false (not_not.2 hstate)) rfl) ?_
    refine (completeIfFinished_eq _ u).trans ?_
    rw [hnow]
    simp only [true_and]
  · refine ends_of_event rfl ?_
    exact (completeIfFinished_eq _ _).trans (if_pos ⟨hfin, hempty⟩)
  · refine ends_of_event rfl ?_
    refine (completeIfFinished_eq _ _).trans (if_neg fun h => ?_)
    exact hnot.elim (· h.1) (· h.2)
  · intro x o c members pages free done
    refine ⟨fun hnone => ?_, fun tag aux hsome => ?_⟩
    · rw [completeStream_eq]
      exact sendDeferred_none (s := done) _ hnone
    · rw [completeStream_eq]
      exact sendDeferred_some (s := done) _ hsome

end Sys2Proof.Machine
end

section
/-!
PROOFS. STREAM_COMMIT: its entries, the extents they name, and what each item comes to (R58, R59, R79 to R83, R121).
-/

namespace Sys2Proof.Machine

variable {s t : State} {r : Request} {i : Nat}

/-! ### Extents -/

theorem blocksOf_eq (n : Nat) : blocksOf n = (n + 4095) / 4096 := rfl

/-- Two extents of one block or more overlap when their blocks on one bay meet (R79). -/
theorem overlaps_iff {a b : Extent} (ha : 1 ≤ a.length) (hb : 1 ≤ b.length) :
    a.overlaps b = true ↔ a.bay = b.bay ∧ ∃ n, a.block ≤ n ∧ n < a.block + (a.length + 4095) / 4096
      ∧ b.block ≤ n ∧ n < b.block + (b.length + 4095) / 4096 := by
  have hna : 1 ≤ (a.length + 4095) / 4096 := by omega
  have hnb : 1 ≤ (b.length + 4095) / 4096 := by omega
  rw [Extent.overlaps, Bool.and_eq_true, Bool.and_eq_true, decide_eq_true_iff, decide_eq_true_iff, decide_eq_true_iff,
    and_assoc, blocksOf_eq, blocksOf_eq]
  refine and_congr_right fun _ => ⟨?_, ?_⟩
  · rintro ⟨hab, hba⟩
    exact ⟨max a.block b.block, by omega⟩
  · rintro ⟨n, h⟩
    omega

theorem conflicts_iff (rtu : Rtu) (a : Extent) :
    rtu.conflicts a = true ↔ ∃ x ∈ rtu.release ++ rtu.deferred.map Deferred.extent, x.overlaps a = true := by
  simp only [Rtu.conflicts, Bool.or_eq_true, List.any_eq_true, List.mem_append, List.mem_map, or_and_right, exists_or,
    exists_exists_and_eq_and]

/-! ### The entries -/

theorem commitEntry_ofBytes {ordinal result bay block : Nat} (check : List Byte) (hordinal : ordinal < 4294967296)
    (hresult : result < 256) (hbay : bay < 256) (hblock : block < 18446744073709551616) :
    CommitEntry.ofBytes (le 4 ordinal ++ le 1 result ++ le 1 bay ++ le 8 block ++ check)
      = { ordinal := ordinal, result := result, bay := bay, block := block } := by
  simp only [CommitEntry.ofBytes, List.append_assoc]
  simp [Nat.mod_eq_of_lt, hordinal, hresult, hbay, hblock]

theorem commitEntry_refused {e : CommitEntry} {st : Status} (h : firstFail (s.commitChecks i e) = some st) :
    commitEntry i e s = (st, s) := by
  simp only [commitEntry, h]

theorem commitEntry_taken {e : CommitEntry} {it : Item} (h : firstFail (s.commitChecks i e) = none)
    (hit : (s.stream i).owedItem e.ordinal = some it) :
    commitEntry i e s = (.ok, completeFinished (commitItem i it
      (decide (e.result = 0) && !s.commitConflict it.kind { bay := e.bay, block := e.block })
      { bay := e.bay, block := e.block } (s.setStream i ((s.stream i).withoutOwed e.ordinal)))) := by
  simp only [commitEntry, h, hit]

/-! ### The checks of an entry -/

theorem owed_eq : Item.owed = fun j : Item => match j.kind with | .pending _ => false | _ => true := by
  funext j
  rfl

section
variable {e : CommitEntry}

theorem firstFail_commitChecks_closed (h : (s.stream i).state = .closed) :
    firstFail (s.commitChecks i e) = some .state := by
  simp only [State.commitChecks, h, decide_true, firstFail_fail]

/-- No item of the ordinal is owed (R58). -/
theorem firstFail_commitChecks_absent (h : (s.stream i).state ≠ .closed)
    (habsent : (s.stream i).owedItem e.ordinal = none) : firstFail (s.commitChecks i e) = some .badField := by
  by_cases hresult : 1 < e.result <;> simp [State.commitChecks, h, habsent, hresult, firstFail]

/-- The fields of an entry whose item is owed (R58). -/
theorem firstFail_commitChecks_owed {it : Item} (h : (s.stream i).state ≠ .closed)
    (hit : (s.stream i).owedItem e.ordinal = some it) :
    firstFail (s.commitChecks i e) =
      if 1 < e.result ∨ e.result = 0 ∧ (e.bay ≠ (s.stream i).bay ∨ 17179869184 ≤ e.block) then some .badField else none := by
  have hblocks : Config.blockCount = 17179869184 := rfl
  have hplace : (decide (e.result = 0) && (decide (e.bay ≠ (s.stream i).bay) || decide (17179869184 ≤ e.block))) =
      decide (e.result = 0 ∧ (e.bay ≠ (s.stream i).bay ∨ 17179869184 ≤ e.block)) := by
    rw [Bool.decide_and, Bool.decide_or]
  simp only [State.commitChecks, hit, hblocks, hplace, decide_eq_false h, Option.isNone_some, firstFail_pass, firstFail,
    decide_eq_true_eq]
  by_cases hresult : 1 < e.result <;> simp [hresult]

theorem owedItem_eq_none_iff (x : Stream) (ordinal : Nat) :
    x.owedItem ordinal = none ↔ ∀ j ∈ x.outstanding, j.owed = true → j.ordinal ≠ ordinal := by
  simp [Stream.owedItem]

end

/-! ### What an item comes to -/

theorem fits_iff (rtu : Rtu) (a : Extent) (result : Nat) :
    (decide (result = 0) && !rtu.conflicts a) = true ↔ result = 0 ∧ rtu.conflicts a = false := by
  simp

theorem deferOld_some (l : Loc) (length : Nat) :
    deferOld (some l) length s = makeDeferredCheck
      { s with rtu := { s.rtu with
        reserved := s.rtu.reserved - 1
        deferred := s.rtu.deferred ++ [{ extent := l.extent length, tag := s.rpb.epoch }] } } := rfl

section
variable {it : Item} {h length : Nat} {l : Loc} {u : State}

theorem commitItem_new {c : Chunk} (hkind : it.kind = .owedNew h) (hc : u.chunk h = c) :
    commitItem i it true l u = settleHandle h (u.setChunk h { c with state := .present, loc := some l, writer := none }) := by
  subst hc
  simp only [commitItem, hkind, commitNew, if_true]

theorem commitItem_new_fails {c : Chunk} (hkind : it.kind = .owedNew h) (hc : u.chunk h = c) :
    commitItem i it false l u = haltStream i .writeFailed (refundPayer c.payer c.length
      (u.setChunk h { c with state := .needsWriter, writer := none, payer := none })) := by
  subst hc
  simp only [commitItem, hkind, commitNew, loseWriter, Bool.false_eq_true, if_false]

theorem commitItem_private {d : Digest} {n : Nat} {o : Obj} (hkind : it.kind = .owedPrivate d length)
    (hn : (u.stream i).object = n) (ho : u.object n = o) :
    commitItem i it true l u = u.setObject n { o with recipe := o.recipe.modify it.ordinal (locateRef l) } := by
  subst hn ho
  simp only [commitItem, hkind, commitPrivate, if_true]

theorem commitItem_private_fails {d : Digest} (hkind : it.kind = .owedPrivate d length) :
    commitItem i it false l u = haltStream i .writeFailed u := by
  simp only [commitItem, hkind, commitPrivate, Bool.false_eq_true, if_false]

theorem commitItem_rewrite {c : Chunk} {old : Loc} (hkind : it.kind = .owedRewrite h) (hc : u.chunk h = c)
    (hold : c.loc = some old) :
    commitItem i it true l u = settleHandle h (makeDeferredCheck
      { u.setChunk h { c with state := .present, loc := some l, writer := none } with
        rtu := { u.rtu with
          reserved := u.rtu.reserved - 1
          deferred := u.rtu.deferred ++ [{ extent := old.extent c.length, tag := u.rpb.epoch }] } }) := by
  subst hc
  simp only [commitItem, hkind, commitRewrite, hold, deferOld_some, if_true]

theorem commitItem_rewrite_fails {c : Chunk} (hkind : it.kind = .owedRewrite h) (hc : u.chunk h = c) :
    commitItem i it false l u = settleHandle h
      { u.setChunk h { c with state := .damaged, writer := none } with
        rtu := { u.rtu with reserved := u.rtu.reserved - 1 } } := by
  subst hc
  simp only [commitItem, hkind, commitRewrite, revertRewrite, returnReservation, Bool.false_eq_true, if_false]

end

/-- Settles O34. -/
theorem streamCommit : Obligations.StreamCommit := by
  refine ⟨fun s r ho hchange => ?_, fun s r i ho hchange haux hi hopen => ?_, fun _ _ _ _ _ => ⟨rfl, rfl⟩,
    fun _ _ _ _ check ho hr hb hk => commitEntry_ofBytes check ho hr hb hk, fun _ _ _ _ _ _ => ⟨rfl, rfl, rfl⟩,
    fun _ _ => overlaps_iff, conflicts_iff, fun s i e it hi => ?_⟩
  · refine refusedFirst_of_covers (f := fun _ => streamCommitTaken) execStreamCommit rfl rfl ho rfl (.changeable hchange ?_)
    exact .one decide_eq_true_iff <| .one decide_eq_true_iff (.done _)
  · subst haux
    exact ends_of_checks_pass (f := fun _ => streamCommitTaken) execStreamCommit rfl rfl ho rfl
      (firstFail_changeable hchange <| firstFail_skip (decide_lt_of_lt hi) <| firstFail_skip (decide_eq_false hopen) rfl) rfl
  · intro x owed l u
    have howed : Item.owed = owed := owed_eq
    refine ⟨fun hclosed => commitEntry_refused (firstFail_commitChecks_closed hclosed), fun hopen habsent => ?_,
      fun hopen hit => ?_⟩
    · exact commitEntry_refused (firstFail_commitChecks_absent hopen ((owedItem_eq_none_iff _ _).2 (howed ▸ habsent)))
    · have hit' : x.owedItem e.ordinal = some it := by rw [Stream.owedItem, howed]; exact hit
      have hchecks := firstFail_commitChecks_owed hopen hit'
      refine ⟨fun hresult => commitEntry_refused (hchecks.trans (if_pos (.inl hresult))), fun hresult hplace =>
        commitEntry_refused (hchecks.trans (if_pos (.inr ⟨hresult, hplace⟩))), fun hgood => ?_⟩
      intro fit done
      have hpass : firstFail (s.commitChecks i e) = none := by
        refine hchecks.trans (if_neg ?_)
        rintro (h | ⟨h, hbay | hblock⟩) <;> rcases hgood with hone | ⟨hzero, hb, hk⟩
        · omega
        · omega
        · omega
        · exact hbay hb
        · omega
        · omega
      have hdone {ok : Bool} {t : State} (hok : (decide (e.result = 0) && !s.commitConflict it.kind l) = ok)
          (ht : commitItem i it ok l u = t) : done t := by
        have hu : s.setStream i (x.withoutOwed e.ordinal) = u := by rw [Stream.withoutOwed, howed]
        refine (commitEntry_taken hpass hit').trans ?_
        rw [← completeFinished_eq, ← ht, hok, hu]
      have hfit {length : Nat} (h : fit length) : (decide (e.result = 0) && !s.rtu.conflicts (l.extent length)) = true :=
        (fits_iff _ _ _).2 h
      have hunfit {length : Nat} (h : ¬ fit length) :
          (decide (e.result = 0) && !s.rtu.conflicts (l.extent length)) = false :=
        Bool.eq_false_iff.2 fun hc => h ((fits_iff _ _ _).1 hc)
      refine ⟨fun h hkind => ?_, fun d length hkind => ?_, fun h old hkind hold => ?_⟩
      · have hconflict : s.commitConflict it.kind l = s.rtu.conflicts (l.extent (s.chunk h).length) := by rw [hkind]; rfl
        exact ⟨fun hf => hdone (hconflict ▸ hfit hf) (commitItem_new hkind rfl),
          fun hf => hdone (hconflict ▸ hunfit hf) (commitItem_new_fails hkind rfl)⟩
      · have hconflict : s.commitConflict it.kind l = s.rtu.conflicts (l.extent length) := by rw [hkind]; rfl
        have hobject : (u.stream i).object = x.object := by
          rw [stream_setStream hi]
        exact ⟨fun hf => hdone (hconflict ▸ hfit hf) (commitItem_private hkind hobject rfl),
          fun hf => hdone (hconflict ▸ hunfit hf) (commitItem_private_fails hkind)⟩
      · intro c fits back
        have hconflict : s.commitConflict it.kind l =
            (s.rtu.conflicts (l.extent c.length) || (l.extent c.length).overlaps (old.extent c.length)) := by
          simp only [hkind, State.commitConflict, hold]
          rfl
        have hok : (decide (e.result = 0) && !s.commitConflict it.kind l) = true ↔ fits := by
          rw [hconflict, Bool.not_or, ← Bool.and_assoc, Bool.and_eq_true, fits_iff, Bool.not_eq_true']
        exact ⟨fun hf => hdone (hok.2 hf) (commitItem_rewrite hkind rfl hold),
          fun hf => hdone (Bool.eq_false_iff.2 fun hc => hf (hok.1 hc)) (commitItem_rewrite_fails hkind rfl)⟩

end Sys2Proof.Machine
end

section
/-!
PROOFS. STREAM_ABORT: what each outstanding item releases, the end of the object, and its order at the walk (R64, R84, R92,
R97, R111, R112).
-/

namespace Sys2Proof.Machine

variable {s t : State} {r : Request} {i : Nat}

/-! ### An order joins the list (R111, R112) -/

theorem walkable_eq (s : State) (o : Order) :
    s.walkable o = match o with | .coll _ => true | .object m => decide ((s.object m).planHolds = 0) := by
  cases o <;> rfl

theorem takeIfIdle_rest (h : s.rtu.walk ≠ .idle ∨ s.tiu.load ≠ .loaded ∨ s.tiu.exporting = true) : takeIfIdle s = s := by
  refine if_neg fun ⟨hidle, hruns, _⟩ => ?_
  obtain ⟨hload, hexporting⟩ := (walkRuns_iff s).1 hruns
  rcases h with h | h | h
  · exact h hidle
  · exact h hload
  · rw [hexporting] at h
    contradiction

theorem takeIfIdle_takes (hidle : s.rtu.walk = .idle) (hload : s.tiu.load = .loaded) (hexporting : s.tiu.exporting = false)
    {o : Order} (hfind : s.rtu.orders.find? s.walkable = some o) :
    takeIfIdle s = { s with rtu := { s.rtu with current := some o, nested := none, walk := .walking } } := by
  have hruns : s.walkRuns = true := (walkRuns_iff s).2 ⟨hload, hexporting⟩
  have hsome : (s.rtu.orders.find? s.walkable).isSome = true := by rw [hfind]; rfl
  rw [takeIfIdle, if_pos ⟨hidle, hruns, hsome⟩, takeOldest, hfind]

theorem takeIfIdle_waits (hfind : s.rtu.orders.find? s.walkable = none) : takeIfIdle s = s := by
  refine if_neg fun ⟨_, _, hsome⟩ => ?_
  rw [hfind] at hsome
  contradiction

/-- An order of an object joins the list (R111, R112). -/
theorem appendOrder_joins (s : State) (n : Nat) : ObjectOrderJoins s n (appendOrder (.object n) s) := by
  delta ObjectOrderJoins
  intro walks orders waits takes
  have hwalks : s.walkable = walks := funext (walkable_eq s)
  refine ⟨fun h => takeIfIdle_rest (s := waits) h, fun hidle hload hexporting => ?_⟩
  have htakes {o : Order} (hfind : orders.find? walks = some o) : appendOrder (.object n) s = takes o :=
    takeIfIdle_takes (s := waits) hidle hload hexporting (hwalks ▸ hfind)
  refine ⟨fun o hfind => htakes ?_, fun hnone => ⟨fun hheld => htakes ?_, fun hheld => ?_⟩⟩
  · rw [List.find?_append, hfind]
    rfl
  · have hlast : walks (.object n) = true := decide_eq_true hheld
    rw [List.find?_append, List.find?_eq_none.2 fun o ho => by rw [hnone o ho]; decide, Option.none_or]
    simp [hlast]
  · have hlast : walks (.object n) = false := decide_eq_false hheld
    refine takeIfIdle_waits (s := waits) (hwalks ▸ ?_)
    rw [List.find?_append, List.find?_eq_none.2 fun o ho => by rw [hnone o ho]; decide, Option.none_or]
    simp [hlast]

/-! ### What an item releases (R84) -/

/-- Context `i` but for its list, which still holds what is OWED. -/
def KeepsOwed (i : Nat) (x : Stream) (u : State) : Prop :=
  ∃ l, u.stream i = { x with outstanding := l } ∧ ∀ it ∈ x.outstanding, it.owed = true → it ∈ l

theorem completeStream_stream {k : Nat} (h : i ≠ k) (s : State) : (completeStream k s).stream i = s.stream i := by
  have hstreams : (completeStream k s).streams = put s.streams k Stream.closed := by
    rw [completeStream_eq]
    simp [completed]
  rw [State.stream, hstreams, slot_put_other _ _ _ _ _ h]

/-- A context that does not complete is left as it is. -/
theorem completeFinished_stream (h : (s.stream i).finished = false) : (completeFinished s).stream i = s.stream i := by
  refine foldl_keeps (fun u : State => u.stream i = s.stream i) _ _ s rfl fun u k hu => ?_
  split
  next hfin =>
    have hik : i ≠ k := by
      rintro rfl
      rw [hu, h] at hfin
      contradiction
    rw [completeStream_stream hik, hu]
  · exact hu

theorem KeepsOwed.settleHandle {x : Stream} {u : State} (h : KeepsOwed i x u) (hi : i < 8) {it : Item}
    (hit : it ∈ x.outstanding) (howed : it.owed = true) (n : Nat) : KeepsOwed i x (settleHandle n u) := by
  obtain ⟨l, hl, hmem⟩ := h
  have hkept (it : Item) (hit : it ∈ x.outstanding) (howed : it.owed = true) :
      it ∈ ((u.stream i).withoutPending n).outstanding := by
    simp only [Stream.withoutPending]
    split
    · rw [hl]
      exact hmem it hit howed
    · have hkind : it.kind ≠ .pending n := by
        intro hkind
        simp [Item.owed, hkind] at howed
      rw [hl]
      exact List.mem_filter.2 ⟨hmem it hit howed, decide_eq_true hkind⟩
  have hfin : ((u.stream i).withoutPending n).finished = false := by
    rw [← Bool.not_eq_true, finished_iff]
    rintro ⟨-, hnil⟩
    have hin := hkept it hit howed
    rw [hnil] at hin
    exact List.not_mem_nil hin
  have hnow : ({ u with streams := u.streams.map (Stream.withoutPending n) } : State).stream i =
      (u.stream i).withoutPending n := slot_map _ _ _ hi
  refine ⟨((u.stream i).withoutPending n).outstanding, ?_, hkept⟩
  rw [settleHandle_eq, completeFinished_stream (by rw [hnow]; exact hfin), hnow]
  simp only [Stream.withoutPending]
  split <;> rw [hl]

theorem KeepsOwed.of_streams {x : Stream} {u v : State} (h : KeepsOwed i x u) (hv : v.streams = u.streams) :
    KeepsOwed i x v := by
  have hstream : v.stream i = u.stream i := congrArg (slot Stream.closed · i) hv
  simpa only [KeepsOwed, hstream] using h

theorem KeepsOwed.abortItem {x : Stream} {acc : Nat × State} (h : KeepsOwed i x acc.2) (hi : i < 8) {it : Item}
    (hit : it ∈ x.outstanding) : KeepsOwed i x (abortItem i acc it).2 := by
  obtain ⟨dropped, u⟩ := acc
  simp only [Machine.abortItem]
  cases hkind : it.kind with
  | owedNew n => exact h.of_streams (by simp)
  | owedRewrite n =>
    have howed : it.owed = true := by simp [Item.owed, hkind]
    have hreturned : KeepsOwed i x (returnReservation (u.setChunk n { u.chunk n with state := .damaged, writer := none })) :=
      h.of_streams rfl
    dsimp only
    rw [revertRewrite]
    exact hreturned.settleHandle hi hit howed n
  | owedPrivate d length => exact h.of_streams (by simp)
  | pending n => exact h

/-- The context of an aborted stream, while its items are released, changes in its list alone. -/
theorem releaseItems_stream (hi : i < 8) (s : State) :
    ∃ l, (releaseItems i s).stream i = { s.stream i with outstanding := l } := by
  have hfold (its : List Item) (acc : Nat × State) (hits : ∀ it ∈ its, it ∈ (s.stream i).outstanding)
      (h : KeepsOwed i (s.stream i) acc.2) : KeepsOwed i (s.stream i) (its.foldl (abortItem i) acc).2 := by
    induction its generalizing acc with
    | nil => exact h
    | cons it its ih =>
      exact ih _ (fun j hj => hits j (by simp [hj])) (h.abortItem hi (hits it (by simp)))
  obtain ⟨l, hl, -⟩ := hfold (s.stream i).outstanding (0, s) (fun _ h => h) ⟨_, rfl, fun _ h _ => h⟩
  exact ⟨l, hl⟩

/-! ### The kept response of a finish -/

/-- No response of context `i` is kept: nothing that works on records keeps one. -/
theorem recordKept_noDeferred (i : Nat) : RecordKept fun s => slot none s.slc.deferred i = none where
  streams _ _ h := h
  object _ _ _ h := h
  coll _ _ _ h := h
  pages _ _ h := h
  chunk _ _ _ h := h
  charge _ _ _ _ h := by simpa using h
  refund _ _ _ _ h := by simpa using h
  deferred s k st h := by
    unfold sendDeferred
    split
    · exact h
    next hk =>
      have hik : i ≠ k := by
        rintro rfl
        rw [h] at hk
        contradiction
      exact (slot_put_other _ _ _ _ _ hik).trans h
  release _ _ _ h := h
  walk _ _ _ h := h
  extent _ _ _ _ h := h
  check _ h := by simpa using h
  between _ _ h := by simpa using h
  plans _ _ h := h

/-! ### The rest of an abort -/

/-- The state with its items released and the list of context `i` emptied (R64, R84). -/
def emptiedList (i : Nat) (s : State) : State :=
  (releaseItems i s).setStream i { (releaseItems i s).stream i with outstanding := [] }

/-- What an abort of context `x` does after its items are released (R64, R92, R111). -/
def finishAbort (i : Nat) (x : Stream) (s : State) : State :=
  let c := s.coll x.collection
  let s := replaceColl x.collection { c with reserved := c.reserved - 1 } s
  let s :=
    if x.abortFrees then setRecipe x.object [] s |>.setObject x.object Obj.free
    else
      appendOrder (.object x.object)
        (s.setObject x.object { s.object x.object with state := .retiring, holders := 0 })
  let s := if x.bayHeld then releaseBay .stream x.bay s else s
  s.setStream i Stream.closed

theorem abortParts_eq (i : Nat) (s : State) : abortParts i s = finishAbort i (s.stream i) (emptiedList i s) := rfl

theorem abortStream_eq (hnone : slot none s.slc.deferred i = none) :
    abortStream i s = finishAbort i (s.stream i) (emptiedList i s) := by
  rw [abortStream, sendDeferred_none _ hnone, abortParts_eq]

theorem setStream_stream (i : Nat) (s : State) : s.setStream i (s.stream i) = s := by
  have hput : put s.streams i (s.stream i) = s.streams := by
    refine Vector.ext fun k hk => ?_
    simp only [put, State.stream, slot, Vector.getElem_setIfInBounds]
    split
    next hik => simp [hik, hk]
    · rfl
  exact congrArg (fun v => { s with streams := v }) hput

theorem emptiedList_stream (hi : i < 8) (s : State) : (emptiedList i s).stream i = { s.stream i with outstanding := [] } := by
  obtain ⟨l, hl⟩ := releaseItems_stream hi s
  rw [emptiedList, stream_setStream hi, hl]

/-- An empty list has nothing to release. -/
theorem emptiedList_of_nil (h : (s.stream i).outstanding = []) : emptiedList i s = s := by
  have hrelease : releaseItems i s = s := by rw [releaseItems, h]; rfl
  have hsame : { s.stream i with outstanding := [] } = s.stream i := by rw [← h]
  rw [emptiedList, hrelease, hsame, setStream_stream]

theorem emptiedList_noDeferred (hnone : slot none s.slc.deferred i = none) :
    slot none (emptiedList i s).slc.deferred i = none :=
  (recordKept_noDeferred i).setStream ((recordKept_noDeferred i).releaseItems hnone i) _ _

theorem emptiedList_tablesSound (h : s.TablesSound) : (emptiedList i s).TablesSound := by
  obtain ⟨hchunks, hobjects, hcolls, hgrants⟩ := h
  have hrecords : s.RecordsOk := ⟨hchunks, hobjects, hcolls⟩
  obtain ⟨hchunks', hobjects', hcolls'⟩ :=
    recordKept_recordsOk.setStream (recordKept_recordsOk.releaseItems hrecords i) i
      { (releaseItems i s).stream i with outstanding := [] }
  have hgrants' : (emptiedList i s).grants = s.grants := by simp [emptiedList]
  exact ⟨hchunks', hobjects', hcolls', by rw [hgrants']; exact hgrants⟩

/-- The abort, once its items are released, is that of the state with the list emptied. -/
theorem abortStream_emptied (hi : i < 8) (hnone : slot none s.slc.deferred i = none) :
    abortStream i s = abortStream i (emptiedList i s) := by
  have hstream := emptiedList_stream hi s
  rw [abortStream_eq hnone, abortStream_eq (emptiedList_noDeferred hnone), emptiedList_of_nil (s := emptiedList i s) (by rw [hstream]), hstream]
  rfl

/-! ### The object's end -/

theorem Table.write_read {α : Type} [DecidableEq α] {d : α} {t : Table α} (h : Table.Canonical d t) (k : Nat) :
    Table.write d t k (Table.read d t k) = t := by
  refine Table.canonical_ext d _ _ (Table.canonical_write d t k _ h) h fun j => ?_
  by_cases hj : j = k
  · rw [hj, Table.read_write_self _ _ _ _ h.1]
  · rw [Table.read_write_other _ _ _ _ _ h.1 hj]

/-- A recipe replaced by itself. -/
theorem setRecipe_self {n : Nat} {l : List Ref} (h : Table.Canonical Obj.free s.oct.objects) (hl : (s.object n).recipe = l) :
    setRecipe n l s = s := by
  subst hl
  have hwrite : Table.write Obj.free s.oct.objects n (s.object n) = s.oct.objects := Table.write_read h n
  simp only [setRecipe, repage, Nat.add_sub_cancel, hwrite]

section
variable {x : Stream}

/-- An object with no recorded chunk is freed at once (R64, R92). -/
theorem finishAbort_frees (h : Table.Canonical Obj.free s.oct.objects) (hordinal : x.ordinal = 0)
    (hrecipe : (s.object x.object).recipe = []) :
    finishAbort i x s =
      let c := s.coll x.collection
      { s with
        oct :=
          { objects := Table.write Obj.free s.oct.objects x.object Obj.free
            colls := Table.write Coll.free s.oct.colls x.collection { c with reserved := c.reserved - 1 }
            freePages := s.oct.freePages + (c.members.length + c.reserved + 63) / 64
              - (c.members.length + (c.reserved - 1) + 63) / 64 }
        bpc := if x.bayHeld = true then s.bpc.release s.slc.settings .stream x.bay else s.bpc
        streams := put s.streams i Stream.closed } := by
  have hfrees : x.abortFrees = true := decide_eq_true hordinal
  simp only [finishAbort, hfrees, if_true]
  rw [setRecipe_self (by exact h) (by exact hrecipe)]
  cases x.bayHeld <;> rfl

/-- An object with recorded chunks is handed on with an order (R64, R97, R111). -/
theorem finishAbort_hands (hordinal : x.ordinal ≠ 0) :
    finishAbort i x s =
      let c := s.coll x.collection
      let handed := appendOrder (.object x.object)
        { s with oct :=
          { objects := Table.write Obj.free s.oct.objects x.object { s.object x.object with state := .retiring, holders := 0 }
            colls := Table.write Coll.free s.oct.colls x.collection { c with reserved := c.reserved - 1 }
            freePages := s.oct.freePages + (c.members.length + c.reserved + 63) / 64
              - (c.members.length + (c.reserved - 1) + 63) / 64 } }
      { handed with
        bpc := if x.bayHeld = true then s.bpc.release s.slc.settings .stream x.bay else s.bpc
        streams := put s.streams i Stream.closed } := by
  extract_lets c o handed
  have hkeeps : ¬ x.abortFrees = true := fun h => hordinal (of_decide_eq_true h)
  have hdef : finishAbort i x s = (if x.bayHeld then releaseBay .stream x.bay handed else handed).setStream i Stream.closed := by
    simp only [finishAbort]
    rw [if_neg hkeeps]
    rfl
  obtain ⟨hbpc, hslc, hstreams⟩ : handed.bpc = s.bpc ∧ handed.slc = s.slc ∧ handed.streams = s.streams := by simp [handed]
  rw [hdef, ← hbpc, ← hslc, ← hstreams]
  cases x.bayHeld <;> rfl

end

/-- The checks of STREAM_ABORT (R43, R64). -/
def streamAbortChecks (s : State) (r : Request) : List (Bool × Status) :=
  changeGate s ++ streamNumberChecks r ++ [(!r.hasLength 0, .badField)] ++ closedCheck s r

theorem execStreamAbort_eq (s : State) :
    execStreamAbort s =
      take .streamAbort anyForm (fun r s => guarded (streamAbortChecks s r) r (streamAbortTaken r) s) s := rfl

theorem firstFail_streamAbortChecks (hchange : Changeable s) (hi : r.aux.toNat < 8) (hlen : r.payload = []) :
    firstFail (streamAbortChecks s.quiet r) = if (s.stream r.aux.toNat).state = .closed then some .state else none := by
  refine firstFail_changeable hchange <| firstFail_skip (decide_lt_of_lt hi) <|
    firstFail_skip (not_hasLength_of_eq_nil hlen) ?_
  by_cases h : (s.stream r.aux.toNat).state = .closed
  · rw [if_pos h]
    exact if_pos (decide_eq_true h)
  · rw [if_neg h]
    exact if_neg (Bool.eq_false_iff.1 (decide_eq_false h))

/-- Settles O36. -/
theorem streamAbort : Obligations.StreamAbort := by
  refine ⟨fun s r ho hchange => ?_, appendOrder_joins, fun s r i ho hchange haux hi hlen => ?_, fun s i ordinal dropped => ?_,
    fun s i tag aux hi hsome => ?_, fun s i hi hnone => ?_, fun s i hi htables hnil hnone => ?_⟩
  · refine refusedFirst_of_covers (f := fun _ => streamAbortTaken) execStreamAbort rfl (execStreamAbort_eq s) ho rfl (.changeable hchange ?_)
    exact .or decide_eq_true_iff <| .one (not_hasLength_zero_iff r) <| .one decide_eq_true_iff (.done _)
  · subst haux
    intro x owed
    have howed : owed = x.owedCount := congrArg (fun f => (x.outstanding.filter f).length) owed_eq.symm
    have hkept : (if x.ordinal ≠ 0 then 1#8 else 0#8) = flagByte (!x.abortFrees) := by
      rw [Stream.abortFrees, ← decide_not, flagByte_decide]
    refine ⟨fun hclosed => ?_, fun hopen => ?_⟩
    · refine refused_of_firstFail streamAbortChecks (fun _ => streamAbortTaken) (execStreamAbort_eq s) ho rfl ?_
      rw [firstFail_streamAbortChecks hchange hi hlen]
      exact if_pos hclosed
    · rw [howed, hkept]
      refine ends_of_checks_pass (f := fun _ => streamAbortTaken) execStreamAbort rfl (execStreamAbort_eq s) ho rfl ?_ rfl
      rw [firstFail_streamAbortChecks hchange hi hlen]
      exact if_neg hopen
  · intro x o pages item
    exact ⟨fun _ => rfl, fun _ => rfl, fun _ => rfl, fun _ _ => rfl⟩
  · rw [abortStream, sendDeferred_some _ hsome, abortStream, sendDeferred_none]
    · rfl
    · exact slot_put_self _ _ _ _ hi
  · exact ⟨abortStream_emptied hi hnone, emptiedList_stream hi s, emptiedList_noDeferred hnone, emptiedList_tablesSound⟩
  · have hrest : abortStream i s = finishAbort i (s.stream i) s := by
      rw [abortStream_eq hnone, emptiedList_of_nil hnil]
    obtain ⟨-, hobjects, -, -⟩ := htables
    rw [hrest]
    exact ⟨fun hordinal hrecipe => finishAbort_frees hobjects hordinal hrecipe, fun hordinal => finishAbort_hands hordinal⟩

end Sys2Proof.Machine
end

section
/-!
PROOFS. COLLECTION_OPEN, COLLECTION_CLOSE and RETIRE_COLLECTION, and the advance of the owner's schedule (R101 to R103, R111,
R136, R177).
-/

namespace Sys2Proof.Machine

variable {s t : State} {r : Request}

/-! ### The advance of a schedule (R177) -/

/-- The steps of an advance are the least number that passes the bar. -/
theorem advanceSteps_eq {due p bar k : Nat} (hk : 1 ≤ k) (hp : 1 ≤ p) (hpast : bar < due + k * p)
    (hleast : ∀ j, 1 ≤ j → j < k → due + j * p ≤ bar) : advanceSteps due p bar = k := by
  rw [advanceSteps]
  by_cases hone : k = 1
  · subst hone
    rw [if_pos (by omega)]
  · have hfirst := hleast 1 le_rfl (by omega)
    have hlast := hleast (k - 1) (by omega) (by omega)
    have hdiv : (bar - due) / p = k - 1 := by
      refine Nat.div_eq_of_lt_le ?_ ?_
      · omega
      · rw [Nat.sub_add_cancel hk]
        omega
    rw [if_neg (by omega), hdiv]
    omega

theorem advanceSchedule_none {c g : Nat}
    (h : (s.client c).active = false ∨ (s.client c).generation ≠ g ∨ (s.client c).schedule = none) :
    advanceSchedule c g s = s := by
  refine if_neg fun ⟨hactive, hgeneration, hschedule⟩ => ?_
  rcases h with h | h | h
  · rw [hactive] at h
    contradiction
  · exact h hgeneration
  · rw [h] at hschedule
    contradiction

theorem advanceSchedule_some {c g : Nat} (hactive : (s.client c).active = true) (hgeneration : (s.client c).generation = g)
    {sch : Schedule} (hschedule : (s.client c).schedule = some sch) :
    advanceSchedule c g s = evaluateDue [c] (s.setClient c ((s.client c).advanced s.bck.boxTime)) :=
  if_pos ⟨hactive, hgeneration, by rw [hschedule]; rfl⟩

/-! ### The checks -/

theorem collKindOfCode_isNone_iff (n : Nat) : (CollKind.ofCode n).isNone = true ↔ n < 1 ∨ 2 < n := by
  match n with
  | 0 | 1 | 2 => decide
  | n + 3 => simp [CollKind.ofCode]

/-- COLLECTION_CLOSE is taken (R102). -/
def collectionCloseTaken (r : Request) (s : State) : State :=
  let t := closeSnapshot r.collNumber s
  answer r .ok (t.collRecord r.collNumber) t

theorem execCollectionClose_eq (s : State) :
    execCollectionClose s =
      take .collectionClose anyForm (fun r s => guarded (collectionCloseChecks s r) r (collectionCloseTaken r) s) s := rfl

/-- RETIRE_COLLECTION is taken (R103). -/
def retireCollectionTaken (r : Request) (s : State) : State :=
  let t := retireColl r.collNumber s
  answer r .ok (t.collRecord r.collNumber) t

theorem execRetireCollection_eq (s : State) :
    execRetireCollection s =
      take .retireCollection anyForm
        (fun r s => guarded (retireCollectionChecks s r) r (retireCollectionTaken r) s) s := rfl

theorem collectionOpen_refusedFirst (hchange : Changeable s) (ho : Offered s .collectionOpen r) :
    RefusedFirst .collectionOpen s r
      [(r.payload.length ≠ 2 ∨ 15 < byteAt r.payload 0 ∨ byteAt r.payload 1 < 1 ∨ 2 < byteAt r.payload 1, .badField),
       ((s.client (byteAt r.payload 0)).active = false, .noSuch), ((s.client (byteAt r.payload 0)).role = .viewer, .state),
       (Table.lowestFree 1024 s.oct.colls = none, .full)] := by
  refine refusedFirst_of_covers (f := fun _ => collectionOpenTaken) execCollectionOpen rfl rfl ho rfl
    (.changeable hchange ?_)
  exact .or (not_hasLength_iff r 2) <| .or decide_eq_true_iff <| .one (collKindOfCode_isNone_iff _) <|
    .one (by simp) <| .one decide_eq_true_iff <| .one Option.isNone_iff_eq_none (.done _)

theorem collectionClose_refusedFirst (hchange : Changeable s) (ho : Offered s .collectionClose r) :
    RefusedFirst .collectionClose s r
      [(r.payload.length ≠ 2 ∨ 1023 < field r.payload 0 2, .badField), ((s.coll (field r.payload 0 2)).state = .free, .noSuch),
       ((s.coll (field r.payload 0 2)).state = .retiring, .retiring),
       ((s.coll (field r.payload 0 2)).kind = .album ∨ (s.coll (field r.payload 0 2)).state = .closed, .state),
       (0 < (s.coll (field r.payload 0 2)).reserved, .streamsOpen)] := by
  refine refusedFirst_of_covers execCollectionClose rfl (execCollectionClose_eq s) ho rfl (.changeable hchange ?_)
  refine .or (not_hasLength_iff r 2) <| .one decide_eq_true_iff <| .one decide_eq_true_iff <| .one decide_eq_true_iff <|
    .one ?_ <| .one decide_eq_true_iff (.done _)
  rw [Bool.or_eq_true, decide_eq_true_iff, decide_eq_true_iff]
  rfl

theorem retireCollection_refusedFirst (hchange : Changeable s) (ho : Offered s .retireCollection r) :
    RefusedFirst .retireCollection s r
      [(r.payload.length ≠ 2 ∨ 1023 < field r.payload 0 2, .badField), ((s.coll (field r.payload 0 2)).state = .free, .noSuch),
       ((s.coll (field r.payload 0 2)).state = .retiring, .retiring),
       (0 < (s.coll (field r.payload 0 2)).reserved, .streamsOpen)] := by
  refine refusedFirst_of_covers execRetireCollection rfl (execRetireCollection_eq s) ho rfl (.changeable hchange ?_)
  exact .or (not_hasLength_iff r 2) <| .one decide_eq_true_iff <| .one decide_eq_true_iff <| .one decide_eq_true_iff <|
    .one decide_eq_true_iff (.done _)

/-- COLLECTION_OPEN that passes its checks (R101). -/
theorem collectionOpen_answers {n : Nat} {kind : CollKind} (hchange : Changeable s) (ho : Offered s .collectionOpen r)
    (hlen : r.payload.length = 2) (hc : byteAt r.payload 0 < 16) (hkind : CollKind.ofCode (byteAt r.payload 1) = some kind)
    (hactive : (s.client (byteAt r.payload 0)).active = true) (hrole : (s.client (byteAt r.payload 0)).role ≠ .viewer)
    (hfree : Table.lowestFree 1024 s.oct.colls = some n) :
    let t := s.quiet.setColl n
      { state := .open, kind := kind, owner := (byteAt r.payload 0, (s.client (byteAt r.payload 0)).generation)
        created := s.bck.boxTime, closed := none, members := [], reserved := 0 }
    Answers .collectionOpen s r .ok (t.collRecord n) t := by
  have hpass : firstFail (collectionOpenChecks s.quiet r) = none :=
    firstFail_changeable hchange <| firstFail_skip (not_hasLength_of hlen) <| firstFail_skip (decide_lt_of_lt hc) <|
      firstFail_skip (by rw [hkind]; rfl) <| firstFail_skip (congrArg not hactive) <| firstFail_skip (decide_eq_false hrole) <|
      firstFail_skip (congrArg Option.isNone hfree) rfl
  refine ends_of_checks_pass (f := fun _ => collectionOpenTaken) execCollectionOpen rfl rfl ho rfl hpass ?_
  have hn : s.quiet.freeColl.getD 0 = n := congrArg (Option.getD · 0) hfree
  simp only [collectionOpenTaken, hn, Coll.created_, hkind]
  rfl

/-- COLLECTION_CLOSE that passes its checks (R102, R177). -/
theorem collectionClose_answers (hchange : Changeable s) (ho : Offered s .collectionClose r) (hlen : r.payload.length = 2)
    (hn : field r.payload 0 2 < 1024) (hopen : (s.coll (field r.payload 0 2)).state = .open)
    (hkind : (s.coll (field r.payload 0 2)).kind = .snapshot) (hreserved : (s.coll (field r.payload 0 2)).reserved = 0) :
    Answers .collectionClose s r .ok ((closeSnapshot (field r.payload 0 2) s.quiet).collRecord (field r.payload 0 2))
      (closeSnapshot (field r.payload 0 2) s.quiet) := by
  have hstate (st : CollState) (h : CollState.open ≠ st) : decide ((s.coll (field r.payload 0 2)).state = st) = false :=
    decide_eq_false (by rw [hopen]; exact h)
  have hsealed : (decide ((s.coll (field r.payload 0 2)).kind = .album)
      || decide ((s.coll (field r.payload 0 2)).state = .closed)) = false := by
    rw [hstate .closed (by decide), hkind]
    rfl
  have hnone : decide (0 < (s.coll (field r.payload 0 2)).reserved) = false := by
    rw [hreserved]
    rfl
  exact ends_of_checks_pass execCollectionClose rfl (execCollectionClose_eq s) ho rfl
    (firstFail_changeable hchange <| firstFail_skip (not_hasLength_of hlen) <| firstFail_skip (decide_le_of_lt hn) <|
      firstFail_skip (hstate _ (by decide)) <| firstFail_skip (hstate _ (by decide)) <| firstFail_skip hsealed <|
      firstFail_skip hnone rfl) rfl

/-- RETIRE_COLLECTION that passes its checks (R103, R136). -/
theorem retireCollection_answers (hchange : Changeable s) (ho : Offered s .retireCollection r) (hlen : r.payload.length = 2)
    (hn : field r.payload 0 2 < 1024)
    (hstate : (s.coll (field r.payload 0 2)).state = .open ∨ (s.coll (field r.payload 0 2)).state = .closed)
    (hreserved : (s.coll (field r.payload 0 2)).reserved = 0) :
    Answers .retireCollection s r .ok ((retireColl (field r.payload 0 2) s.quiet).collRecord (field r.payload 0 2))
      (retireColl (field r.payload 0 2) s.quiet) := by
  have hfree : (s.coll (field r.payload 0 2)).state ≠ .free := by rcases hstate with h | h <;> rw [h] <;> decide
  have hretiring : (s.coll (field r.payload 0 2)).state ≠ .retiring := by rcases hstate with h | h <;> rw [h] <;> decide
  have hnone : decide (0 < (s.coll (field r.payload 0 2)).reserved) = false := by
    rw [hreserved]
    rfl
  exact ends_of_checks_pass execRetireCollection rfl (execRetireCollection_eq s) ho rfl
    (firstFail_changeable hchange <| firstFail_skip (not_hasLength_of hlen) <| firstFail_skip (decide_le_of_lt hn) <|
      firstFail_skip (decide_eq_false hfree) <| firstFail_skip (decide_eq_false hretiring) <| firstFail_skip hnone rfl) rfl

/-- Settles O37. -/
theorem collectionRequests : Obligations.CollectionRequests := by
  refine ⟨fun s r hchange => ⟨collectionOpen_refusedFirst hchange, collectionClose_refusedFirst hchange,
      retireCollection_refusedFirst hchange⟩,
    fun s r c n kind ho hchange hlen hbyte hc hcode hactive => ?_, fun s r n hchange hlen hfield hn => ?_,
    fun s c g hc => ⟨advanceSchedule_none, fun sch k hactive hgeneration hschedule hk hp => ?_⟩⟩
  · subst hbyte
    have hkind : CollKind.ofCode (byteAt r.payload 1) = some kind := by
      rcases hcode with ⟨h, rfl⟩ | ⟨h, rfl⟩ <;> rw [h] <;> rfl
    have hgood : ¬ (r.payload.length ≠ 2 ∨ 15 < byteAt r.payload 0 ∨ byteAt r.payload 1 < 1 ∨ 2 < byteAt r.payload 1) := by
      rcases hcode with ⟨h, -⟩ | ⟨h, -⟩ <;> omega
    have hrefused := ((collectionOpen_refusedFirst hchange ho).2 hgood).2 (by rw [hactive]; decide)
    exact ⟨hrefused.1, fun hrole hnone => (hrefused.2 hrole).1 hnone, fun hrole hfree =>
      collectionOpen_answers hchange ho hlen hc hkind hactive hrole hfree⟩
  · subst hfield
    intro l
    have hgood : ¬ (r.payload.length ≠ 2 ∨ 1023 < field r.payload 0 2) := by omega
    have hnot {st st' : CollState} (h : l.state = st) (hne : st ≠ st') : ¬ l.state = st' := fun h' => hne (h.symm.trans h')
    refine ⟨fun ho => ?_, fun ho => ?_⟩
    · have hclose := (collectionClose_refusedFirst hchange ho).2 hgood
      refine ⟨hclose.1, fun h => ?_, fun h hkind => ?_, fun h => ?_, fun h hkind hreserved => ?_, fun h hkind hreserved => ?_⟩
      · exact (hclose.2 (hnot h (by decide))).1 h
      · exact ((hclose.2 (hnot h (by decide))).2 (hnot h (by decide))).1 (.inl hkind)
      · exact ((hclose.2 (hnot h (by decide))).2 (hnot h (by decide))).1 (.inr h)
      · refine (((hclose.2 (hnot h (by decide))).2 (hnot h (by decide))).2 ?_).1 hreserved
        rintro (hk | hk)
        · exact absurd (hkind.symm.trans hk) (by decide)
        · exact hnot h (by decide) hk
      · exact collectionClose_answers hchange ho hlen hn h hkind hreserved
    · have hretire := (retireCollection_refusedFirst hchange ho).2 hgood
      have hnot' {st : CollState} (h : l.state = .open ∨ l.state = .closed) (hopen : CollState.open ≠ st)
          (hclosed : CollState.closed ≠ st) : ¬ l.state = st := h.elim (hnot · hopen) (hnot · hclosed)
      refine ⟨hretire.1, fun h => (hretire.2 (hnot h (by decide))).1 h, fun h hreserved =>
        ((hretire.2 (hnot' h (by decide) (by decide))).2 (hnot' h (by decide) (by decide))).1 hreserved, fun h hreserved => ?_⟩
      intro orders u
      have hanswers {t : State} (ht : retireColl (field r.payload 0 2) s.quiet = t) :
          Answers .retireCollection s r .ok (t.collRecord (field r.payload 0 2)) t :=
        ht ▸ retireCollection_answers hchange ho hlen hn h hreserved
      refine ⟨fun hwalk => hanswers ?_, fun o hidle hfind => hanswers ?_⟩
      · exact takeIfIdle_rest (s := { u with rtu := { s.rtu with orders := orders } }) (.inl hwalk)
      · exact takeIfIdle_takes (s := { u with rtu := { s.rtu with orders := orders } }) hidle hchange.1 hchange.2 hfind
  · intro bar hpast hleast next y
    have hsteps : advanceSteps sch.nextDue (sch.period * 60) bar = k := advanceSteps_eq hk (by omega) hpast hleast
    have hy : (s.client c).advanced s.bck.boxTime = y := by
      simp only [Client.advanced, hschedule]
      rw [hsteps]
    rw [advanceSchedule_some hactive hgeneration hschedule, hy]

end Sys2Proof.Machine
end

section
/-!
PROOFS. MEMBER_ADD and MEMBER_REMOVE: their batches, and what one entry does to the list, its pages and the holder count (R91,
R100, R104 to R106, R111).
-/

namespace Sys2Proof.Machine

variable {s t : State} {r : Request}

/-! ### The batches -/

theorem memberAdd_refusedFirst (hchange : Changeable s) (ho : Offered s .memberAdd r) :
    RefusedFirst .memberAdd s r
      [(1023 < r.aux.toNat, .badField), ((s.coll r.aux.toNat).state = .free, .noSuch),
       ((s.coll r.aux.toNat).state = .retiring, .retiring), ((s.coll r.aux.toNat).kind = .snapshot, .state)] := by
  refine refusedFirst_of_covers (f := fun _ => memberAddTaken) execMemberAdd rfl rfl ho rfl (.changeable hchange ?_)
  exact .one decide_eq_true_iff <| .one decide_eq_true_iff <| .one decide_eq_true_iff <| .one decide_eq_true_iff (.done _)

theorem memberRemove_refusedFirst (hchange : Changeable s) (ho : Offered s .memberRemove r) :
    RefusedFirst .memberRemove s r
      [(1023 < r.aux.toNat, .badField), ((s.coll r.aux.toNat).state = .free, .noSuch),
       ((s.coll r.aux.toNat).state = .retiring, .retiring), ((s.coll r.aux.toNat).state = .closed, .state)] := by
  refine refusedFirst_of_covers (f := fun _ => memberRemoveTaken) execMemberRemove rfl rfl ho rfl (.changeable hchange ?_)
  exact .one decide_eq_true_iff <| .one decide_eq_true_iff <| .one decide_eq_true_iff <| .one decide_eq_true_iff (.done _)

/-! ### One entry of MEMBER_ADD -/

theorem memberAddEntry_of_fails {c n : Nat} {st : Status} (h : firstFail (memberAddEntryChecks s c n) = some st) :
    memberAddEntry c n s = (st, s) := by
  simp only [memberAddEntry, h]

theorem memberAddEntry_of_passes {c n : Nat} (h : firstFail (memberAddEntryChecks s c n) = none) :
    memberAddEntry c n s = (.ok, addMember c n s) := by
  simp only [memberAddEntry, h]

/-- The checks of an entry for an object that exists come to its state and, for a COMPLETE one, to the list (R104). -/
theorem firstFail_memberAddEntryChecks {c n : Nat} (hn : n < 1048576) :
    firstFail (memberAddEntryChecks s c n) =
      match (s.object n).state with
      | .free => some .noSuch
      | .building => some .state
      | .retiring => some .retiring
      | .complete => firstFail [(decide (n ∈ (s.coll c).members), .already), ((s.coll c).isFull, .full),
          (!s.poolFits (s.coll c).slots ((s.coll c).slots + 1), .poolFull)] := by
  refine firstFail_skip (decide_le_of_lt hn) ?_
  cases h : (s.object n).state <;> simp [firstFail]

/-! ### One entry of MEMBER_REMOVE -/

/-- The state with a changed list and a changed object, and the pages of the list (R91). -/
def memberChanged (c n : Nat) (s : State) (members : List Nat) (x : Obj) : State :=
  let l := s.coll c
  { s with oct :=
    { objects := Table.write Obj.free s.oct.objects n x
      colls := Table.write Coll.free s.oct.colls c { l with members := members }
      freePages := s.oct.freePages + (l.members.length + l.reserved + 63) / 64 - (members.length + l.reserved + 63) / 64 } }

theorem addMember_eq (c n : Nat) (s : State) :
    addMember c n s =
      memberChanged c n s (insertMember n (s.coll c).members) { s.object n with holders := (s.object n).holders + 1 } := rfl

theorem dropMember_eq (c n : Nat) (s : State) :
    dropMember c n s =
      memberChanged c n s ((s.coll c).members.filter fun m => decide (m ≠ n))
        { s.object n with
          holders := (s.object n).holders - 1
          state := if (s.object n).holders - 1 = 0 then .retiring else (s.object n).state } := rfl

/-- The object written is read. -/
theorem memberChanged_object {c n : Nat} {members : List Nat} {x : Obj} (hx : x ≠ Obj.free) :
    (memberChanged c n s members x).object n = x := Table.read_write_used _ _ _ _ hx

theorem removeMember_keeps {c n : Nat} (h : 1 < (s.object n).holders) :
    removeMember c n s =
      memberChanged c n s ((s.coll c).members.filter fun m => decide (m ≠ n))
        { s.object n with holders := (s.object n).holders - 1 } := by
  have hmore : ¬ (s.object n).holders - 1 = 0 := by omega
  have hused : ({ s.object n with holders := (s.object n).holders - 1 } : Obj) ≠ Obj.free := fun hfree =>
    hmore (congrArg Obj.holders hfree)
  have hdrop := dropMember_eq c n s
  rw [if_neg hmore] at hdrop
  simp only [removeMember]
  rw [hdrop, memberChanged_object hused, if_neg hmore]

theorem removeMember_last {c n : Nat} (h : (s.object n).holders = 1) :
    removeMember c n s =
      appendOrder (.object n) (memberChanged c n s ((s.coll c).members.filter fun m => decide (m ≠ n))
        { s.object n with holders := 0, state := .retiring }) := by
  have hused : ({ s.object n with holders := 0, state := .retiring } : Obj) ≠ Obj.free := fun hfree =>
    absurd (congrArg Obj.state hfree) (by simp [Obj.free])
  have hdrop := dropMember_eq c n s
  rw [h, if_pos rfl] at hdrop
  simp only [removeMember]
  rw [hdrop, memberChanged_object hused, if_pos rfl]

theorem memberRemoveEntry_of_range {c n : Nat} (hn : n < 1048576) :
    memberRemoveEntry c n s = if n ∉ (s.coll c).members then (.noSuch, s) else (.ok, removeMember c n s) :=
  if_neg (Nat.not_le.2 hn)

/-- Settles O38. -/
theorem memberBatches : Obligations.MemberBatches := by
  refine ⟨fun s r hchange => ⟨memberAdd_refusedFirst hchange, memberRemove_refusedFirst hchange⟩, appendOrder_joins,
    fun s r c hchange haux hc => ?_, fun _ _ _ _ _ => ⟨rfl, rfl⟩, fun s c n => ?_⟩
  · subst haux
    intro l done
    have hrange : ¬ 1023 < r.aux.toNat := by omega
    have hnot {st st' : CollState} (h : l.state = st) (hne : st ≠ st') : ¬ l.state = st' := fun h' => hne (h.symm.trans h')
    refine ⟨fun ho hopen hkind => ?_, fun ho hopen hkind => ?_, fun ho hopen => ?_, fun ho hclosed => ?_⟩
    · have hsnapshot : ¬ l.kind = .snapshot := fun h => absurd (hkind.symm.trans h) (by decide)
      exact ends_of_checks_pass (f := fun _ => memberAddTaken) execMemberAdd rfl rfl ho rfl
        (firstFail_changeable hchange <| firstFail_skip (decide_eq_false (Nat.not_le.2 hc)) <|
          firstFail_skip (decide_eq_false (hnot hopen (by decide))) <|
          firstFail_skip (decide_eq_false (hnot hopen (by decide))) <| firstFail_skip (decide_eq_false hsnapshot) rfl) rfl
    · exact (((memberAdd_refusedFirst hchange ho).2 hrange).2 (hnot hopen (by decide))).2 (hnot hopen (by decide)) |>.1 hkind
    · exact ends_of_checks_pass (f := fun _ => memberRemoveTaken) execMemberRemove rfl rfl ho rfl
        (firstFail_changeable hchange <| firstFail_skip (decide_eq_false (Nat.not_le.2 hc)) <|
          firstFail_skip (decide_eq_false (hnot hopen (by decide))) <|
          firstFail_skip (decide_eq_false (hnot hopen (by decide))) <|
          firstFail_skip (decide_eq_false (hnot hopen (by decide))) rfl) rfl
    · exact (((memberRemove_refusedFirst hchange ho).2 hrange).2 (hnot hclosed (by decide))).2 (hnot hclosed (by decide))
        |>.1 hclosed
  · intro l o pages used changed
    refine ⟨fun hn => ⟨memberAddEntry_of_fails (if_pos (decide_eq_true hn)), if_pos hn⟩, fun hn => ?_⟩
    have hadd := firstFail_memberAddEntryChecks (s := s) (c := c) hn
    have hremove := memberRemoveEntry_of_range (s := s) (c := c) hn
    refine ⟨fun h => ?_, fun h => ?_, fun h => ?_, fun h hin => ?_, fun h hin hfull => ?_, fun h hin hroom hpool => ?_,
      fun h hin hroom hpool => ?_, fun hin => hremove.trans (if_pos hin), fun hin => ?_⟩
    · exact memberAddEntry_of_fails (by rw [hadd, h])
    · exact memberAddEntry_of_fails (by rw [hadd, h])
    · exact memberAddEntry_of_fails (by rw [hadd, h])
    · refine memberAddEntry_of_fails ?_
      rw [hadd, h]
      exact if_pos (decide_eq_true hin)
    · refine memberAddEntry_of_fails ?_
      rw [hadd, h]
      exact firstFail_skip (decide_eq_false hin) (if_pos (decide_eq_true hfull))
    · refine memberAddEntry_of_fails ?_
      rw [hadd, h]
      exact firstFail_skip (decide_eq_false hin) <| firstFail_skip (decide_le_of_lt hroom) <|
        if_pos ((not_poolFits_iff s used (used + 1)).2 hpool)
    · refine memberAddEntry_of_passes ?_
      rw [hadd, h]
      exact firstFail_skip (decide_eq_false hin) <| firstFail_skip (decide_le_of_lt hroom) <|
        firstFail_skip (not_poolFits_eq_false hpool) rfl
    · intro members
      rw [hremove, if_neg (not_not.2 hin)]
      exact ⟨fun h => congrArg (Prod.mk _) (removeMember_keeps h), fun h _ => congrArg (Prod.mk _) (removeMember_last h)⟩

end Sys2Proof.Machine
end

section
/-!
PROOFS. Charges, refunds and decrements (R34, R35, R85); RELEASE_TAKE and the deferred check (R119, R122).
-/

namespace Sys2Proof.Machine

variable {s t : State} {r : Request}

/-! ### Charges and refunds -/

section
variable {c g n : Nat}

theorem chargeAnswer_noSuch (h : ¬ ((s.client c).active = true ∧ (s.client c).generation = g)) :
    s.chargeAnswer c g n = .noSuch := if_pos h

theorem chargeAnswer_unlimited (h : (s.client c).active = true ∧ (s.client c).generation = g)
    (hq : (s.client c).quota = none) : s.chargeAnswer c g n = .ok := by
  simp only [State.chargeAnswer, hq]
  exact if_neg (not_not.2 h)

theorem chargeAnswer_limited (h : (s.client c).active = true ∧ (s.client c).generation = g) {q : Nat}
    (hq : (s.client c).quota = some q) :
    s.chargeAnswer c g n = if (s.client c).charged + n ≤ q * 1048576 then .ok else .quota := by
  simp only [State.chargeAnswer, hq]
  exact if_neg (not_not.2 h)

theorem charge_of_ok (h : s.chargeAnswer c g n = .ok) :
    charge c g n s = s.setClient c { s.client c with charged := (s.client c).charged + n } := if_pos h

theorem charge_of_not_ok (h : s.chargeAnswer c g n ≠ .ok) : charge c g n s = s := if_neg h

theorem refund_dropped (h : ¬ ((s.client c).active = true ∧ (s.client c).generation = g)) : refund c g n s = s := if_neg h

theorem refund_applied (h : (s.client c).active = true ∧ (s.client c).generation = g) :
    refund c g n s = s.setClient c { s.client c with charged := (s.client c).charged - n } := if_pos h

theorem client_setClient_other {k : Nat} (h : k ≠ c) (x : Client) : (s.setClient c x).client k = s.client k :=
  slot_put_other _ _ _ _ _ h

theorem client_charge_other {k : Nat} (h : k ≠ c) : (charge c g n s).client k = s.client k := by
  by_cases hok : s.chargeAnswer c g n = .ok
  · rw [charge_of_ok hok, client_setClient_other h]
  · rw [charge_of_not_ok hok]

theorem client_refund_other {k : Nat} (h : k ≠ c) : (refund c g n s).client k = s.client k := by
  by_cases hok : (s.client c).active = true ∧ (s.client c).generation = g
  · rw [refund_applied hok, client_setClient_other h]
  · rw [refund_dropped hok]

end

/-! ### Decrements -/

section
variable {h : Nat}

theorem decrement_pinned (hcount : (s.chunk h).refcount = 16777215) : decrement h s = s := if_pos hcount

theorem decrement_above_one (hone : 1 < (s.chunk h).refcount) (hpinned : (s.chunk h).refcount ≠ 16777215) :
    decrement h s = s.setChunk h { s.chunk h with refcount := (s.chunk h).refcount - 1 } := by
  simp only [decrement]
  rw [if_neg hpinned, if_pos hone]

/-- An extent joins the release list, if there is one (R117). -/
theorem releaseExtent_eq (loc : Option Loc) (length : Nat) (s : State) :
    releaseExtent loc length s =
      { s with rtu := { s.rtu with release := s.rtu.release ++ (loc.map fun l => l.extent length).toList } } := by
  cases loc with
  | none => simp [releaseExtent]
  | some l => rfl

theorem decrement_last (hcount : (s.chunk h).refcount = 1) :
    decrement h s = refundPayer (s.chunk h).payer (s.chunk h).length
      { s with
        chunks := Table.erase s.chunks h
        rtu := { s.rtu with
          release := s.rtu.release ++ ((s.chunk h).loc.map fun l => l.extent (s.chunk h).length).toList } } := by
  simp only [decrement]
  rw [if_neg (by rw [hcount]; decide), if_neg (by rw [hcount]; decide), releaseExtent_eq]
  rfl

end

/-- Settles O40. -/
theorem chargesRefundsAndDecrements : Obligations.ChargesRefundsAndDecrements := by
  refine ⟨fun s c g n hc => ⟨fun hnot => ?_, fun hactive hgeneration => ?_⟩, fun s h => ?_⟩
  · have hanswer := chargeAnswer_noSuch (n := n) hnot
    exact ⟨hanswer, charge_of_not_ok (by rw [hanswer]; decide), refund_dropped hnot⟩
  · have hnamed := And.intro hactive hgeneration
    refine ⟨fun q hq hover => ?_, fun q hroom => ?_, ?_, fun k hk hkc => ⟨client_charge_other hkc, client_refund_other hkc⟩⟩
    · have hanswer := (chargeAnswer_limited (n := n) hnamed hq).trans (if_neg (Nat.not_le.2 hover))
      exact ⟨hanswer, charge_of_not_ok (by rw [hanswer]; decide)⟩
    · have hanswer : s.chargeAnswer c g n = .ok := by
        rcases hroom with hq | ⟨hq, hle⟩
        · exact chargeAnswer_unlimited hnamed hq
        · exact (chargeAnswer_limited hnamed hq).trans (if_pos hle)
      exact ⟨hanswer, charge_of_ok hanswer⟩
    · have hsub : (if (s.client c).charged < n then 0 else (s.client c).charged - n) = (s.client c).charged - n := by
        split <;> omega
      rw [refund_applied hnamed, hsub]
  · intro e
    refine ⟨decrement_pinned, fun hone hpinned => decrement_above_one hone hpinned, fun hcount => ?_⟩
    intro u
    have hlast : decrement h s = refundPayer e.payer e.length u := decrement_last hcount
    exact ⟨fun hnone => hlast.trans (congrArg (refundPayer · e.length u) hnone),
      fun c g hsome => hlast.trans (congrArg (refundPayer · e.length u) hsome)⟩

/-! ### The deferred check -/

theorem eligible_eq_false_iff (s : State) (tag : Epoch) :
    eligible s.openEpochs tag = false ↔
      ∃ p < 16, (s.plan p).state ≠ .free ∧ (tag - (s.plan p).epoch).toNat < 2147483648 := by
  rw [eligible, State.openEpochs, toList_eq_map_slot Plan.free, List.all_eq_false]
  simp only [List.mem_map, List.mem_filter, List.mem_range, Bool.not_eq_true', Bool.not_eq_false, decide_eq_true_eq, atOrBefore]
  constructor
  · rintro ⟨-, ⟨-, ⟨⟨p, hp, rfl⟩, hfree⟩, rfl⟩, hle⟩
    exact ⟨p, hp, hfree, hle⟩
  · rintro ⟨p, hp, hfree, hle⟩
    exact ⟨_, ⟨_, ⟨⟨p, hp, rfl⟩, hfree⟩, rfl⟩, hle⟩

/-- The moves of one check: how many, and why no more (R122). -/
theorem moveDeferred_spec (epochs : List Epoch) (ds : List Deferred) (rel : List Extent) :
    ∃ k ≤ ds.length, moveDeferred epochs ds rel = (ds.drop k, rel ++ (ds.take k).map Deferred.extent)
      ∧ (∀ d ∈ ds.take k, eligible epochs d.tag = true) ∧ (0 < k → rel.length + k ≤ 4096)
      ∧ ∀ d, ds[k]? = some d → eligible epochs d.tag = false ∨ 4096 ≤ rel.length + k := by
  induction ds generalizing rel with
  | nil => exact ⟨0, Nat.le_refl _, by simp [moveDeferred], by simp, by simp, by simp⟩
  | cons d ds ih =>
    by_cases hmove : eligible epochs d.tag = true ∧ rel.length < Config.releaseMax
    · obtain ⟨heligible, hroom⟩ := hmove
      have hroom : rel.length < 4096 := hroom
      obtain ⟨k, hk, hmoved, hall, hsize, hstop⟩ := ih (rel ++ [d.extent])
      have hlen : (rel ++ [d.extent]).length = rel.length + 1 := by simp
      rw [hlen] at hsize hstop
      refine ⟨k + 1, Nat.succ_le_succ hk, ?_, ?_, fun _ => ?_, fun e he => ?_⟩
      · rw [moveDeferred, if_pos ⟨heligible, hroom⟩, hmoved]
        simp
      · rw [List.take_succ_cons, List.forall_mem_cons]
        exact ⟨heligible, hall⟩
      · rcases Nat.eq_zero_or_pos k with rfl | hpos
        · omega
        · have hk' := hsize hpos
          omega
      · rcases hstop e (by simpa using he) with h | h
        · exact .inl h
        · exact .inr (by omega)
    · refine ⟨0, Nat.zero_le _, ?_, by simp, by simp, fun e he => ?_⟩
      · rw [moveDeferred, if_neg hmove]
        simp
      · obtain rfl : d = e := by simpa using he
        rcases not_and_or.1 hmove with h | h
        · exact .inl (Bool.eq_false_iff.2 h)
        · exact .inr (Nat.not_lt.1 h)

theorem makeDeferredCheck_rest (h : s.tiu.load ≠ .loaded ∨ s.tiu.exporting = true) : makeDeferredCheck s = s := by
  refine if_neg fun hruns => ?_
  obtain ⟨hload, hexporting⟩ := (walkRuns_iff s).1 hruns
  rcases h with h | h
  · exact h hload
  · rw [hexporting] at h
    contradiction

theorem makeDeferredCheck_runs (hload : s.tiu.load = .loaded) (hexporting : s.tiu.exporting = false) :
    makeDeferredCheck s = { s with rtu := { s.rtu with
      deferred := (moveDeferred s.openEpochs s.rtu.deferred s.rtu.release).1
      release := (moveDeferred s.openEpochs s.rtu.deferred s.rtu.release).2 } } :=
  if_pos ((walkRuns_iff s).2 ⟨hload, hexporting⟩)

/-! ### RELEASE_TAKE -/

theorem resumeWalk_eq (s : State) :
    resumeWalk s =
      if s.rtu.walk = .paused ∧ s.rtu.release.length < 4096 then
        referenceRemoval { s with rtu := { s.rtu with walk := .walking } } else s := by
  have hroom : (!s.rtu.releaseFull) = true ↔ s.rtu.release.length < 4096 := by
    rw [Rtu.releaseFull, ← decide_not, decide_eq_true_iff]
    exact Nat.not_le
  simp only [resumeWalk, hroom]

/-- Settles O41. -/
theorem releaseTakeAndDeferredCheck : Obligations.ReleaseTakeAndDeferredCheck := by
  refine ⟨fun s r ho hchange haux => ?_, fun s r n ho hchange haux hlen hn hlow hhigh => ?_, fun s => ends_of_event rfl rfl,
    fun s => makeDeferredCheck_rest, fun s hload hexporting => ?_⟩
  · have hform : decide (r.auxNat ≠ 1) = true := by
      refine decide_eq_true fun h => haux ?_
      exact BitVec.eq_of_toNat_eq h
    refine refusedFirst_of_covers (f := fun _ => releaseTakeTaken) execReleaseTake rfl rfl ho hform (.changeable hchange ?_)
    refine .or decide_eq_true_iff <| .or (not_hasLength_iff r 2) <| .one ?_ (.done _)
    rw [Bool.or_eq_true, decide_eq_true_iff, decide_eq_true_iff]
  · subst hn
    intro taken checked t
    have hform : decide (r.auxNat ≠ 1) = true := by simp [haux]
    have haux' : decide (1 < r.auxNat) = false := by simp [haux]
    have hcount : (decide (field r.payload 0 2 = 0) || decide (512 < field r.payload 0 2)) = false := by
      rw [Bool.or_eq_false_iff, decide_eq_false_iff_not, decide_eq_false_iff_not]
      exact ⟨Nat.one_le_iff_ne_zero.1 hlow, Nat.not_lt.2 hhigh⟩
    have hresume : resumeWalk checked = t := by
      have hwalk : checked.rtu.walk = s.rtu.walk := by simp [checked, taken]
      rw [resumeWalk_eq, hwalk]
    refine ends_of_checks_pass (f := fun _ => releaseTakeTaken) execReleaseTake rfl rfl ho hform
      (firstFail_changeable hchange <| firstFail_skip haux' <| firstFail_skip (not_hasLength_of hlen) <|
        firstFail_skip hcount rfl) ?_
    rw [← hresume]
    rfl
  · intro held
    obtain ⟨k, hk, hmoved, hall, hsize, hstop⟩ := moveDeferred_spec s.openEpochs s.rtu.deferred s.rtu.release
    refine ⟨k, hk, ?_, fun d hd hheld => ?_, hsize, fun d hd => ?_⟩
    · rw [makeDeferredCheck_runs hload hexporting, hmoved]
    · have hblocked := (eligible_eq_false_iff s d.tag).2 hheld
      rw [hall d hd] at hblocked
      contradiction
    · exact (hstop d hd).imp_left (eligible_eq_false_iff s d.tag).1

end Sys2Proof.Machine
end

section
/-!
PROOFS. The steps of the walk (R106, R111 to R115, R118).
-/

namespace Sys2Proof.Machine

variable {s t : State} {r : Request} {c n : Nat}

/-! ### Where the walk stands -/

theorem walkColl_iff (w : Rtu) (c : Nat) : w.walkColl = some c ↔ w.current = some (.coll c) ∧ w.nested = none := by
  rw [Rtu.walkColl]
  rcases w.current with _ | _ | _ <;> rcases w.nested with _ | _ <;> simp

theorem walkObject_iff (w : Rtu) (n : Nat) :
    w.walkObject = some n ↔ w.nested = some n ∨ w.nested = none ∧ w.current = some (.object n) := by
  rw [Rtu.walkObject]
  rcases w.current with _ | _ | _ <;> rcases w.nested with _ | _ <;> simp

theorem whileWalking_walking {step : State → State} (h : s.rtu.walk = .walking) : whileWalking step s = step s := if_pos h

theorem whileWalking_rest {step : State → State} (h : s.rtu.walk ≠ .walking) : whileWalking step s = s := if_neg h

/-- A step that leaves the state as it is leaves it in every walk state. -/
theorem whileWalking_of_eq {step : State → State} (h : step s = s) : whileWalking step s = s := by
  rw [whileWalking]
  split
  · exact h
  · rfl

/-! ### Taking an order -/

theorem takeOldest_some {o : Order} (h : s.rtu.orders.find? s.walkable = some o) :
    takeOldest s = { s with rtu := { s.rtu with current := some o, nested := none, walk := .walking } } := by
  rw [takeOldest, h]

theorem takeOldest_none (h : s.rtu.orders.find? s.walkable = none) :
    takeOldest s = { s with rtu := { s.rtu with current := none, nested := none, walk := .idle } } := by
  rw [takeOldest, h]

/-! ### Members -/

theorem memberRemoval_none (h : ∀ c, s.rtu.walkColl = some c → (s.coll c).members = []) : memberRemoval s = s := by
  rw [memberRemoval]
  cases hc : s.rtu.walkColl with
  | none => rfl
  | some c =>
    dsimp only
    rw [walkMember, h c hc]

theorem filter_ne_head {rest : List Nat} (h : n ∉ rest) : (n :: rest).filter (fun m => decide (m ≠ n)) = rest := by
  rw [List.filter_cons_of_neg (by simp), List.filter_eq_self]
  exact fun m hm => decide_eq_true fun hmn => h (hmn ▸ hm)

section
variable {rest : List Nat}

theorem memberRemoval_eq (hc : s.rtu.walkColl = some c) (hmembers : (s.coll c).members = n :: rest) :
    memberRemoval s =
      if ((dropMember c n s).object n).holders = 0 then afterLastHolder n (dropMember c n s) else dropMember c n s := by
  rw [memberRemoval, hc]
  dsimp only
  rw [walkMember, hmembers]

theorem dropMember_head (hmembers : (s.coll c).members = n :: rest) (hrest : n ∉ rest) :
    dropMember c n s =
      memberChanged c n s rest
        { s.object n with
          holders := (s.object n).holders - 1
          state := if (s.object n).holders - 1 = 0 then .retiring else (s.object n).state } := by
  rw [dropMember_eq, hmembers, filter_ne_head hrest]

theorem memberRemoval_keeps (hc : s.rtu.walkColl = some c) (hmembers : (s.coll c).members = n :: rest) (hrest : n ∉ rest)
    (h : 1 < (s.object n).holders) :
    memberRemoval s = memberChanged c n s rest { s.object n with holders := (s.object n).holders - 1 } := by
  have hmore : ¬ (s.object n).holders - 1 = 0 := by omega
  have hused : ({ s.object n with holders := (s.object n).holders - 1 } : Obj) ≠ Obj.free := fun hfree =>
    hmore (congrArg Obj.holders hfree)
  have hdrop := dropMember_head hmembers hrest
  rw [if_neg hmore] at hdrop
  rw [memberRemoval_eq hc hmembers, hdrop, memberChanged_object hused, if_neg hmore]

theorem memberRemoval_last (hc : s.rtu.walkColl = some c) (hmembers : (s.coll c).members = n :: rest) (hrest : n ∉ rest)
    (h : (s.object n).holders = 1) :
    let u := memberChanged c n s rest { s.object n with holders := 0, state := .retiring }
    memberRemoval s =
      if (s.object n).planHolds = 0 then { u with rtu := { s.rtu with nested := some n } }
      else { u with rtu := { s.rtu with orders := s.rtu.orders ++ [.object n] } } := by
  have hused : ({ s.object n with holders := 0, state := .retiring } : Obj) ≠ Obj.free := fun hfree =>
    absurd (congrArg Obj.state hfree) (by simp [Obj.free])
  have hdrop := dropMember_head hmembers hrest
  rw [h, if_pos rfl] at hdrop
  rw [memberRemoval_eq hc hmembers, hdrop, memberChanged_object hused, if_pos rfl, afterLastHolder,
    memberChanged_object hused]
  rfl

end

/-! ### References -/

theorem referenceRemoval_none (h : ∀ n, s.rtu.walkObject = some n → (s.object n).recipe = []) : referenceRemoval s = s := by
  rw [referenceRemoval]
  cases hn : s.rtu.walkObject with
  | none => rfl
  | some n =>
    dsimp only
    rw [h n hn]

theorem referenceRemoval_eq (hn : s.rtu.walkObject = some n) {ref : Ref} {rest : List Ref}
    (hrecipe : (s.object n).recipe = ref :: rest) :
    referenceRemoval s =
      if ref.mayAdd = true ∧ 4096 ≤ s.rtu.release.length then { s with rtu := { s.rtu with walk := .paused } }
      else releaseRef n ref rest s := by
  have hfull : s.rtu.releaseFull = true ↔ 4096 ≤ s.rtu.release.length := decide_eq_true_iff
  rw [referenceRemoval, hn]
  dsimp only
  rw [hrecipe]
  simp only [hfull]

theorem releaseRef_priv (l : Option Loc) (length : Nat) (d : Digest) (damaged : Bool) (rest : List Ref) :
    releaseRef n (.priv l length d damaged) rest s =
      refund (s.object n).owner.1 (s.object n).owner.2 length
        { setRecipe n rest s with rtu := { s.rtu with
          release := s.rtu.release ++ (l.map fun x => x.extent length).toList } } := by
  simp only [releaseRef, releaseExtent_eq]
  rfl

/-! ### Ends of walks -/

theorem endObjectWalk_nested {m : Nat} (h : s.rtu.nested = some m) :
    endObjectWalk n s = { s with rtu := { s.rtu with nested := none } } := by
  rw [endObjectWalk, h]

theorem endObjectWalk_top (h : s.rtu.nested = none) : endObjectWalk n s = endWalk (.object n) s := by
  rw [endObjectWalk, h]

theorem objectFree_none (h : ∀ n, s.rtu.walkObject = some n → (s.object n).recipe ≠ []) : objectFree s = s := by
  rw [objectFree]
  cases hn : s.rtu.walkObject with
  | none => rfl
  | some n => exact if_neg (h n hn)

theorem objectFree_eq (hn : s.rtu.walkObject = some n) (hrecipe : (s.object n).recipe = []) :
    objectFree s = endObjectWalk n (s.setObject n Obj.free) := by
  rw [objectFree, hn]
  exact if_pos hrecipe

theorem collectionFree_none (h : ∀ c, s.rtu.walkColl = some c → (s.coll c).members ≠ []) : collectionFree s = s := by
  rw [collectionFree]
  cases hc : s.rtu.walkColl with
  | none => rfl
  | some c => exact if_neg (h c hc)

theorem collectionFree_eq (hc : s.rtu.walkColl = some c) (hmembers : (s.coll c).members = []) :
    collectionFree s = endWalk (.coll c) { s with oct := { s.oct with
      colls := Table.write Coll.free s.oct.colls c Coll.free
      freePages := s.oct.freePages + ((s.coll c).reserved + 63) / 64 } } := by
  have hslots : (s.coll c).slots = (s.coll c).reserved := by rw [Coll.slots, hmembers]; exact Nat.zero_add _
  have hreplace : replaceColl c Coll.free s = { s with oct := { s.oct with
      colls := Table.write Coll.free s.oct.colls c Coll.free
      freePages := s.oct.freePages + ((s.coll c).reserved + 63) / 64 } } := by
    rw [replaceColl, hslots]
    rfl
  rw [collectionFree, hc]
  dsimp only
  rw [if_pos hmembers, hreplace]

/-- Settles O39. -/
theorem walkSteps : Obligations.WalkSteps := by
  refine ⟨fun u => ⟨fun o => takeOldest_some, takeOldest_none, fun _ => rfl, fun _ => decide_eq_true_iff, fun _ _ => rfl⟩,
    fun s hload hexporting htables => ?_⟩
  intro walk inColl inObject
  have hcoll (c : Nat) : s.rtu.walkColl = some c ↔ inColl c := walkColl_iff _ c
  have hobject (n : Nat) : s.rtu.walkObject = some n ↔ inObject n := walkObject_iff _ n
  refine ⟨fun o hidle hfind => ends_of_event rfl (takeIfIdle_takes (s := s.quiet) hidle hload hexporting hfind),
    fun h => ends_of_event rfl ?_, fun hwalk => ?_, fun h => ends_of_event rfl ?_, fun h => ends_of_event rfl ?_,
    fun h => ends_of_event rfl ?_, fun h => ends_of_event rfl ?_, fun c n rest hwalk hin hmembers hrest => ?_,
    fun n ref rest hwalk hin hrecipe => ?_, fun n hwalk hrecipe => ?_, fun c hwalk hin hmembers => ?_⟩
  · rcases h with h | h
    · exact takeIfIdle_rest (s := s.quiet) (.inl h)
    · exact takeIfIdle_waits (s := s.quiet) h
  · have hrest (step : State → State) : whileWalking step s.quiet = s.quiet := whileWalking_rest (s := s.quiet) hwalk
    simp only [List.forall_mem_cons]
    exact ⟨ends_of_event rfl (hrest _), ends_of_event rfl (hrest _), ends_of_event rfl (hrest _), ends_of_event rfl (hrest _),
      List.forall_mem_nil _⟩
  · exact whileWalking_of_eq (memberRemoval_none (s := s.quiet) fun c hc => h c ((hcoll c).1 hc))
  · exact whileWalking_of_eq (referenceRemoval_none (s := s.quiet) fun n hn => h n ((hobject n).1 hn))
  · exact whileWalking_of_eq (objectFree_none (s := s.quiet) fun n hn => h n ((hobject n).1 hn))
  · exact whileWalking_of_eq (collectionFree_none (s := s.quiet) fun c hc => h c ((hcoll c).1 hc))
  · intro l o pages out
    have hc : s.quiet.rtu.walkColl = some c := (hcoll c).2 hin
    have hstep {t : State} (ht : memberRemoval s.quiet = t) : Ends .memberRemoval s t :=
      ends_of_event rfl ((whileWalking_walking (s := s.quiet) hwalk).trans ht)
    have hlen : (s.quiet.coll c).members.length = rest.length + 1 := congrArg List.length hmembers
    have hout (x : Obj) : memberChanged c n s.quiet rest x = out x walk := by
      simp only [memberChanged, hlen]
      rfl
    refine ⟨fun h => hstep ?_, fun h hplans => hstep ?_, fun h hplans => hstep ?_⟩
    · exact (memberRemoval_keeps (s := s.quiet) hc hmembers hrest h).trans (hout _)
    · refine (memberRemoval_last (s := s.quiet) hc hmembers hrest h).trans ((if_pos hplans).trans ?_)
      exact congrArg (fun u : State => { u with rtu := { walk with nested := some n } }) (hout _)
    · refine (memberRemoval_last (s := s.quiet) hc hmembers hrest h).trans ((if_neg (Nat.ne_of_gt hplans)).trans ?_)
      exact congrArg (fun u : State => { u with rtu := { walk with orders := walk.orders ++ [Order.object n] } }) (hout _)
  · intro adds
    have hadds : ref.mayAdd = adds := by cases ref <;> rfl
    have hn : s.quiet.rtu.walkObject = some n := (hobject n).2 hin
    have hremoval := referenceRemoval_eq (s := s.quiet) hn hrecipe
    have hstep {t : State} (ht : referenceRemoval s.quiet = t) : Ends .referenceRemoval s t :=
      ends_of_event rfl ((whileWalking_walking (s := s.quiet) hwalk).trans ht)
    refine ⟨fun h hfull => hstep (hremoval.trans (if_pos ⟨hadds.trans h, hfull⟩)), fun h => ?_⟩
    intro u
    have hreleased : referenceRemoval s.quiet = releaseRef n ref rest s.quiet := by
      refine hremoval.trans (if_neg fun ⟨hmay, hfull⟩ => ?_)
      rcases h with h | h
      · rw [hadds, h] at hmay
        contradiction
      · exact absurd h (Nat.not_lt.2 hfull)
    cases ref with
    | indexed h => exact hstep hreleased
    | priv l length d damaged => exact hstep (hreleased.trans (releaseRef_priv l length d damaged rest))
  · intro u
    have hstep {t : State} (ht : objectFree s.quiet = t) : Ends .objectFree s t :=
      ends_of_event rfl ((whileWalking_walking (s := s.quiet) hwalk).trans ht)
    refine ⟨fun hnested => hstep ?_, fun hnested hcurrent => hstep ?_⟩
    · rw [objectFree_eq (s := s.quiet) ((hobject n).2 (.inl hnested)) hrecipe]
      exact endObjectWalk_nested (s := u) hnested
    · rw [objectFree_eq (s := s.quiet) ((hobject n).2 (.inr ⟨hnested, hcurrent⟩)) hrecipe]
      exact endObjectWalk_top (s := u) hnested
  · refine ends_of_event rfl ((whileWalking_walking (s := s.quiet) hwalk).trans ?_)
    exact collectionFree_eq (s := s.quiet) ((hcoll c).2 hin) hmembers

end Sys2Proof.Machine
end

section
/-!
PROOFS. GRANT_SET, GRANT_CLEAR and GRANT_READ (R128 to R130, R137, R138).
-/

namespace Sys2Proof.Machine

variable {s t : State} {r : Request}

/-! ### Fields -/

/-- A grantee byte names a grantee (Table 7.2). -/
def GranteeByte (n : Nat) (who : Grantee) : Prop := n = 255 ∧ who = .anyViewer ∨ n < 16 ∧ who = .client n

/-- A target's kind and number name a target (Table 7.2). -/
def TargetBytes (kind n : Nat) (on : Target) : Prop :=
  kind = 1 ∧ n < 1024 ∧ on = .album n ∨ kind = 2 ∧ n < 16 ∧ on = .allOf n

theorem granteeOfCode_of {n : Nat} {who : Grantee} (h : GranteeByte n who) : Grantee.ofCode n = some who := by
  rcases h with ⟨rfl, rfl⟩ | ⟨hn, rfl⟩
  · rfl
  · exact if_pos hn

theorem granteeOfCode_eq_none_iff (n : Nat) : Grantee.ofCode n = none ↔ ¬ (n < 16 ∨ n = 255) := by
  simp only [Grantee.ofCode]
  split_ifs <;> simp_all

theorem targetOfCode_of {kind n : Nat} {on : Target} (h : TargetBytes kind n on) : Target.ofCode kind n = some on := by
  rcases h with ⟨rfl, hn, rfl⟩ | ⟨rfl, hn, rfl⟩
  · exact if_pos ⟨rfl, hn⟩
  · exact (if_neg (by simp)).trans (if_pos ⟨rfl, hn⟩)

theorem targetOfCode_eq_none_iff (kind n : Nat) : Target.ofCode kind n = none ↔ ¬ (kind = 1 ∧ n < 1024 ∨ kind = 2 ∧ n < 16) := by
  have hcount : Config.collectionCount = 1024 := rfl
  simp only [Target.ofCode, hcount]
  split_ifs <;> simp_all

theorem modeOfCode_eq_none_iff (n : Nat) : Mode.ofCode n = none ↔ 3 < n := by
  match n with
  | 0 | 1 | 2 | 3 => decide
  | n + 4 => simp [Mode.ofCode]

/-- An entry with a field out of range carries no grant (R128). -/
theorem grantOfBytes_eq_none {e : List Byte}
    (h : Grantee.ofCode (byteAt e 0) = none ∨ Target.ofCode (byteAt e 1) (field e 2 2) = none
      ∨ Mode.ofCode (byteAt e 4) = none ∨ 1 < byteAt e 9) : Grant.ofBytes e = none := by
  simp only [Grant.ofBytes]
  split
  next who on mode hwho hon hmode =>
    rcases h with h | h | h | h
    · exact absurd (hwho.symm.trans h) (by simp)
    · exact absurd (hon.symm.trans h) (by simp)
    · exact absurd (hmode.symm.trans h) (by simp)
    · exact if_pos h
  · rfl

/-- The grant that an entry in range carries (R128, R130). -/
theorem grantOfBytes_eq {e : List Byte} {who : Grantee} {on : Target} {mode : Mode}
    (hwho : Grantee.ofCode (byteAt e 0) = some who) (hon : Target.ofCode (byteAt e 1) (field e 2 2) = some on)
    (hmode : Mode.ofCode (byteAt e 4) = some mode) (hexpires : byteAt e 9 ≤ 1) :
    Grant.ofBytes e = some
      { live := true, grantee := who, target := on, mode := mode, windowStart := min (field e 5 2) 1439
        windowEnd := min (field e 7 2) 1439, expiry := if byteAt e 9 = 1 then some (field e 10 4) else none } := by
  simp only [Grant.ofBytes, hwho, hon, hmode]
  exact if_neg (Nat.not_lt.2 hexpires)

/-! ### One entry -/

theorem grantEntry_unread {e : List Byte} (h : Grant.ofBytes e = none) : grantEntry e s = (.badField, s) := by
  simp only [grantEntry, h]

theorem grantEntry_refused {e : List Byte} {g : Grant} {st : Status} (h : Grant.ofBytes e = some g)
    (hfail : firstFail (grantEntryChecks s g) = some st) : grantEntry e s = (st, s) := by
  simp only [grantEntry, h, hfail]

theorem grantEntry_taken {e : List Byte} {g : Grant} {n : Nat} (h : Grant.ofBytes e = some g)
    (hpass : firstFail (grantEntryChecks s g) = none) (hplace : s.grantPlace g = some n) :
    grantEntry e s = (.ok, s.setGrant n g) := by
  simp only [grantEntry, h, hpass, hplace, Option.getD_some]

theorem granteeMissing_eq_false {who : Grantee} (h : ∀ c, who = .client c → (s.client c).active = true) :
    s.granteeMissing who = false := by
  cases who with
  | client c => exact congrArg not (h c rfl)
  | anyViewer => rfl

theorem grantPlace_own {g : Grant} {n : Nat} (h : s.grantOf g.grantee g.target = some n) : s.grantPlace g = some n := by
  rw [State.grantPlace, h]

theorem grantPlace_free {g : Grant} (h : s.grantOf g.grantee g.target = none) :
    s.grantPlace g = Table.lowestFree 256 s.grants := by
  rw [State.grantPlace, h]
  rfl

/-- The checks of an entry whose target passes come to the record's place (R128, R129). -/
theorem firstFail_grantEntryChecks {g : Grant} (hwho : ∀ c, g.grantee = .client c → (s.client c).active = true)
    (hall : ∀ c, g.target = .allOf c → (s.client c).active = true)
    (halbum : ∀ a, g.target = .album a →
      (s.coll a).state ≠ .free ∧ (s.coll a).state ≠ .retiring ∧ (s.coll a).kind = .album) :
    firstFail (grantEntryChecks s g) = firstFail [((s.grantPlace g).isNone, .full)] := by
  refine firstFail_skip (granteeMissing_eq_false hwho) ?_
  cases hon : g.target with
  | album a =>
    obtain ⟨hfree, hretiring, hkind⟩ := halbum a hon
    have hsnapshot : ¬ (s.coll a).kind = .snapshot := fun h => absurd (hkind.symm.trans h) (by decide)
    exact firstFail_skip (decide_eq_false hfree) <| firstFail_skip (decide_eq_false hsnapshot) <|
      firstFail_skip (decide_eq_false hretiring) rfl
  | allOf c => exact firstFail_skip (congrArg not (hall c hon)) rfl

/-! ### A record named by number or by scope -/

theorem selectedScope_of {p : List Byte} {who : Grantee} {on : Target} (hwho : GranteeByte (byteAt p 1) who)
    (hon : TargetBytes (byteAt p 2) (field p 3 2) on) : selectedScope p = some (who, on) := by
  simp only [selectedScope, granteeOfCode_of hwho, targetOfCode_of hon]

theorem selectedScope_isNone_iff (p : List Byte) :
    (selectedScope p).isNone = true ↔
      ¬ ((byteAt p 1 < 16 ∨ byteAt p 1 = 255) ∧ (byteAt p 2 = 1 ∧ field p 3 2 < 1024 ∨ byteAt p 2 = 2 ∧ field p 3 2 < 16)) := by
  rw [not_and_or, ← granteeOfCode_eq_none_iff, ← targetOfCode_eq_none_iff, selectedScope]
  cases Grantee.ofCode (byteAt p 1) <;> cases Target.ofCode (byteAt p 2) (field p 3 2) <;> simp

theorem scopeCheck_iff (p : List Byte) :
    (decide (byteAt p 0 = 1) && (selectedScope p).isNone) = true ↔ byteAt p 0 = 1 ∧
      ¬ ((byteAt p 1 < 16 ∨ byteAt p 1 = 255) ∧ (byteAt p 2 = 1 ∧ field p 3 2 < 1024 ∨ byteAt p 2 = 2 ∧ field p 3 2 < 16)) := by
  rw [Bool.and_eq_true, decide_eq_true_iff, selectedScope_isNone_iff]

theorem scopeCheck_number {p : List Byte} (h : byteAt p 0 = 0) :
    (decide (byteAt p 0 = 1) && (selectedScope p).isNone) = false := by
  rw [h]
  rfl

theorem scopeCheck_scope {p : List Byte} {x : Grantee × Target} (h : selectedScope p = some x) :
    (decide (byteAt p 0 = 1) && (selectedScope p).isNone) = false := by
  rw [h]
  exact Bool.and_false _

theorem selectedByScope_eq {p : List Byte} {x : Grantee × Target} (h : selectedScope p = some x) :
    s.selectedByScope p = s.grantOf x.1 x.2 := by
  rw [State.selectedByScope, h]
  rfl

theorem grantNamed_number {p : List Byte} (h : byteAt p 0 = 0) :
    s.grantNamed p = if (s.grant (byteAt p 1)).live = true then some (byteAt p 1) else none := if_pos h

theorem grantNamed_scope {p : List Byte} {x : Grantee × Target} (h : byteAt p 0 = 1) (hx : selectedScope p = some x) :
    s.grantNamed p = s.grantOf x.1 x.2 := (if_neg (by rw [h]; decide)).trans (selectedByScope_eq hx)

/-! ### GRANT_CLEAR and GRANT_READ -/

theorem firstFail_grantClearChecks (hchange : Changeable s) (hlen : r.payload.length = 5) (hsel : byteAt r.payload 0 ≤ 1)
    (hscope : (decide (byteAt r.payload 0 = 1) && (selectedScope r.payload).isNone) = false) :
    firstFail (grantClearChecks s.quiet r) = if (s.grantNamed r.payload).isNone = true then some .noSuch else none :=
  firstFail_changeable hchange <| firstFail_skip (not_hasLength_of hlen) <|
    firstFail_skip (decide_eq_false (Nat.not_lt.2 hsel)) <| firstFail_skip hscope rfl

theorem grantClear_answers {n : Nat} (hchange : Changeable s) (ho : Offered s .grantClear r) (hlen : r.payload.length = 5)
    (hsel : byteAt r.payload 0 ≤ 1) (hscope : (decide (byteAt r.payload 0 = 1) && (selectedScope r.payload).isNone) = false)
    (hnamed : s.grantNamed r.payload = some n) :
    Answers .grantClear s r .ok (s.grantRecord n) (s.quiet.setGrant n Grant.free) := by
  have hpass : firstFail (grantClearChecks s.quiet r) = none := by
    rw [firstFail_grantClearChecks hchange hlen hsel hscope, hnamed]
    rfl
  refine ends_of_checks_pass (f := fun _ => grantClearTaken) execGrantClear rfl rfl ho rfl hpass ?_
  have hn : (s.quiet.grantNamed r.payload).getD 0 = n := congrArg (Option.getD · 0) hnamed
  simp only [grantClearTaken, hn]
  rfl

theorem grantClear_noSuch (hchange : Changeable s) (ho : Offered s .grantClear r) (hlen : r.payload.length = 5)
    (hsel : byteAt r.payload 0 ≤ 1) (hscope : (decide (byteAt r.payload 0 = 1) && (selectedScope r.payload).isNone) = false)
    (hnamed : s.grantNamed r.payload = none) : Refused .grantClear s r .noSuch := by
  refine refused_of_firstFail grantClearChecks (fun _ => grantClearTaken) (k := .grantClear) (form := anyForm) rfl ho rfl ?_
  rw [firstFail_grantClearChecks hchange hlen hsel hscope, hnamed]
  rfl

theorem grantRead_answers (hload : Readable s) (ho : Offered s .grantRead r) (hlen : r.payload.length = 5)
    (hsel : byteAt r.payload 0 ≤ 1)
    (hrun : (decide (byteAt r.payload 0 = 0) && (decide (field r.payload 2 2 = 0) || decide (256 < field r.payload 2 2))) = false)
    (hscope : (decide (byteAt r.payload 0 = 1) && (selectedScope r.payload).isNone) = false)
    (hnamed : (decide (byteAt r.payload 0 = 1) && (s.selectedByScope r.payload).isNone) = false) :
    Answers .grantRead s r .ok (le 2 (s.grantsRead r.payload).length ++ (s.grantsRead r.payload).flatMap s.grantRecord)
      s.quiet := by
  have hform : decide (byteAt r.payload 0 ≠ 2) = true := decide_eq_true (Nat.lt_succ_of_le hsel).ne
  exact ends_of_checks_pass (f := fun _ => grantReadTaken) execGrantRead rfl rfl ho hform
    (firstFail_readable hload <| firstFail_skip (not_hasLength_of hlen) <|
      firstFail_skip (decide_eq_false (Nat.not_lt.2 hsel)) <| firstFail_skip hrun <| firstFail_skip hscope <|
      firstFail_skip hnamed rfl) rfl

theorem grantRead_noSuch (hload : Readable s) (ho : Offered s .grantRead r) (hlen : r.payload.length = 5)
    (hsel : byteAt r.payload 0 = 1) (hscope : (decide (byteAt r.payload 0 = 1) && (selectedScope r.payload).isNone) = false)
    (hnamed : s.selectedByScope r.payload = none) : Refused .grantRead s r .noSuch := by
  have hform : decide (byteAt r.payload 0 ≠ 2) = true := decide_eq_true (Nat.lt_succ_of_le hsel.le).ne
  have hrun : (decide (byteAt r.payload 0 = 0) && (decide (field r.payload 2 2 = 0) || decide (256 < field r.payload 2 2)))
      = false := by
    rw [hsel]
    rfl
  have hfails : (decide (byteAt r.payload 0 = 1) && (s.quiet.selectedByScope r.payload).isNone) = true := by
    rw [Bool.and_eq_true]
    exact ⟨decide_eq_true hsel, congrArg Option.isNone hnamed⟩
  refine refused_of_firstFail grantReadChecks (fun _ => grantReadTaken) (k := .grantRead)
    (form := fun r => decide (byteAt r.payload 0 ≠ 2)) rfl ho hform ?_
  exact firstFail_readable hload <| firstFail_skip (not_hasLength_of hlen) <|
    firstFail_skip (decide_eq_false (Nat.not_lt.2 hsel.le)) <| firstFail_skip hrun <| firstFail_skip hscope <| if_pos hfails

/-- The checks of a GRANT_SET batch (R128). -/
def grantSetChecks (s : State) (r : Request) : List (Bool × Status) := changeGate s ++ [(decide (r.auxNat ≠ 0), .badField)]

theorem execGrantSet_eq (s : State) :
    execGrantSet s = take .grantSet anyForm (fun r s => guarded (grantSetChecks s r) r (grantSetTaken r) s) s := rfl

theorem grantSet_answers (hchange : Changeable s) (ho : Offered s .grantSet r) (haux : r.aux = 0#16) :
    Answers .grantSet s r (if r.whole then .ok else .broken)
      (le 2 (grantEntries r.entries [] s.quiet).1.length ++ (grantEntries r.entries [] s.quiet).1.map Status.code)
      (grantEntries r.entries [] s.quiet).2 := by
  have hzero : decide (r.auxNat ≠ 0) = false := decide_eq_false (not_not_intro (congrArg BitVec.toNat haux))
  exact ends_of_checks_pass (f := fun _ => grantSetTaken) execGrantSet rfl (execGrantSet_eq s) ho rfl
    (firstFail_changeable hchange <| firstFail_skip hzero rfl) rfl

/-- Settles O42: an entry by its checks and its place, GRANT_CLEAR and GRANT_READ by the record they name. -/
theorem grantRequests : Obligations.GrantRequests := by
  refine ⟨fun s r ho hchange haux => ?_, fun _ _ _ _ => ⟨rfl, rfl⟩, fun s who on n => ?_, fun s e hbad => ?_,
    fun s e who on mode hwho hon hmode hexpires => ?_, fun s r => ?_, fun s r n who on hlen => ?_⟩
  · exact grantSet_answers hchange ho haux
  · intro scope
    refine ⟨State.grantOf_eq_none_iff.trans ?_, fun h => State.exists_of_grantOf h⟩
    exact forall₂_congr fun p _ => by simp only [scope, not_and, ne_eq]
  · refine grantEntry_unread (grantOfBytes_eq_none ?_)
    rw [granteeOfCode_eq_none_iff, targetOfCode_eq_none_iff, modeOfCode_eq_none_iff]
    exact hbad
  · intro g
    have hmode' : Mode.ofCode (byteAt e 4) = some mode := by
      rcases hmode with ⟨h, rfl⟩ | ⟨h, rfl⟩ | ⟨h, rfl⟩ | ⟨h, rfl⟩ <;> rw [h] <;> rfl
    have hg : Grant.ofBytes e = some g := grantOfBytes_eq (granteeOfCode_of hwho) (targetOfCode_of hon) hmode' hexpires
    have htarget {st : Status} (hactive : ∀ c, who = .client c → (s.client c).active = true)
        (h : firstFail (targetChecks s on ++ [((s.grantPlace g).isNone, .full)]) = some st) : grantEntry e s = (st, s) :=
      grantEntry_refused hg (firstFail_skip (granteeMissing_eq_false hactive) h)
    refine ⟨fun ⟨c, hc, hfree⟩ => ?_, fun hactive => ⟨fun c hc hfree => ?_, fun a ha => ⟨fun hfree => ?_,
      fun hfree hkind => ?_, fun hretiring hkind => ?_⟩⟩, fun hactive hall halbum => ?_⟩
    · refine grantEntry_refused hg (if_pos ?_)
      subst hc
      exact congrArg not hfree
    · subst hc
      exact htarget hactive (if_pos (congrArg not hfree))
    · subst ha
      exact htarget hactive (if_pos (decide_eq_true hfree))
    · subst ha
      exact htarget hactive (firstFail_skip (decide_eq_false hfree) (if_pos (decide_eq_true hkind)))
    · subst ha
      have hfree : ¬ (s.coll a).state = .free := fun h => absurd (hretiring.symm.trans h) (by decide)
      have hsnapshot : ¬ (s.coll a).kind = .snapshot := fun h => absurd (hkind.symm.trans h) (by decide)
      exact htarget hactive (firstFail_skip (decide_eq_false hfree) <| firstFail_skip (decide_eq_false hsnapshot) <|
        if_pos (decide_eq_true hretiring))
    · have hchecks : firstFail (grantEntryChecks s g) = firstFail [((s.grantPlace g).isNone, .full)] :=
        firstFail_grantEntryChecks hactive hall halbum
      refine ⟨fun n hown => ?_, fun n hnone hfree => ?_, fun hnone hfree => ?_⟩
      · have hplace : s.grantPlace g = some n := grantPlace_own hown
        exact grantEntry_taken hg (by rw [hchecks, hplace]; rfl) hplace
      · have hplace : s.grantPlace g = some n := (grantPlace_free hnone).trans hfree
        exact grantEntry_taken hg (by rw [hchecks, hplace]; rfl) hplace
      · have hplace : s.grantPlace g = none := (grantPlace_free hnone).trans hfree
        exact grantEntry_refused hg (by rw [hchecks, hplace]; rfl)
  · intro p noScope
    refine ⟨fun ho hchange hbad => ?_, fun ho hload hsel hbad => ?_⟩
    · have hrefused : RefusedFirst .grantClear s r [(p.length ≠ 5 ∨ 1 < byteAt p 0 ∨ noScope, .badField)] := by
        refine refusedFirst_of_covers (f := fun _ => grantClearTaken) execGrantClear rfl rfl ho rfl (.changeable hchange ?_)
        exact .or (not_hasLength_iff r 5) <| .or decide_eq_true_iff <| .one (scopeCheck_iff p) (.done _)
      exact hrefused.1 hbad
    · have hrun : (decide (byteAt p 0 = 0) && (decide (field p 2 2 = 0) || decide (256 < field p 2 2))) = true ↔
          byteAt p 0 = 0 ∧ (field p 2 2 = 0 ∨ 256 < field p 2 2) := by
        rw [Bool.and_eq_true, Bool.or_eq_true, decide_eq_true_iff, decide_eq_true_iff, decide_eq_true_iff]
      have hrefused : RefusedFirst .grantRead s r
          [(p.length ≠ 5 ∨ 1 < byteAt p 0 ∨ byteAt p 0 = 0 ∧ (field p 2 2 = 0 ∨ 256 < field p 2 2) ∨ noScope, .badField)] := by
        refine refusedFirst_of_covers (f := fun _ => grantReadTaken) execGrantRead rfl rfl ho (decide_eq_true hsel)
          (.readable hload ?_)
        exact .or (not_hasLength_iff r 5) <| .or decide_eq_true_iff <| .or hrun <| .one (scopeCheck_iff p) (.done _)
      exact hrefused.1 hbad
  · intro p byScope
    have hscope (h : byScope) : selectedScope p = some (who, on) := selectedScope_of h.1 h.2
    refine ⟨fun ho hchange => ⟨fun h0 hn hlive => ?_, fun h0 hn hlive => ?_, fun h1 hby hown => ?_, fun h1 hby hnone => ?_⟩,
      fun ho hload => ⟨fun h0 hlow hhigh => ?_, fun h1 hby hown => ?_, fun h1 hby hnone => ?_⟩⟩
    · subst hn
      exact grantClear_answers hchange ho hlen (h0.le.trans (Nat.zero_le 1)) (scopeCheck_number h0)
        ((grantNamed_number h0).trans (if_pos hlive))
    · subst hn
      exact grantClear_noSuch hchange ho hlen (h0.le.trans (Nat.zero_le 1)) (scopeCheck_number h0)
        ((grantNamed_number h0).trans (if_neg (Bool.eq_false_iff.1 hlive)))
    · exact grantClear_answers hchange ho hlen h1.le (scopeCheck_scope (hscope hby)) ((grantNamed_scope h1 (hscope hby)).trans hown)
    · exact grantClear_noSuch hchange ho hlen h1.le (scopeCheck_scope (hscope hby)) ((grantNamed_scope h1 (hscope hby)).trans hnone)
    · intro ns
      have hread : s.grantsRead p = ns := if_pos h0
      have hrun : (decide (byteAt p 0 = 0) && (decide (field p 2 2 = 0) || decide (256 < field p 2 2))) = false := by
        rw [decide_eq_false (Nat.one_le_iff_ne_zero.1 hlow), decide_eq_false (Nat.not_lt.2 hhigh)]
        exact Bool.and_false _
      have hnamed : (decide (byteAt p 0 = 1) && (s.selectedByScope p).isNone) = false := by
        rw [h0]
        rfl
      rw [← hread]
      exact grantRead_answers hload ho hlen (h0.le.trans (Nat.zero_le 1)) hrun (scopeCheck_number h0) hnamed
    · have hread : s.grantsRead p = [n] := by
        rw [State.grantsRead, if_neg (by rw [h1]; decide), selectedByScope_eq (hscope hby), hown]
        rfl
      have hrun : (decide (byteAt p 0 = 0) && (decide (field p 2 2 = 0) || decide (256 < field p 2 2))) = false := by
        rw [h1]
        rfl
      have hnamed : (decide (byteAt p 0 = 1) && (s.selectedByScope p).isNone) = false := by
        rw [selectedByScope_eq (hscope hby), hown]
        exact Bool.and_false _
      have hanswer := grantRead_answers hload ho hlen h1.le hrun (scopeCheck_scope (hscope hby)) hnamed
      rw [hread, List.flatMap_singleton] at hanswer
      exact hanswer
    · exact grantRead_noSuch hload ho hlen h1 (scopeCheck_scope (hscope hby)) ((selectedByScope_eq (hscope hby)).trans hnone)

end Sys2Proof.Machine
end

section
/-!
PROOFS. The end of a scan, refuted as stated: a bay that the queue lists although it is EMPTY.
-/

namespace Sys2Proof.Machine

/-- Bay 0 is OFF, bay 1 is EMPTY and yet stands in the spin-up queue, and plan 0 scanned both. No step from a sound state
leads here, but the statement speaks of every state. -/
def emptyBayQueued : State :=
  { State.reset with
    bpc := { State.reset.bpc.setBay 0 (Bay.atReset true) with queue := [1] }
    rpb.plans := put State.reset.rpb.plans 0 { Plan.free with state := .scanning, scanPos := some 0, scanBays := some 3#4 } }

/-- The hold on bay 0 examines the queue, which starts bay 1; so the hold on bay 1 is taken and the plan waits. -/
theorem scanEnd_emptyBayQueued : ((scanEnd 0 emptyBayQueued).plan 0).state = .waiting := by decide +kernel

/-- Refutes O44: bay 1 is EMPTY before the end of the scan, but no longer when its hold arrives. -/
theorem not_planOpenAndScanToItsEnd : ¬ Obligations.PlanOpenAndScanToItsEnd := by
  intro h
  obtain ⟨-, -, hend⟩ := h
  obtain ⟨set, state, -, heq, hlost, -⟩ := hend emptyBayQueued 0 3#4 (by decide) rfl
  have hbayLost : state = .bayLost := hlost (.inr ⟨1, by decide +kernel⟩)
  have hstate : ((scanEnd 0 emptyBayQueued).plan 0).state = state := by
    rw [heq]
    exact congrArg Plan.state (slot_put_self _ _ _ _ (by decide))
  rw [scanEnd_emptyBayQueued, hbayLost] at hstate
  cases hstate

end Sys2Proof.Machine
end

section
/-!
PROOFS. PLAN_FETCH and PLAN_DONE (R88, R148, R149, R153).
-/

namespace Sys2Proof.Machine

variable {s t : State} {r : Request} {p : Nat}

/-! ### Writes of one plan -/

theorem plan_setPlan (hp : p < 16) (x : Plan) : (s.setPlan p x).plan p = x := slot_put_self _ _ _ _ hp

theorem setPlan_setPlan (s : State) (p : Nat) (x y : Plan) : (s.setPlan p x).setPlan p y = s.setPlan p y :=
  congrArg (fun v => { s with rpb := { s.rpb with plans := v } }) (put_put _ _ _ _)

/-! ### The refusals -/

/-- The checks of PLAN_DONE (R153). -/
def planDoneChecks (s : State) (r : Request) : List (Bool × Status) :=
  readGate s ++ planNumberChecks r ++ [(!r.hasLength 0, .badField), freePlanCheck s r]

theorem execPlanDone_eq (s : State) :
    execPlanDone s = take .planDone anyForm (fun r s => guarded (planDoneChecks s r) r (planDoneTaken r) s) s := rfl

theorem countCheck_iff (n : Nat) : (decide (n = 0) || decide (512 < n)) = true ↔ n = 0 ∨ 512 < n := by
  rw [Bool.or_eq_true, decide_eq_true_iff, decide_eq_true_iff]

theorem countCheck_eq_false {n : Nat} (hlow : 1 ≤ n) (hhigh : n ≤ 512) : (decide (n = 0) || decide (512 < n)) = false := by
  rw [decide_eq_false (Nat.one_le_iff_ne_zero.1 hlow), decide_eq_false (Nat.not_lt.2 hhigh)]
  rfl

theorem planFetch_refusedFirst (hload : Readable s) (ho : Offered s .planFetch r) :
    RefusedFirst .planFetch s r
      [(15 < r.auxLow ∨ r.payload.length ≠ 6 ∨ field r.payload 4 2 = 0 ∨ 512 < field r.payload 4 2, .badField),
       ((s.plan r.auxLow).state = .free, .state)] := by
  refine refusedFirst_of_covers (f := fun _ => planFetchTaken) execPlanFetch rfl rfl ho rfl (.readable hload ?_)
  exact .or decide_eq_true_iff <| .or (not_hasLength_iff r 6) <| .one (countCheck_iff _) <| .one decide_eq_true_iff (.done _)

theorem planDone_refusedFirst (hload : Readable s) (ho : Offered s .planDone r) :
    RefusedFirst .planDone s r
      [(15 < r.auxLow ∨ r.payload ≠ [], .badField), ((s.plan r.auxLow).state = .free, .state)] := by
  refine refusedFirst_of_covers (f := fun _ => planDoneTaken) execPlanDone rfl (execPlanDone_eq s) ho rfl (.readable hload ?_)
  exact .or decide_eq_true_iff <| .one (not_hasLength_zero_iff r) <| .one decide_eq_true_iff (.done _)

/-- An entry after a verdict REWRITE (R74). -/
def Chunk.rewritten (e : Chunk) (i : Nat) : Chunk :=
  { e with state := .rewriting, refcount := raiseCount e.refcount, writer := some i }

theorem chunk_rewritten (s : State) (h i c g n : Nat) (d : Digest) :
    (applyVerdict (.rewrite h) i c g d n s).chunk h = (s.chunk h).rewritten i :=
  Table.read_write_used Chunk.empty s.chunks h ((s.chunk h).rewritten i) fun hempty =>
    nomatch (congrArg Chunk.state hempty : ChunkState.rewriting = ChunkState.empty)

/-! ### What a fetch holds (R149) -/

/-- A reference as it is read (R88). -/
theorem locate_eq (s : State) (ref : Ref) :
    s.locate ref =
      { loc := match ref with | .indexed h => (s.chunk h).loc | .priv l _ _ _ => l
        length := match ref with | .indexed h => (s.chunk h).length | .priv _ n _ _ => n
        damaged := match ref with
          | .indexed h => decide ((s.chunk h).state = .damaged ∨ (s.chunk h).state = .rewriting)
          | .priv _ _ _ mark => mark } := by
  cases ref with
  | indexed h =>
    simp only [State.locate, Bool.decide_or]
  | priv l n d mark => rfl

theorem fetchHold_held {l : Loc} (h : (s.plan p).heldBays.getLsbD l.bay = true) : fetchHold p (some l) s = s := if_pos h

theorem fetchHold_new {l : Loc} (h : (s.plan p).heldBays.getLsbD l.bay = false) :
    fetchHold p (some l) s =
      (planHold p l.bay s).2.setPlan p (((planHold p l.bay s).2.plan p).afterFetchHold (planHold p l.bay s).1
        (decide (((planHold p l.bay s).2.bay l.bay).state = .ready))) := if_neg (by rw [h]; decide)

theorem planHold_empty {i : Nat} (h : (s.bay i).state = .empty) : planHold p i s = (false, s) := if_pos (decide_eq_true h)

theorem planHold_taken {i : Nat} (h : (s.bay i).state ≠ .empty) :
    planHold p i s =
      (true, (holdBay .plan i s).setPlan p { s.plan p with heldBays := (s.plan p).heldBays ||| bayBit i }) :=
  if_neg (fun hempty => h (of_decide_eq_true hempty))

theorem fetchHold_empty {l : Loc} (h : (s.plan p).heldBays.getLsbD l.bay = false) (hbay : (s.bay l.bay).state = .empty) :
    fetchHold p (some l) s = s.setPlan p { s.plan p with state := .bayLost } := by
  rw [fetchHold_new h, planHold_empty hbay]
  rfl

theorem afterFetchHold_taken (x : Plan) (P : Prop) [Decidable P] :
    x.afterFetchHold true (decide P) = { x with state := if x.state = .ready ∧ ¬ P then .waiting else x.state } := by
  have hiff : (x.state = .ready ∧ (!decide P) = true) ↔ x.state = .ready ∧ ¬ P := by simp
  simp only [Plan.afterFetchHold, hiff]
  split_ifs <;> trivial

theorem fetchHold_taken {l : Loc} (hp : p < 16) (h : (s.plan p).heldBays.getLsbD l.bay = false)
    (hbay : (s.bay l.bay).state ≠ .empty) :
    fetchHold p (some l) s =
      (holdBay .plan l.bay s).setPlan p
        { s.plan p with
          heldBays := (s.plan p).heldBays ||| (1#4 <<< l.bay)
          state := if (s.plan p).state = .ready ∧ ((holdBay .plan l.bay s).bay l.bay).state ≠ .ready then .waiting
            else (s.plan p).state } := by
  rw [fetchHold_new h, planHold_taken hbay, plan_setPlan hp, setPlan_setPlan]
  exact congrArg ((holdBay .plan l.bay s).setPlan p) (afterFetchHold_taken _ _)

/-! ### A plan that closes (R153) -/

theorem releases_eq (k : HoldKind) (l : List Nat) (s : State) :
    l.foldl (fun s i => releaseBay k i s) s =
      { s with bpc := l.foldl (fun b i => b.release s.slc.settings k i) s.bpc } := by
  induction l generalizing s with
  | nil => rfl
  | cons i l ih => exact ih (releaseBay k i s)

theorem takeIfIdle_rpb (s : State) : (takeIfIdle s).rpb = s.rpb := by simp

/-- The object and the bays as a plan that closes leaves them. -/
def released (p : Nat) (s : State) : State :=
  let x := s.plan p
  let o := s.object x.object
  { s.setObject x.object { o with planHolds := o.planHolds - 1 } with
    bpc := ((List.range 4).filter fun i => x.heldBays.getLsbD i).foldl (fun b i => b.release s.slc.settings .plan i) s.bpc }

theorem closePlan_eq (p : Nat) (s : State) :
    closePlan p s = makeDeferredCheck ((takeIfIdle (released p s)).setPlan p Plan.free) := by
  rw [closePlan, releases_eq]
  rfl

/-- Settles O45: a fetch reads its run one reference after another, and a plan that closes lets an IDLE walk take an order. -/
theorem planFetchAndDone : Obligations.PlanFetchAndDone := by
  refine ⟨fun s r hload => ⟨planFetch_refusedFirst hload, planDone_refusedFirst hload⟩, fun s r p hload hp hlt => ?_,
    fun s p k ref rest out => ?_, fun s h i c g n d hdamaged => ?_, fun s p l hp hl => ?_, fun s p hp => ?_⟩
  · intro x code recipe
    subst hp
    have hlow : ¬ 15 < r.auxLow := Nat.not_lt.2 (Nat.le_of_lt_succ hlt)
    have hcode (st : PlanState) : code st = st.code := by cases st <;> rfl
    refine ⟨fun hfree hnil ho => ?_, fun hfree hlen hmin hmax ho => ?_, fun hopen hlen hmin hmax ho => ?_,
      fun hopen hnil ho => ?_⟩
    · exact ((planDone_refusedFirst hload ho).2 (not_or.2 ⟨hlow, not_not.2 hnil⟩)).1 hfree
    · refine ((planFetch_refusedFirst hload ho).2 ?_).1 hfree
      rintro (h | h | h | h)
      · exact hlow h
      · exact h hlen
      · omega
      · omega
    · intro start run t y
      rw [hcode, ← flagByte_decide]
      exact ends_of_checks_pass (f := fun _ => planFetchTaken) execPlanFetch rfl rfl ho rfl
        (firstFail_readable hload <| firstFail_skip (decide_eq_false hlow) <| firstFail_skip (not_hasLength_of hlen) <|
          firstFail_skip (countCheck_eq_false hmin hmax) <| firstFail_skip (decide_eq_false hopen) rfl) rfl
    · rw [hcode]
      exact ends_of_checks_pass (f := fun _ => planDoneTaken) execPlanDone rfl (execPlanDone_eq s) ho rfl
        (firstFail_readable hload <| firstFail_skip (decide_eq_false hlow) <|
          firstFail_skip (not_hasLength_of_eq_nil hnil) <| firstFail_skip (decide_eq_false hopen) rfl) rfl
  · intro loc length damaged kind place
    have hlocate : s.locate ref = { loc := loc, length := length, damaged := damaged } := locate_eq s ref
    refine ⟨rfl, ?_, hlocate⟩
    rw [fetchRefs, hlocate]
    rfl
  · simp only [locate_eq, chunk_rewritten, Chunk.rewritten, or_true, decide_true]
  · exact ⟨rfl, fetchHold_held, fetchHold_empty, fetchHold_taken hp⟩
  · intro x o lowered freed
    have hclose : closePlan p s = makeDeferredCheck (freed (takeIfIdle lowered)) := by
      rw [closePlan_eq]
      have hrpb : (takeIfIdle lowered).rpb = s.rpb := takeIfIdle_rpb lowered
      refine congrArg makeDeferredCheck ?_
      show { takeIfIdle lowered with rpb := { (takeIfIdle lowered).rpb with
        plans := put (takeIfIdle lowered).rpb.plans p Plan.free } } = freed (takeIfIdle lowered)
      rw [hrpb]
    rw [hclose]
    refine ⟨fun hrest => ?_, fun hidle hload hexporting order hfind => ?_⟩
    · refine congrArg (fun u => makeDeferredCheck (freed u)) ?_
      rcases hrest with h | h | h | h
      · exact takeIfIdle_rest (s := lowered) (.inl h)
      · exact takeIfIdle_rest (s := lowered) (.inr (.inl h))
      · exact takeIfIdle_rest (s := lowered) (.inr (.inr h))
      · exact takeIfIdle_waits (s := lowered) h
    · exact congrArg (fun u => makeDeferredCheck (freed u)) (takeIfIdle_takes (s := lowered) hidle hload hexporting hfind)

end Sys2Proof.Machine
end

section
/-!
PROOFS. PLAN_CHECK: the packets of a check join its context, and the last decides the copy (R89, R96, R151, R152).
-/

namespace Sys2Proof.Machine

variable {s t : State} {r : Request} {i : Instr}

/-! ### Refusals that follow one another -/

/-- Refusals past those of a list are given where none of the list stands. -/
theorem RefusedFirst.append {ps qs : List (Prop × Status)} (h : RefusedFirst i s r ps)
    (hrest : (∀ p ∈ ps, ¬ p.1) → RefusedFirst i s r qs) : RefusedFirst i s r (ps ++ qs) := by
  induction ps with
  | nil => exact hrest fun _ hp => absurd hp List.not_mem_nil
  | cons p ps ih =>
    refine ⟨h.1, fun hnot => ih (h.2 hnot) fun hall => hrest ?_⟩
    rw [List.forall_mem_cons]
    exact ⟨hnot, hall⟩

/-! ### The checks and the context (R151) -/

theorem firstFail_planCheckChecks (hload : Readable s) (hlow : ¬ 15 < r.auxLow) (hhigh : ¬ 3 < r.auxHigh)
    (hlen : ¬ r.payload.length < 12) (hbay : ¬ 3 < byteAt r.payload 4) (hopen : (s.plan r.auxLow).state ≠ .free)
    (hk : ¬ (s.object (s.plan r.auxLow).object).recipe.length ≤ field r.payload 0 4) :
    firstFail (planCheckChecks s.quiet r) = none :=
  firstFail_readable hload <| firstFail_skip (decide_eq_false hlow) <| firstFail_skip (decide_eq_false hhigh) <|
    firstFail_skip (decide_eq_false hlen) <| firstFail_skip (decide_eq_false hbay) <|
    firstFail_skip (decide_eq_false hopen) <| firstFail_skip (decide_eq_false hk) rfl

/-- Bit 1 of the flags is set exactly from 2 on. -/
theorem testBit_one_of_lt_two {n : Nat} (h : n < 2) : n.testBit 1 = false := by
  interval_cases n <;> rfl

/-- A packet without FIRST continues the plan's context where the header names the same ordinal and location. -/
theorem checkContext_continues (ref : Ref) (hfirst : r.auxHigh.testBit 1 = false) :
    s.checkContext r ref = (s.plan r.auxLow).check.filter fun c =>
      decide (c.ordinal = field r.payload 0 4 ∧ c.loc = { bay := byteAt r.payload 4, block := field r.payload 5 6 }) :=
  if_neg (by rw [hfirst]; decide)

section
variable {ref : Ref} (href : (s.object (s.plan r.auxLow).object).recipe[field r.payload 0 4]? = some ref)
include href

theorem planCheckTaken_some {c : CheckContext} (h : s.checkContext r ref = some c) :
    planCheckTaken r s = takeCheckBytes r ref c s := by
  have hrecipe : (s.planRecipe r.auxLow)[(CheckHeader.ofBytes r.payload).ordinal]? = some ref := href
  rw [planCheckTaken, hrecipe]
  dsimp only
  rw [h]

theorem planCheckTaken_none (h : s.checkContext r ref = none) : planCheckTaken r s = refuse r .badField s := by
  have hrecipe : (s.planRecipe r.auxLow)[(CheckHeader.ofBytes r.payload).ordinal]? = some ref := href
  rw [planCheckTaken, hrecipe]
  dsimp only
  rw [h]

end

theorem planCheck_refusedFirst (hload : Readable s) (ho : Offered s .planCheck r) :
    RefusedFirst .planCheck s r
      ([(15 < r.auxLow, .badField), (3 < r.auxHigh ∨ r.payload.length < 12 ∨ 3 < byteAt r.payload 4, .badField),
       ((s.plan r.auxLow).state = .free, .state),
       ((s.object (s.plan r.auxLow).object).recipe.length ≤ field r.payload 0 4, .badField)]
      ++ [(r.auxHigh < 2 ∧ ∀ c, (s.plan r.auxLow).check = some c →
        c.ordinal ≠ field r.payload 0 4 ∨ c.loc ≠ { bay := byteAt r.payload 4, block := field r.payload 5 6 }, .badField)]) := by
  refine .append ?_ fun hpass => ⟨fun ⟨hfirst, hother⟩ => ?_, fun _ => trivial⟩
  · refine refusedFirst_of_covers (f := fun _ => planCheckTaken) execPlanCheck rfl rfl ho rfl (.readable hload ?_)
    exact .one decide_eq_true_iff <| .or decide_eq_true_iff <| .or decide_eq_true_iff <| .one decide_eq_true_iff <|
      .one decide_eq_true_iff <| .one decide_eq_true_iff (.done _)
  · simp only [List.forall_mem_cons, not_or] at hpass
    obtain ⟨hlow, ⟨hhigh, hlen, hbay⟩, hopen, hk, -⟩ := hpass
    refine ends_of_checks_pass (f := fun _ => planCheckTaken) execPlanCheck rfl rfl ho rfl
      (firstFail_planCheckChecks hload hlow hhigh hlen hbay hopen hk) ?_
    have hcontext (ref : Ref) : s.quiet.checkContext r ref = none := by
      rw [checkContext_continues ref (testBit_one_of_lt_two hfirst), Option.filter_eq_none_iff]
      intro c hc hsame
      obtain ⟨hordinal, hloc⟩ := of_decide_eq_true hsame
      exact (hother c hc).elim (absurd hordinal) (absurd hloc)
    obtain ⟨ref, href⟩ : ∃ ref, (s.object (s.plan r.auxLow).object).recipe[field r.payload 0 4]? = some ref :=
      ⟨_, List.getElem?_eq_getElem (Nat.lt_of_not_le hk)⟩
    exact planCheckTaken_none (s := s.quiet) href (hcontext ref)

/-! ### A packet that joins (R151) -/

/-- The plan number and the flags of a PLAN_CHECK, FIRST and LAST (R151). -/
theorem checkFlags {p : Nat} {first last : Bool} (hp : p < 16)
    (haux : r.aux.toNat = p + 256 * ((if first then 2 else 0) + (if last then 1 else 0))) :
    r.auxLow = p ∧ r.auxHigh.testBit 1 = first ∧ r.auxHigh.testBit 0 = last ∧ ¬ 3 < r.auxHigh := by
  have hhigh : r.auxHigh = (if first then 2 else 0) + (if last then 1 else 0) := by
    rw [Request.auxHigh, haux]
    omega
  have hlow : r.auxLow = p := by
    rw [Request.auxLow, haux]
    omega
  rw [hhigh]
  cases first <;> cases last <;> exact ⟨hlow, by decide⟩

/-- The context on which a packet with the flags given acts. -/
def actsOn (s : State) (r : Request) (p : Nat) (first : Bool) (ref : Ref) (c : CheckContext) : Prop :=
  let k := field r.payload 0 4
  let l : Loc := { bay := byteAt r.payload 4, block := field r.payload 5 6 }
  first = true ∧ c = { ordinal := k, loc := l, expected := (s.locate ref).length, received := 0, running := Running.start }
    ∨ first = false ∧ (s.plan p).check = some c ∧ c.ordinal = k ∧ c.loc = l

theorem checkContext_of_actsOn {ref : Ref} {c : CheckContext} (h : actsOn s r r.auxLow (r.auxHigh.testBit 1) ref c) :
    s.checkContext r ref = some c := by
  rcases h with ⟨hfirst, rfl⟩ | ⟨hfirst, hc, hordinal, hloc⟩
  · exact if_pos hfirst
  · rw [checkContext_continues ref hfirst, hc, Option.filter_some, if_pos (decide_eq_true ⟨hordinal, hloc⟩)]

section
variable {ref : Ref} {c : CheckContext}

theorem ordinal_loc_of_actsOn {p : Nat} {first : Bool} (h : actsOn s r p first ref c) :
    c.ordinal = field r.payload 0 4 ∧ c.loc = { bay := byteAt r.payload 4, block := field r.payload 5 6 } := by
  rcases h with ⟨-, rfl⟩ | ⟨-, -, h⟩
  · exact ⟨rfl, rfl⟩
  · exact h

theorem takeCheckBytes_over (h : c.expected < c.received + (r.payload.drop 12).length) :
    takeCheckBytes r ref c s = refuse r .badField (setCheck r.auxLow none s) := if_pos h

theorem takeCheckBytes_more (h : c.received + (r.payload.drop 12).length ≤ c.expected) (hlast : r.auxHigh.testBit 0 = false) :
    takeCheckBytes r ref c s =
      answer r .ok (le 4 (c.received + (r.payload.drop 12).length))
        (setCheck r.auxLow (some (c.join (r.payload.drop 12))) s) :=
  (if_neg (Nat.not_lt.2 h)).trans (if_neg (by rw [hlast]; decide))

theorem takeCheckBytes_short (h : c.received + (r.payload.drop 12).length < c.expected) (hlast : r.auxHigh.testBit 0 = true) :
    takeCheckBytes r ref c s = refuse r .badField (setCheck r.auxLow none s) :=
  (if_neg (Nat.not_lt.2 h.le)).trans ((if_pos hlast).trans (if_pos h))

theorem takeCheckBytes_whole (h : c.received + (r.payload.drop 12).length = c.expected) (hlast : r.auxHigh.testBit 0 = true) :
    takeCheckBytes r ref c s = completeCheck r ref (c.join (r.payload.drop 12)) s :=
  (if_neg (Nat.not_lt.2 h.le)).trans ((if_pos hlast).trans (if_neg (Nat.not_lt.2 h.ge)))

end

/-! ### The copy decided (R89, R96) -/

section
variable {n k h : Nat} {l : Loc} {same : Bool}

theorem applyCheck_indexed (hexporting : s.tiu.exporting = false) :
    applyCheck n k (.indexed h) l same s =
      (((s.chunk h).checked l same).2, ((s.chunk h).checked l same).1.state.code,
        latchDamage (decide ((s.chunk h).state = .present ∧ ((s.chunk h).checked l same).1.state = .damaged))
          (s.setChunk h ((s.chunk h).checked l same).1)) := if_pos (congrArg not hexporting)

theorem applyCheck_indexed_exporting (hexporting : s.tiu.exporting = true) :
    applyCheck n k (.indexed h) l same s = (((s.chunk h).checked l same).2, (s.chunk h).state.code, s) :=
  if_neg (by rw [hexporting]; decide)

theorem applyCheck_priv {loc : Option Loc} {len : Nat} {d : Digest} {mark : Bool} (hexporting : s.tiu.exporting = false) :
    applyCheck n k (.priv loc len d mark) l same s =
      (((Ref.priv loc len d mark).checked l same).2, ((Ref.priv loc len d mark).checked l same).1.markByte,
        latchDamage (decide (((Ref.priv loc len d mark).checked l same).2 = .damaged) && !mark)
          (s.setObject n { s.object n with
            recipe := (s.object n).recipe.set k ((Ref.priv loc len d mark).checked l same).1 })) :=
  if_pos (congrArg not hexporting)

theorem applyCheck_priv_exporting {loc : Option Loc} {len : Nat} {d : Digest} {mark : Bool} (hexporting : s.tiu.exporting = true) :
    applyCheck n k (.priv loc len d mark) l same s = (((Ref.priv loc len d mark).checked l same).2, flagByte mark, s) :=
  if_neg (by rw [hexporting]; decide)

/-- The notice of damage found, or none (Table 1.7). -/
theorem latchDamage_eq (b : Bool) (s : State) :
    latchDamage b s = { s with slc.latched := s.slc.latched ||| (if b then 1 else 0) } := by
  cases b with
  | false => exact congrArg (fun x => { s with slc.latched := x }) (BitVec.or_zero).symm
  | true => rfl

/-- What a checked read of an entry comes to, applied except while an image goes out. -/
theorem applyCheck_indexed_of {state : ChunkState} {outcome : CheckOutcome} {latched : BitVec 11}
    (hchecked : (s.chunk h).checked l same = ({ s.chunk h with state := state }, outcome))
    (hlatched : (if (s.chunk h).state = .present ∧ state = .damaged then 1 else 0) = latched) :
    (s.tiu.exporting = false →
        applyCheck n k (.indexed h) l same s =
          (outcome, state.code,
            { s.setChunk h { s.chunk h with state := state } with slc.latched := s.slc.latched ||| latched }))
      ∧ (s.tiu.exporting = true → applyCheck n k (.indexed h) l same s = (outcome, (s.chunk h).state.code, s)) := by
  refine ⟨fun hexporting => ?_, fun hexporting => ?_⟩
  · simp only [applyCheck_indexed hexporting, hchecked, latchDamage_eq, decide_eq_true_iff, hlatched]
  · rw [applyCheck_indexed_exporting hexporting, hchecked]

/-- What a checked read of a PRIVATE reference comes to, applied except while an image goes out. -/
theorem applyCheck_priv_of {loc : Option Loc} {len : Nat} {d : Digest} {mark after : Bool} {outcome : CheckOutcome}
    {latched : BitVec 11} (hchecked : (Ref.priv loc len d mark).checked l same = (.priv loc len d after, outcome))
    (hlatched : (if (decide (outcome = .damaged) && !mark) = true then 1 else 0) = latched) :
    (s.tiu.exporting = false →
        applyCheck n k (.priv loc len d mark) l same s =
          (outcome, (if after then 1#8 else 0#8),
            { s.setObject n { s.object n with recipe := (s.object n).recipe.set k (.priv loc len d after) } with
              slc.latched := s.slc.latched ||| latched }))
      ∧ (s.tiu.exporting = true →
          applyCheck n k (.priv loc len d mark) l same s = (outcome, (if mark then 1#8 else 0#8), s)) := by
  refine ⟨fun hexporting => ?_, fun hexporting => ?_⟩
  · simp only [applyCheck_priv hexporting, hchecked, latchDamage_eq, hlatched]
    rfl
  · rw [applyCheck_priv_exporting hexporting, hchecked]
    rfl

theorem checked_stale {e : Chunk} (h : e.loc ≠ some l) : e.checked l same = (e, .stale) := if_pos h

/-- A checked read of an entry that still has the location, by its state and the digest (R89). -/
theorem checked_at {e : Chunk} (h : e.loc = some l) :
    (e.state = .present → e.checked l true = (e, .isMatch))
      ∧ (e.state = .present → e.checked l false = ({ e with state := .damaged }, .damaged))
      ∧ (e.state = .damaged → e.checked l true = ({ e with state := .present }, .cleared))
      ∧ (e.state = .damaged → e.checked l false = (e, .damaged))
      ∧ (e.state = .rewriting → e.checked l true = (e, .isMatch))
      ∧ (e.state = .rewriting → e.checked l false = (e, .damaged)) := by
  refine ⟨fun hs => ?_, fun hs => ?_, fun hs => ?_, fun hs => ?_, fun hs => ?_, fun hs => ?_⟩ <;>
    simp only [Chunk.checked, h, hs, ne_eq, not_true_eq_false, ↓reduceIte]

theorem Ref.checked_stale {loc : Option Loc} {len : Nat} {d : Digest} {mark : Bool} (h : loc ≠ some l) :
    (Ref.priv loc len d mark).checked l same = (.priv loc len d mark, .stale) := if_pos h

theorem Ref.checked_same {loc : Option Loc} {len : Nat} {d : Digest} {mark : Bool} (h : loc = some l) :
    (Ref.priv loc len d mark).checked l true = (.priv loc len d false, if mark then .cleared else .isMatch) :=
  if_neg (not_not.2 h)

theorem Ref.checked_differs {loc : Option Loc} {len : Nat} {d : Digest} {mark : Bool} (h : loc = some l) :
    (Ref.priv loc len d mark).checked l false = (.priv loc len d true, .damaged) := if_neg (not_not.2 h)

end

/-- Settles O46: a packet acts on the context it names, and the last of a whole copy decides it by the record as it stands. -/
theorem planCheck : Obligations.PlanCheck := by
  refine ⟨fun s r ho hload => planCheck_refusedFirst hload ho, fun s r p first last ref c => ?_, fun s n k h l same => ?_,
    fun s n k length loc d mark l same => ?_⟩
  · intro x k l bytes size joined without expected code ho hload hp haux hlen hbay hopen href hacts
    obtain ⟨rfl, rfl, rfl, hhigh⟩ := checkFlags hp haux
    have hacts' : actsOn s r r.auxLow (r.auxHigh.testBit 1) ref c := by cases ref <;> exact hacts
    have htake : ∀ t, takeCheckBytes r ref c s.quiet = t → Ends .planCheck s t := by
      intro t ht
      have hk := (List.getElem?_eq_some_iff.1 href).1
      have hcontext : s.quiet.checkContext r ref = some c := checkContext_of_actsOn hacts'
      exact ends_of_checks_pass (f := fun _ => planCheckTaken) execPlanCheck rfl rfl ho rfl
        (firstFail_planCheckChecks hload (Nat.not_lt.2 (Nat.le_of_lt_succ hp)) hhigh (Nat.not_lt.2 hlen)
          (Nat.not_lt.2 (Nat.le_of_lt_succ hbay)) hopen (Nat.not_le.2 hk))
        ((planCheckTaken_some (s := s.quiet) href hcontext).trans ht)
    refine ⟨fun hover => htake _ (takeCheckBytes_over hover), fun hlast hmore => htake _ (takeCheckBytes_more hmore hlast),
      fun hlast hshort => htake _ (takeCheckBytes_short hshort hlast), fun hlast hwhole => ?_⟩
    intro wanted t status
    refine htake _ ((takeCheckBytes_whole hwhole hlast).trans ?_)
    have hcode (outcome : CheckOutcome) : code outcome = outcome.code := by cases outcome <;> rfl
    have hstatus : status = t.1.status := by
      simp only [status]
      cases t.1 <;> rfl
    have happlied : (if s.tiu.exporting = true then 0#8 else 1#8) = flagByte (!s.tiu.exporting) := by
      cases s.tiu.exporting <;> rfl
    obtain ⟨hordinal, hloc⟩ := ordinal_loc_of_actsOn hacts'
    have hdecided : applyCheck x.object c.ordinal ref c.loc
        (decide ((c.join bytes).running.finish = s.expectedDigest ref)) without = t := by
      rw [hordinal, hloc]
      cases ref <;> rfl
    rw [hcode, hstatus, happlied]
    refine Eq.trans (b := answer r t.1.status (checkRecord t.1 (!s.tiu.exporting) t.2.1 size ref.kindByte) t.2.2) ?_ ?_
    · exact congrArg (fun u : CheckOutcome × Byte × State =>
        answer r u.1.status (checkRecord u.1 (!s.tiu.exporting) u.2.1 size ref.kindByte) u.2.2) hdecided
    · cases ref <;> rfl
  · intro e code answer_
    have hcode (st : ChunkState) : code st = st.code := by cases st <;> rfl
    have hanswer {before state : ChunkState} {outcome : CheckOutcome} {latched : BitVec 11} (hbefore : e.state = before)
        (hchecked : e.checked l same = ({ e with state := state }, outcome))
        (hlatched : (if before = .present ∧ state = .damaged then 1 else 0) = latched) : answer_ outcome state latched := by
      simp only [answer_, hcode]
      exact applyCheck_indexed_of hchecked (hbefore ▸ hlatched)
    have hstays {outcome : CheckOutcome} {state : ChunkState} (hstate : e.state = state)
        (hchecked : e.checked l same = (e, outcome)) : answer_ outcome state 0 := by
      refine hanswer hstate (hchecked.trans (hstate ▸ rfl)) (if_neg fun ⟨h1, h2⟩ => ?_)
      exact absurd (h1.symm.trans h2) (by decide)
    refine ⟨fun hstale => hstays rfl (checked_stale hstale), fun hloc => ?_⟩
    obtain ⟨hpresent, hfound, hcleared, hdamaged, hrewriting, hstill⟩ := checked_at hloc
    refine ⟨fun h1 h2 => hstays h1 ?_, fun h1 h2 => hanswer (state := .damaged) h1 ?_ rfl,
      fun h1 h2 => hanswer (state := .present) h1 ?_ rfl, fun h1 h2 => hstays h1 ?_, fun h1 h2 => hstays h1 ?_,
      fun h1 h2 => hstays h1 ?_⟩
    · exact h2 ▸ hpresent h1
    · exact h2 ▸ hfound h1
    · exact h2 ▸ hcleared h1
    · exact h2 ▸ hdamaged h1
    · exact h2 ▸ hrewriting h1
    · exact h2 ▸ hstill h1
  · intro o ref marked answer_
    refine ⟨fun hstale => applyCheck_priv_of (Ref.checked_stale hstale) rfl, fun hloc hsame => ?_, fun hloc hsame => ?_⟩
    · subst hsame
      exact applyCheck_priv_of (Ref.checked_same hloc) (by cases mark <;> rfl)
    · subst hsame
      exact applyCheck_priv_of (Ref.checked_differs hloc) (by cases mark <;> rfl)

end Sys2Proof.Machine
end

section
/-!
PROOFS. BAY_HOLD and BAY_RELEASE, holds and releases, and the examination of the spin-up queue (R156 to R160, R165).
-/

namespace Sys2Proof.Machine

variable {s t : State} {r : Request} {i : Nat} {b : Bpc} {cfg : Settings} {k : HoldKind}

/-! ### The requests -/

theorem bayNumber_covers (r : Request) :
    Covers (bayNumberChecks r) [(r.payload.length ≠ 1 ∨ 3 < byteAt r.payload 0, .badField)] :=
  .or (not_hasLength_iff r 1) <| .one decide_eq_true_iff (.done _)

theorem firstFail_bayNumberChecks (hlen : r.payload.length = 1) (hi : byteAt r.payload 0 < 4) :
    firstFail (bayNumberChecks r) = none :=
  firstFail_skip (not_hasLength_of hlen) <| firstFail_skip (decide_lt_of_lt hi) rfl

theorem execBayHold_eq (s : State) :
    execBayHold s = take .bayHold anyForm (fun r s => guarded (bayNumberChecks r) r (bayHoldTaken r) s) s := rfl

theorem execBayRelease_eq (s : State) :
    execBayRelease s = take .bayRelease anyForm (fun r s => guarded (bayNumberChecks r) r (bayReleaseTaken r) s) s := rfl

/-- BAY_HOLD of a bay past its BAD_FIELD checks. -/
theorem bayHold_ends (ho : Offered s .bayHold r) (hlen : r.payload.length = 1) (hi : byteAt r.payload 0 < 4)
    (ht : bayHoldTaken r s.quiet = t) : Ends .bayHold s t :=
  ends_of_checks_pass (checks := fun _ => bayNumberChecks) (f := fun _ => bayHoldTaken) execBayHold rfl (execBayHold_eq s) ho rfl
    (firstFail_bayNumberChecks hlen hi) ht

theorem bayHoldTaken_outsideRun (h : s.bxp.power ≠ .run) : bayHoldTaken r s = answerBay r .state s := if_pos h

theorem bayHoldTaken_held (h : s.bxp.power = .run) (hmanual : (s.bay (byteAt r.payload 0)).manual = true) :
    bayHoldTaken r s = answerBay r .ok s := (if_neg (not_not.2 h)).trans (if_pos hmanual)

theorem bayHoldTaken_empty (h : s.bxp.power = .run) (hmanual : (s.bay (byteAt r.payload 0)).manual = false)
    (hempty : (s.bay (byteAt r.payload 0)).state = .empty) : bayHoldTaken r s = answerBay r .bayLost s :=
  (if_neg (not_not.2 h)).trans <| (if_neg (Bool.eq_false_iff.1 hmanual)).trans (if_pos (decide_eq_true hempty))

theorem bayHoldTaken_placed (h : s.bxp.power = .run) (hmanual : (s.bay (byteAt r.payload 0)).manual = false)
    (hpresent : (s.bay (byteAt r.payload 0)).state ≠ .empty) :
    bayHoldTaken r s = answerBay r .ok (holdBay .manual (byteAt r.payload 0) s) :=
  (if_neg (not_not.2 h)).trans <| (if_neg (Bool.eq_false_iff.1 hmanual)).trans <|
    if_neg fun hempty => hpresent (of_decide_eq_true hempty)

/-! ### The queue -/

/-- The heads start by the list given; what the controller has as its queue before does not count. -/
theorem startHeads_withQueue (cfg : Settings) (b : Bpc) (q l : List Nat) :
    Bpc.startHeads cfg { b with queue := q } l = Bpc.startHeads cfg b l := by
  induction l generalizing b with
  | nil => rfl
  | cons i l ih =>
    simp only [Bpc.startHeads]
    exact congrArg (fun u => if b.totalDraw + Config.spinUpDraw ≤ cfg.budget then u else _) (ih (b.setBay i ((b.bay i).startSpinUp cfg)))

theorem examine_waits {rest : List Nat} (hqueue : b.queue = i :: rest) (h : cfg.budget < b.totalDraw + 5) :
    b.examine cfg = b := by
  rw [Bpc.examine, hqueue]
  refine (if_neg (Nat.not_le.2 h)).trans ?_
  rw [← hqueue]

theorem examine_starts {rest : List Nat} (hqueue : b.queue = i :: rest) (h : b.totalDraw + 5 ≤ cfg.budget) :
    b.examine cfg = ({ b.setBay i ((b.bay i).startSpinUp cfg) with queue := rest } : Bpc).examine cfg := by
  rw [Bpc.examine, hqueue]
  refine (if_pos h).trans ?_
  rw [Bpc.examine, startHeads_withQueue]

/-! ### Holds and releases, by the bay's state -/

theorem addHold_state (x : Bay) (k : HoldKind) : (x.addHold k).state = x.state := by cases k <;> rfl

theorem dropHold_state (x : Bay) (k : HoldKind) : (x.dropHold k).state = x.state := by cases k <;> rfl

theorem hold_off (hi : i < 4) (h : (b.bay i).state = .off) :
    b.hold cfg k i =
      ({ b.setBay i { (b.bay i).addHold k with state := .queued } with queue := b.queue ++ [i] } : Bpc).examine cfg := by
  have hoff : ((b.bay i).addHold k).state = .off := (addHold_state _ k).trans h
  simp only [Bpc.hold, hoff]
  exact Bpc.joinQueue_setBay cfg b _ hi

theorem hold_ready (h : (b.bay i).state = .ready) :
    b.hold cfg k i = b.setBay i { (b.bay i).addHold k with timer := none } := by
  have hready : ((b.bay i).addHold k).state = .ready := (addHold_state _ k).trans h
  simp only [Bpc.hold, hready]

theorem hold_spinningDown (h : (b.bay i).state = .spinningDown) :
    b.hold cfg k i = b.setBay i { (b.bay i).addHold k with respin := true } := by
  have hdown : ((b.bay i).addHold k).state = .spinningDown := (addHold_state _ k).trans h
  simp only [Bpc.hold, hdown]

theorem hold_rising (h : (b.bay i).state = .queued ∨ (b.bay i).state = .spinningUp) :
    b.hold cfg k i = b.setBay i ((b.bay i).addHold k) := by
  rw [← addHold_state _ k] at h
  rcases h with h | h <;> simp only [Bpc.hold, h]

theorem release_dropped (h : (b.bay i).count k = 0) : b.release cfg k i = b := if_pos h

theorem release_more (hhas : (b.bay i).count k ≠ 0) (hmore : ((b.bay i).dropHold k).holdCount ≠ 0) :
    b.release cfg k i = b.setBay i ((b.bay i).dropHold k) := (if_neg hhas).trans (if_pos hmore)

section
variable (hhas : (b.bay i).count k ≠ 0) (hlast : ((b.bay i).dropHold k).holdCount = 0)
include hhas hlast

theorem release_last_queued (h : (b.bay i).state = .queued) :
    b.release cfg k i =
      ({ b.setBay i { (b.bay i).dropHold k with state := .off } with
        queue := b.queue.filter fun j => decide (j ≠ i) } : Bpc).examine cfg := by
  rw [← dropHold_state _ k] at h
  simp only [Bpc.release, if_neg hhas, if_neg (not_not.2 hlast), h]

theorem release_last_ready (h : (b.bay i).state = .ready) :
    b.release cfg k i = b.setBay i (((b.bay i).dropHold k).letDown cfg b.force) := by
  rw [← dropHold_state _ k] at h
  simp only [Bpc.release, if_neg hhas, if_neg (not_not.2 hlast), h]

theorem release_last_spinningDown (h : (b.bay i).state = .spinningDown) :
    b.release cfg k i = b.setBay i { (b.bay i).dropHold k with respin := false } := by
  rw [← dropHold_state _ k] at h
  simp only [Bpc.release, if_neg hhas, if_neg (not_not.2 hlast), h]

theorem release_last_plain (h : (b.bay i).state = .empty ∨ (b.bay i).state = .off ∨ (b.bay i).state = .spinningUp) :
    b.release cfg k i = b.setBay i ((b.bay i).dropHold k) := by
  rw [← dropHold_state _ k] at h
  rcases h with h | h | h <;> simp only [Bpc.release, if_neg hhas, if_neg (not_not.2 hlast), h]

end

theorem letDown_forced (x : Bay) : x.letDown cfg true = x.startSpinDown cfg := rfl

theorem letDown_idle (x : Bay) :
    x.letDown cfg false = { x with timer := if cfg.idle = 0 then none else some (.idle, cfg.idle) } := rfl

theorem manual_iff (x : Bay) : x.manual = true ↔ x.count .manual ≠ 0 := by
  cases h : x.manual <;> simp [Bay.count, h]

theorem holdCount_eq_zero_iff (x : Bay) :
    x.holdCount = 0 ↔ x.streamHolds = 0 ∧ x.planHolds = 0 ∧ x.manual = false := by
  rw [Bay.holdCount, Nat.add_eq_zero_iff, Nat.add_eq_zero_iff, and_assoc]
  cases x.manual <;> simp

/-- Settles O47: the requests by their checks, the queue by its head, and a hold or a release by the bay's state. -/
theorem bayRequestsHoldsAndQueue : Obligations.BayRequestsHoldsAndQueue := by
  refine ⟨fun s r => ⟨fun ho => ?_, fun ho => ?_⟩, fun s r i hlen hbyte hi => ?_, fun s => ends_of_event rfl rfl,
    fun cfg b i rest hqueue => ⟨examine_waits hqueue, examine_starts hqueue⟩, fun cfg k i b hi => ?_⟩
  · exact refusedFirst_of_covers (checks := fun _ => bayNumberChecks) (f := fun _ => bayHoldTaken) execBayHold rfl
      (execBayHold_eq s) ho rfl (bayNumber_covers r)
  · exact refusedFirst_of_covers (checks := fun _ => bayNumberChecks) (f := fun _ => bayReleaseTaken) execBayRelease rfl
      (execBayRelease_eq s) ho rfl (bayNumber_covers r)
  · subst hbyte
    refine ⟨fun ho => ⟨fun h => ?_, fun h hmanual => ?_, fun h hmanual hempty => ?_, fun h hmanual hpresent => ?_⟩,
      fun ho => ?_⟩
    · exact bayHold_ends ho hlen hi (bayHoldTaken_outsideRun (s := s.quiet) h)
    · exact bayHold_ends ho hlen hi (bayHoldTaken_held (s := s.quiet) h hmanual)
    · exact bayHold_ends ho hlen hi (bayHoldTaken_empty (s := s.quiet) h hmanual hempty)
    · exact bayHold_ends ho hlen hi (bayHoldTaken_placed (s := s.quiet) h hmanual hpresent)
    · exact ends_of_checks_pass (checks := fun _ => bayNumberChecks) (f := fun _ => bayReleaseTaken) execBayRelease rfl
        (execBayRelease_eq s) ho rfl (firstFail_bayNumberChecks hlen hi) rfl
  · intro x up down has last
    have hup : up = x.addHold k := by cases k <;> rfl
    have hdown : down = x.dropHold k := by cases k <;> rfl
    have hhas : has ↔ x.count k ≠ 0 := by
      cases k with
      | stream => exact Nat.pos_iff_ne_zero (n := x.streamHolds)
      | plan => exact Nat.pos_iff_ne_zero (n := x.planHolds)
      | manual => exact manual_iff x
    have hlast : last ↔ (x.dropHold k).holdCount = 0 := by rw [← hdown, holdCount_eq_zero_iff]
    rw [hhas, hlast, hup, hdown]
    refine ⟨hold_off hi, hold_ready, hold_spinningDown, hold_rising, fun h => release_dropped (not_not.1 h), release_more,
      fun h hl => ⟨release_last_queued h hl, fun hs hforce => ?_, fun hs hforce hidle => ?_, fun hs hforce hidle => ?_,
        release_last_spinningDown h hl, fun hs => release_last_plain h hl (.inr (.inr hs))⟩⟩
    · rw [release_last_ready h hl hs, hforce, letDown_forced]
      rfl
    · rw [release_last_ready h hl hs, hforce, letDown_idle, if_neg hidle]
    · rw [release_last_ready h hl hs, hforce, letDown_idle, if_pos hidle]

end Sys2Proof.Machine
end

section
/-!
PROOFS. The bay timers' expiries, the two presence events, and what plans and streams see of them (R63, R147, R150, R161 to
R164).
-/

namespace Sys2Proof.Machine

variable {s t : State} {i : Nat} {b : Bpc} {cfg : Settings}

/-! ### A bay that became READY (R147) -/

theorem any_toList_iff {α : Type} {n : Nat} (d : α) (v : Vector α n) (f : α → Bool) :
    v.toList.any f = true ↔ ∃ k < n, f (slot d v k) = true := by
  rw [List.any_eq_true]
  constructor
  · rintro ⟨x, hx, hf⟩
    obtain ⟨k, hk, rfl⟩ := Vector.mem_iff_getElem.1 (Vector.mem_toList_iff.1 hx)
    exact ⟨k, hk, by rwa [slot_of_lt d v k hk]⟩
  · rintro ⟨k, hk, hf⟩
    rw [slot_of_lt d v k hk] at hf
    exact ⟨v[k], Vector.mem_toList_iff.2 (Vector.getElem_mem hk), hf⟩

theorem allReady_iff (s : State) (set : BitVec 4) :
    s.allReady set = true ↔ ∀ k < 4, set.getLsbD k = true → (s.bay k).state = .ready := by
  rw [State.allReady, List.all_eq_true]
  simp only [baysOf, List.mem_filter, List.mem_range, decide_eq_true_iff, and_imp]

/-- A plan that becomes READY when bay `i` does. -/
def movesAt (i : Nat) (s : State) (x : Plan) : Bool :=
  decide (x.state = .waiting) && x.heldBays.getLsbD i && s.allReady x.heldBays

theorem movesAt_iff (i : Nat) (s : State) (x : Plan) :
    movesAt i s x = true ↔ x.state = .waiting ∧ x.heldBays.getLsbD i = true
      ∧ ∀ k < 4, x.heldBays.getLsbD k = true → (s.bay k).state = .ready := by
  rw [movesAt, Bool.and_eq_true, Bool.and_eq_true, decide_eq_true_iff, allReady_iff, and_assoc]

theorem reportBayReady_none (h : ∀ p < 16, movesAt i s (s.plan p) ≠ true) : reportBayReady i s = s := by
  refine if_neg fun hany => ?_
  obtain ⟨p, hp, hmoves⟩ := (any_toList_iff Plan.free s.rpb.plans (movesAt i s)).1 hany
  exact h p hp hmoves

theorem reportBayReady_some (h : ∃ p < 16, movesAt i s (s.plan p) = true) :
    reportBayReady i s =
      latch .planReady
        { s with rpb.plans := s.rpb.plans.map fun x => if movesAt i s x then { x with state := .ready } else x } :=
  if_pos ((any_toList_iff Plan.free s.rpb.plans (movesAt i s)).2 h)

theorem reportBayReady_settings (i : Nat) (s : State) : (reportBayReady i s).slc.settings = s.slc.settings := by simp

/-! ### The expiries -/

theorem bayTimerOut_iff (s : State) (i : Nat) (k : BayTimer) : s.bayTimerOut i k = true ↔ (s.bay i).timer = some (k, 0) :=
  decide_eq_true_iff

theorem finishSpinUp_held (h : (b.bay i).holdCount ≠ 0) :
    b.finishSpinUp cfg i = b.setBay i { b.bay i with state := .ready, timer := none } := congrArg (b.setBay i) (if_neg h)

theorem finishSpinUp_free (h : (b.bay i).holdCount = 0) :
    b.finishSpinUp cfg i =
      b.setBay i (Bay.letDown cfg b.force { b.bay i with state := .ready, timer := none }) := congrArg (b.setBay i) (if_pos h)

theorem finishSpinDown_respin (hi : i < 4) (h : (b.bay i).respin = true) :
    b.finishSpinDown cfg i =
      ({ b.setBay i { b.bay i with state := .queued, respin := false, timer := none } with queue := b.queue ++ [i] } :
        Bpc).examine cfg :=
  (if_pos h).trans (Bpc.joinQueue_setBay cfg b _ hi)

theorem finishSpinDown_off (h : (b.bay i).respin = false) :
    b.finishSpinDown cfg i = (b.setBay i { b.bay i with state := .off, timer := none }).examine cfg :=
  if_neg (by rw [h]; decide)

theorem spinUpDone_eq (i : Nat) (s : State) (y : Bay) (h : s.bpc.finishSpinUp s.slc.settings i = s.bpc.setBay i y) :
    spinUpDone i s =
      let u := reportBayReady i (latch .bayChanged { s with bpc := s.bpc.setBay i y })
      { u with bpc := u.bpc.examine s.slc.settings } := by
  rw [spinUpDone, h]
  simp only [examineQueue, reportBayReady_settings]
  rfl

/-! ### Presence -/

theorem presenceChange_iff (s : State) (i : Nat) (present : Bool) :
    s.presenceChange i present = true ↔ (s.bay i).differ = 2 ∧ (s.bay i).present = present := by
  rw [State.presenceChange, Bool.and_eq_true, decide_eq_true_iff, decide_eq_true_iff]

theorem reportBayLost_plan {p : Nat} (hp : p < 16) (i : Nat) (s : State) :
    (reportBayLost i s).plan p =
      if (s.plan p).state ≠ .free ∧ (s.plan p).heldBays.getLsbD i = true then
        { s.plan p with heldBays := (s.plan p).heldBays &&& ~~~(1#4 <<< i), state := .bayLost }
      else s.plan p :=
  slot_map Plan.free s.rpb.plans _ hp

theorem reportLossToStreams_rpb (i : Nat) (s : State) : (reportLossToStreams i s).rpb = s.rpb := by simp

/-- An expiry that is not due is without effect. -/
theorem ends_of_expiry_rest {e : Instr} {c : State → Bool} {f : State → State}
    (he : exec e s = event (fun s => if c s then f s else s) s) (h : c s.quiet ≠ true) : Ends e s s.quiet :=
  ends_of_event he (if_neg h)

/-- An expiry that is due has its effect. -/
theorem ends_of_expiry {e : Instr} {c : State → Bool} {f : State → State}
    (he : exec e s = event (fun s => if c s then f s else s) s) (h : c s.quiet = true) (ht : f s.quiet = t) : Ends e s t :=
  ends_of_event he ((if_pos h).trans ht)

/-- Settles O48: each event by what it waits for, and the reports plan by plan. -/
theorem bayTimersPresenceAndReports : Obligations.BayTimersPresenceAndReports := by
  refine ⟨fun b i => ?_, fun s i hi => ?_, fun s i => ?_⟩
  · rw [Bpc.switchOn]
    cases (b.bay i).state <;> simp [BayState.powered]
  · intro moves
    have hmoves (p : Nat) : movesAt i s (s.plan p) = true ↔ moves p := movesAt_iff i s (s.plan p)
    refine ⟨fun h => reportBayReady_none fun p hp hm => h p hp ((hmoves p).1 hm), fun ⟨p, hp, hm⟩ => ?_⟩
    have hsome := reportBayReady_some ⟨p, hp, (hmoves p).2 hm⟩
    have hplan (q : Nat) (hq : q < 16) : (reportBayReady i s).plan q =
        if movesAt i s (s.plan q) then { s.plan q with state := .ready } else s.plan q := by
      rw [hsome]
      exact slot_map Plan.free s.rpb.plans _ hq
    refine ⟨by rw [hsome]; rfl, fun q hq => ⟨fun hq' => ?_, fun hq' => ?_⟩⟩
    · rw [hplan q hq, if_pos ((hmoves q).2 hq')]
    · rw [hplan q hq, if_neg (fun h => hq' ((hmoves q).1 h))]
  · intro x b cfg changed free
    have hfree : free ↔ x.holdCount = 0 := (holdCount_eq_zero_iff x).symm
    refine ⟨fun h => ?_, fun h => ?_, fun h => ?_, fun h => ?_, fun h => ?_, fun hdue => ?_, fun hdue => ?_,
      fun hdue hrespin => ?_, fun hdue hrespin => ?_, fun hdiffer hpresent => ?_, fun hdiffer hpresent => ?_⟩
    · exact ends_of_expiry_rest (c := fun s => s.bayTimerOut i.val .spinUp) rfl fun hout => h (of_decide_eq_true hout)
    · exact ends_of_expiry_rest (c := fun s => s.bayTimerOut i.val .idle) rfl fun hout => h (of_decide_eq_true hout)
    · exact ends_of_expiry_rest (c := fun s => s.bayTimerOut i.val .spinDown) rfl fun hout => h (of_decide_eq_true hout)
    · refine ends_of_expiry_rest (c := fun s => s.presenceChange i.val true) rfl fun hout => ?_
      obtain ⟨h2, hpresent⟩ := (presenceChange_iff s i true).1 hout
      exact h.elim (absurd h2) (fun hp => absurd (hpresent.symm.trans hp) (by decide))
    · refine ends_of_expiry_rest (c := fun s => s.presenceChange i.val false) rfl fun hout => ?_
      obtain ⟨h2, hpresent⟩ := (presenceChange_iff s i false).1 hout
      exact h.elim (absurd h2) (fun hp => absurd (hpresent.symm.trans hp) (by decide))
    · intro ready
      have hends {y : Bay} (hy : b.finishSpinUp cfg i = b.setBay i y) : Ends (.spinUpExpiry i) s (ready y) :=
        ends_of_expiry (c := fun s => s.bayTimerOut i.val .spinUp) rfl (decide_eq_true hdue) (spinUpDone_eq i s.quiet y hy)
      refine ⟨fun hheld => hends (finishSpinUp_held fun h => hheld (hfree.2 h)), fun hnone hforce => hends ?_,
        fun hnone hforce => hends ?_⟩
      · rw [finishSpinUp_free (hfree.1 hnone), hforce]
        rfl
      · rw [finishSpinUp_free (hfree.1 hnone), hforce]
        rfl
    · exact ends_of_expiry (c := fun s => s.bayTimerOut i.val .idle) rfl (decide_eq_true hdue) rfl
    · refine ends_of_expiry (c := fun s => s.bayTimerOut i.val .spinDown) rfl (decide_eq_true hdue) ?_
      exact congrArg (fun c => completeStandby { s.quiet with bpc := c }) (finishSpinDown_respin i.isLt hrespin)
    · refine ends_of_expiry (c := fun s => s.bayTimerOut i.val .spinDown) rfl (decide_eq_true hdue) ?_
      exact congrArg (fun c => completeStandby { s.quiet with bpc := c }) (finishSpinDown_off hrespin)
    · intro gone lost streams
      have hstreams : reportLossToStreams i lost = streams := rfl
      refine ⟨reportBayLost i streams, fun p hp => ?_, rfl, ?_⟩
      · have hrpb : streams.rpb = s.rpb := reportLossToStreams_rpb i lost
        rw [reportBayLost_plan hp, State.plan, hrpb]
      · exact ends_of_expiry (c := fun s => s.presenceChange i.val true) rfl
          ((presenceChange_iff s.quiet i true).2 ⟨hdiffer, hpresent⟩) rfl
    · intro arrived
      exact ends_of_expiry (c := fun s => s.presenceChange i.val false) rfl
        ((presenceChange_iff s.quiet i false).2 ⟨hdiffer, hpresent⟩) rfl

end Sys2Proof.Machine
end

section
/-!
PROOFS. The wake timer, the retry pause and the button (R168, R169, R173, R174).
-/

namespace Sys2Proof.Machine

variable {s t : State}

theorem pressButton_run (h : s.bxp.power = .run) : pressButton s = latch .button { s with bxp.returnStandby := false } := by
  rw [pressButton, h]

theorem pressButton_standbyEntry (h : s.bxp.power = .standbyEntry) :
    pressButton s = abandonStandby .button { s with bxp.returnStandby := false } := by
  rw [pressButton, h]

theorem pressButton_standby (h : s.bxp.power = .standby) : pressButton s = startWake .button false s := by
  rw [pressButton, h]

theorem pressButton_halted (h : s.bxp.power = .halted) : pressButton s = startWake .button false s := by
  rw [pressButton, h]

theorem pressButton_waking (h : s.bxp.power = .waking) :
    pressButton s = { s with bxp.returnStandby := false, bxp.cause := .button } := by
  rw [pressButton, h]

/-- Settles O50: each expiry by its timer and the power state, the button by the power state. -/
theorem wakeTimersAndButton : Obligations.WakeTimersAndButton := by
  intro s
  have hwake {t : State} (hpower : s.bxp.power = .waking) (hdue : s.bxp.timer = some (.wake, 0)) (ht : wakeFails s.quiet = t) :
      Ends .wakeTimerExpiry s t :=
    ends_of_event rfl ((if_pos ⟨decide_eq_true hdue, hpower⟩).trans ht)
  have hpress {t : State} (ht : pressButton s.quiet = t) : Ends .buttonPress s t := ends_of_event rfl ht
  refine ⟨fun h => ?_, fun h => ?_, fun hpower hdue hmore => hwake hpower hdue ?_,
    fun hpower hdue htwo => hwake hpower hdue ?_, fun hpower hdue => ?_, fun hpower => hpress ?_,
    fun hpower => hpress ?_, fun hpower => hpress ?_, fun hpower => hpress ?_⟩
  · exact ends_of_event rfl (if_neg fun hdue => h (of_decide_eq_true hdue.1))
  · exact ends_of_event rfl (if_neg fun hdue => h (of_decide_eq_true hdue.1))
  · exact if_pos (Nat.succ_lt_succ hmore)
  · have hthree : ¬ s.quiet.bxp.failures + 1 < 3 := Nat.not_lt.2 (Nat.succ_le_succ htwo.ge)
    have hcount : s.bxp.failures + 1 = 3 := congrArg (· + 1) htwo
    refine (if_neg hthree).trans ?_
    rw [← hcount]
    rfl
  · exact ends_of_event rfl (if_pos ⟨decide_eq_true hdue, hpower⟩)
  · exact pressButton_run (s := s.quiet) hpower
  · exact pressButton_standbyEntry (s := s.quiet) hpower
  · exact hpower.elim (pressButton_standby (s := s.quiet)) (pressButton_halted (s := s.quiet))
  · exact pressButton_waking (s := s.quiet) hpower

end Sys2Proof.Machine
end

section
/-!
PROOFS. Standby entry: STANDBY_ENTER and RETURN_PRIOR by their checks, the entry to STANDBY, and abandonment (R8, R165, R170
to R172, R175).
-/

namespace Sys2Proof.Machine

variable {s t : State} {r : Request} {i : Nat}

/-! ### Abandonment (R172) -/

/-- An abandoned entry before the link is woken. -/
def abandoned (why : StandbyFailure) (s : State) : State :=
  latch .standbyFailed (enterRun { s with
    bxp.lastFailure := why
    bpc := s.bpc.withdrawForRun s.slc.settings
    slc.sleepReq := false })

theorem abandonStandby_sleep (why : StandbyFailure) (h : s.slc.link = .sleep) :
    abandonStandby why s = partWake (abandoned why s) := if_pos h

theorem abandonStandby_awake (why : StandbyFailure) (h : s.slc.link ≠ .sleep) :
    abandonStandby why s = abandoned why s := if_neg h

/-- Waking the link touches the link alone. -/
theorem abandonStandby_outside {β : Type} (why : StandbyFailure) (s : State) (f : State → β)
    (h : ∀ u, f (partWake u) = f u) : f (abandonStandby why s) = f (abandoned why s) := by
  by_cases hlink : s.slc.link = .sleep
  · rw [abandonStandby_sleep why hlink, h]
  · rw [abandonStandby_awake why hlink]

theorem abandoned_pendingEnabled (why : StandbyFailure) (s : State) :
    (abandoned why s).pendingEnabled = (s.pendingNotices ||| 16#11) &&& s.slc.enables := by
  have hset : (abandoned why s).pendingNotices = (s.slc.latched ||| 16#11) ||| s.levelNotices := rfl
  rw [State.pendingEnabled, hset, State.pendingNotices, BitVec.or_assoc, BitVec.or_assoc, BitVec.or_comm 16#11]
  rfl

/-- A READY bay that nothing holds. -/
theorem readyFree_iff (x : Bay) :
    (x.state = .ready ∧ x.holdCount = 0)
      ↔ x.state = .ready ∧ x.streamHolds = 0 ∧ x.planHolds = 0 ∧ x.manual = false := by
  rw [holdCount_eq_zero_iff]

theorem withdrawForRun_bay (cfg : Settings) (b : Bpc) (hi : i < 4) :
    (b.withdrawForRun cfg).bay i =
      if (b.bay i).state = .ready ∧ (b.bay i).holdCount = 0 then (b.bay i).startIdle cfg else b.bay i :=
  slot_map _ _ _ hi

theorem setForce_bay (cfg : Settings) (b : Bpc) (hi : i < 4) :
    (b.setForce cfg).bay i =
      if (b.bay i).state = .ready ∧ (b.bay i).holdCount = 0 then (b.bay i).startSpinDown cfg else b.bay i :=
  slot_map _ _ _ hi

theorem abandonment (s : State) (why : StandbyFailure) :
    let run := enterRun s
    let t := abandonStandby why s
    let slc := { s.slc with sleepReq := false, latched := s.slc.latched ||| 16#11 }
    t.bxp = { s.bxp with power := .run, timer := none, lastFailure := why }
      ∧ t.nwu = run.nwu ∧ t.clients = run.clients
      ∧ t.bpc.force = false ∧ t.bpc.queue = s.bpc.queue
      ∧ (∀ i < 4, let x := s.bay i
          (x.state = .ready ∧ x.streamHolds = 0 ∧ x.planHolds = 0 ∧ x.manual = false →
              t.bay i = { x with timer := if s.slc.settings.idle = 0 then none else some (.idle, s.slc.settings.idle) })
            ∧ (¬ (x.state = .ready ∧ x.streamHolds = 0 ∧ x.planHolds = 0 ∧ x.manual = false) → t.bay i = x))
      ∧ (s.slc.link ≠ .sleep → t.slc = slc)
      ∧ (s.slc.link = .sleep →
          let sends : Prop := (s.pendingNotices ||| 16#11) &&& slc.enables ≠ 0#11 ∧ slc.owed = true ∧ .attention ∉ slc.outgoing
          t.slc = { slc with
            link := .active, wakeOut := true, owed := false
            outgoing := if sends then slc.outgoing ++ [.attention] else slc.outgoing })
      ∧ t.bck = s.bck ∧ t.streams = s.streams ∧ t.chunks = s.chunks ∧ t.oct = s.oct ∧ t.rtu = s.rtu
      ∧ t.grants = s.grants ∧ t.rpb = s.rpb ∧ t.tiu = s.tiu ∧ t.pending = s.pending ∧ t.free = s.free := by
  intro run t slc
  have hbay (i : Nat) (hi : i < 4) : t.bay i =
      if (s.bay i).state = .ready ∧ (s.bay i).holdCount = 0 then (s.bay i).startIdle s.slc.settings else s.bay i :=
    (abandonStandby_outside why s (fun u => u.bay i) fun _ => rfl).trans (withdrawForRun_bay _ _ hi)
  refine ⟨abandonStandby_outside why s State.bxp fun _ => rfl, abandonStandby_outside why s State.nwu fun _ => rfl,
    abandonStandby_outside why s State.clients fun _ => rfl, abandonStandby_outside why s (fun u => u.bpc.force) fun _ => rfl,
    abandonStandby_outside why s (fun u => u.bpc.queue) fun _ => rfl, fun i hi => ⟨fun h => ?_, fun h => ?_⟩,
    fun h => congrArg State.slc (abandonStandby_awake why h), fun h => ?_,
    abandonStandby_outside why s State.bck fun _ => rfl, abandonStandby_outside why s State.streams fun _ => rfl,
    abandonStandby_outside why s State.chunks fun _ => rfl, abandonStandby_outside why s State.oct fun _ => rfl,
    abandonStandby_outside why s State.rtu fun _ => rfl, abandonStandby_outside why s State.grants fun _ => rfl,
    abandonStandby_outside why s State.rpb fun _ => rfl, abandonStandby_outside why s State.tiu fun _ => rfl,
    abandonStandby_outside why s State.pending fun _ => rfl, abandonStandby_outside why s State.free fun _ => rfl⟩
  · rw [hbay i hi, if_pos ((readyFree_iff _).2 h)]
    rfl
  · rw [hbay i hi, if_neg fun hready => h ((readyFree_iff _).1 hready)]
  · intro sends
    have hslc : t.slc = (partWake (abandoned why s)).slc := congrArg State.slc (abandonStandby_sleep why h)
    rw [hslc, partWake_eq, abandoned_pendingEnabled]
    have houtgoing : (if (s.pendingNotices ||| 16#11) &&& s.slc.enables ≠ 0#11 ∧ s.slc.owed = true
          then attended s.slc.outgoing else s.slc.outgoing)
        = if sends then s.slc.outgoing ++ [.attention] else s.slc.outgoing := by
      by_cases hmem : .attention ∈ s.slc.outgoing
      · rw [attended_of_mem hmem, ite_self, if_neg fun hsends : sends => hsends.2.2 hmem]
      · have hiff : sends ↔ (s.pendingNotices ||| 16#11) &&& s.slc.enables ≠ 0#11 ∧ s.slc.owed = true :=
          and_congr_right fun _ => and_iff_left hmem
        have hnew : attended s.slc.outgoing = s.slc.outgoing ++ [.attention] := if_neg hmem
        rw [hnew]
        exact if_congr hiff.symm rfl rfl
    rw [← houtgoing]
    rfl

/-! ### The checks of an entry (R170) -/

section
variable {cs : List (Bool × Status)} {f : State → State}

/-- The checks that STANDBY_ENTER and RETURN_PRIOR share, in the words of R170. -/
theorem powerGuarded_entry (hcs : firstFail cs = firstFail (entryChecks s)) :
    let manual := ∃ i < 4, (s.bay i).manual = true
    let waits := s.bxp.due ≠ 0 ∨ (∃ c < 16, (s.client c).holdStatus ≠ .empty) ∨ s.slc.latched.getLsbD 6 = true
    let streams := ∃ i < 8, (s.stream i).state ≠ .closed
    let plans := ∃ p < 16, (s.plan p).state ≠ .free
    let busy := s.tiu.load = .loading ∨ s.tiu.exporting = true
    (busy → powerGuarded cs r f s = answerPower r .imageBusy s)
      ∧ (¬ busy → streams → powerGuarded cs r f s = answerPower r .streamsOpen s)
      ∧ (¬ busy → ¬ streams → plans → powerGuarded cs r f s = answerPower r .plansOpen s)
      ∧ (¬ busy → ¬ streams → ¬ plans → manual → powerGuarded cs r f s = answerPower r .baysHeld s)
      ∧ (¬ busy → ¬ streams → ¬ plans → ¬ manual → waits → powerGuarded cs r f s = answerPower r .wakePending s)
      ∧ (¬ busy → ¬ streams → ¬ plans → ¬ manual → ¬ waits → powerGuarded cs r f s = answerPower r .ok (f s)) := by
  intro manual waits streams plans busy
  have hbusy : (decide (s.tiu.load = .loading) || s.tiu.exporting) = true ↔ busy := by
    rw [Bool.or_eq_true, decide_eq_true_iff]
  have hstreams : decide (0 < s.streamCount) = true ↔ streams := by
    rw [decide_eq_true_iff, streamCount_pos_iff]
    simp only [List.mem_range, streams]
  have hplans : decide (0 < s.planCount) = true ↔ plans := by
    rw [decide_eq_true_iff, planCount_pos_iff]
    simp only [List.mem_range, plans]
  have hmanual : s.bpc.bays.toList.any Bay.manual = true ↔ manual := by
    rw [anyManual_iff]
    simp only [List.mem_range, manual]
  have hwaits : (decide (s.bxp.due ≠ 0#16) || s.anyHold || s.buttonLatched) = true ↔ waits := by
    rw [Bool.or_eq_true, Bool.or_eq_true, decide_eq_true_iff, anyHold_iff, or_assoc]
    simp only [List.mem_range, waits]
    rfl
  have hskip {b : Bool} {P : Prop} (h : b = true ↔ P) (hP : ¬ P) : b = false := Bool.eq_false_iff.2 fun hb => hP (h.1 hb)
  refine ⟨fun h1 => powerGuarded_fail _ _ _ _ _ (hcs.trans ?_), fun h1 h2 => powerGuarded_fail _ _ _ _ _ (hcs.trans ?_),
    fun h1 h2 h3 => powerGuarded_fail _ _ _ _ _ (hcs.trans ?_), fun h1 h2 h3 h4 => powerGuarded_fail _ _ _ _ _ (hcs.trans ?_),
    fun h1 h2 h3 h4 h5 => powerGuarded_fail _ _ _ _ _ (hcs.trans ?_),
    fun h1 h2 h3 h4 h5 => powerGuarded_pass _ _ _ _ (hcs.trans ?_)⟩
  · exact if_pos (hbusy.2 h1)
  · exact firstFail_skip (hskip hbusy h1) (if_pos (hstreams.2 h2))
  · exact firstFail_skip (hskip hbusy h1) <| firstFail_skip (hskip hstreams h2) (if_pos (hplans.2 h3))
  · exact firstFail_skip (hskip hbusy h1) <| firstFail_skip (hskip hstreams h2) <| firstFail_skip (hskip hplans h3)
      (if_pos (hmanual.2 h4))
  · exact firstFail_skip (hskip hbusy h1) <| firstFail_skip (hskip hstreams h2) <| firstFail_skip (hskip hplans h3) <|
      firstFail_skip (hskip hmanual h4) (if_pos (hwaits.2 h5))
  · exact firstFail_skip (hskip hbusy h1) <| firstFail_skip (hskip hstreams h2) <| firstFail_skip (hskip hplans h3) <|
      firstFail_skip (hskip hmanual h4) <| firstFail_skip (hskip hwaits h5) rfl

end

theorem standbyEnter_ends (ho : Offered s .standbyEnter r)
    (ht : powerGuarded (standbyEnterChecks s.quiet r) r acceptStandby s.quiet = t) : Ends .standbyEnter s t := by
  have hexec : exec .standbyEnter s = .next (settle s.quiet (powerGuarded (standbyEnterChecks s.quiet r) r acceptStandby s.quiet)) :=
    take_offered .standbyEnter anyForm _ s r ho.1 ho.2 rfl
  rw [Ends, hexec, ht]

theorem returnPrior_ends (ho : Offered s .returnPrior r)
    (ht : powerGuarded (returnPriorChecks s.quiet r) r returnToStandby s.quiet = t) : Ends .returnPrior s t := by
  have hexec : exec .returnPrior s = .next (settle s.quiet (powerGuarded (returnPriorChecks s.quiet r) r returnToStandby s.quiet)) :=
    take_offered .returnPrior anyForm _ s r ho.1 ho.2 rfl
  rw [Ends, hexec, ht]

/-! ### The entry to STANDBY -/

theorem linkDown_eq (s : State) :
    linkDown s = { s with
      slc := { s.slc with
        link := .down, receiver := .quiet, places := [], outgoing := [], sending := none
        deferred := Vector.replicate 8 none, sleepReq := false
        owed := s.slc.owed || decide (.attention ∈ s.slc.outgoing ∨ s.slc.sending = some .attention) }
      nwu.receive := [] } := by
  rw [linkDown, slc_drop_eq, Bool.or_assoc, ← Bool.decide_or]

theorem standbyReady_iff (s : State) :
    s.standbyReady = true ↔ s.bxp.power = .standbyEntry ∧ s.bxp.sleepAcked = true
      ∧ ∀ i < 4, (s.bay i).state = .off ∨ (s.bay i).state = .empty := by
  rw [State.standbyReady, Bool.and_eq_true, Bool.and_eq_true, decide_eq_true_iff, Bpc.allStopped_iff, and_assoc]

/-- Settles O49: the requests by the checks they share, and the end of an entry by what abandons or completes it. -/
theorem standbyEntryAndAbandonment : Obligations.StandbyEntryAndAbandonment := by
  refine ⟨abandonment, fun s r hnil hrun => ?_, fun s r hpayload => ⟨fun ho => ?_, fun ho => ?_⟩,
    fun s r hnil hpower => ⟨fun ho => ?_, fun ho => ?_⟩, fun cfg b i hi => ?_, linkDown_eq, fun s => ?_, fun s => ?_⟩
  · intro manual waits streams plans busy entry answered checked
    have hlen : (!r.hasLength 0) = false := not_hasLength_of_eq_nil hnil
    have hpower : decide (s.bxp.power ≠ .run) = false := decide_eq_false (not_not.2 hrun)
    refine ⟨fun ho => ?_, fun ho hback => ?_, fun ho hback => ?_⟩
    · have hcs : firstFail (standbyEnterChecks s.quiet r) = firstFail (entryChecks s.quiet) :=
        firstFail_skip hlen <| firstFail_skip hpower rfl
      obtain ⟨h1, h2, h3, h4, h5, h6⟩ := powerGuarded_entry (r := r) (f := acceptStandby) hcs
      exact ⟨fun a => standbyEnter_ends ho (h1 a), fun a b => standbyEnter_ends ho (h2 a b),
        fun a b c => standbyEnter_ends ho (h3 a b c), fun a b c d => standbyEnter_ends ho (h4 a b c d),
        fun a b c d e => standbyEnter_ends ho (h5 a b c d e), fun a b c d e => standbyEnter_ends ho (h6 a b c d e)⟩
    · refine returnPrior_ends ho (powerGuarded_fail _ _ _ _ _ ?_)
      exact firstFail_skip hlen <| firstFail_skip hpower <| if_pos (congrArg not hback)
    · have hcs : firstFail (returnPriorChecks s.quiet r) = firstFail (entryChecks s.quiet) :=
        firstFail_skip hlen <| firstFail_skip hpower <| firstFail_skip (congrArg not hback) rfl
      obtain ⟨h1, h2, h3, h4, h5, h6⟩ := powerGuarded_entry (r := r) (f := returnToStandby) hcs
      exact ⟨fun a => returnPrior_ends ho (h1 a), fun a b => returnPrior_ends ho (h2 a b),
        fun a b c => returnPrior_ends ho (h3 a b c), fun a b c d => returnPrior_ends ho (h4 a b c d),
        fun a b c d e => returnPrior_ends ho (h5 a b c d e), fun a b c d e => returnPrior_ends ho (h6 a b c d e)⟩
  · exact standbyEnter_ends ho (powerGuarded_fail _ _ _ _ _ (if_pos ((not_hasLength_zero_iff r).2 hpayload)))
  · exact returnPrior_ends ho (powerGuarded_fail _ _ _ _ _ (if_pos ((not_hasLength_zero_iff r).2 hpayload)))
  · exact standbyEnter_ends ho (powerGuarded_fail _ _ _ _ _
      (firstFail_skip (not_hasLength_of_eq_nil hnil) (if_pos (decide_eq_true hpower))))
  · exact returnPrior_ends ho (powerGuarded_fail _ _ _ _ _
      (firstFail_skip (not_hasLength_of_eq_nil hnil) (if_pos (decide_eq_true hpower))))
  · intro x free
    refine ⟨rfl, rfl, fun h => ?_, fun h => ?_⟩
    · rw [setForce_bay cfg b hi, if_pos ((readyFree_iff _).2 h)]
      rfl
    · rw [setForce_bay cfg b hi, if_neg fun hready => h ((readyFree_iff _).1 hready)]
  · intro stopped standby
    refine ⟨fun hpower hacked hstopped => ?_, fun h => ?_⟩
    · have hready : s.standbyReady = true := (standbyReady_iff s).2 ⟨hpower, hacked, hstopped⟩
      exact ⟨if_pos hready, ends_of_event rfl (if_pos hready)⟩
    · have hnot : ¬ s.standbyReady = true := fun hready => by
        obtain ⟨hpower, hacked, hstopped⟩ := (standbyReady_iff s).1 hready
        exact h.elim (· hpower) fun h => h.elim (fun hno => absurd (hacked.symm.trans hno) (by decide)) (· hstopped)
      exact ⟨if_neg hnot, ends_of_event rfl (if_neg hnot)⟩
  · exact ⟨fun hpower hacked hdue => ends_of_event rfl (if_pos ⟨decide_eq_true hdue, hpower, hacked⟩),
      fun h => ends_of_event rfl (if_neg fun hdue => h (of_decide_eq_true hdue.1))⟩

end Sys2Proof.Machine
end

section
/-!
PROOFS. Frames at the port by mode, templates and filters; FRAME_OUT and the transmission of a frame (R172, R173, R179 to
R183).
-/

namespace Sys2Proof.Machine

variable {s t : State} {r : Request} {f : List Byte}

/-! ### The byte test (R181) -/

theorem matchesBytes_iff (f : List Byte) (offset : Nat) (pattern mask : List Byte) :
    matchesBytes f offset pattern mask = true ↔
      offset + pattern.length ≤ f.length
        ∧ ∀ k < pattern.length,
            f.getD (offset + k) 0#8 &&& mask.getD k 0#8 = pattern.getD k 0#8 &&& mask.getD k 0#8 := by
  rw [matchesBytes, Bool.and_eq_true, decide_eq_true_iff, and_congr_right_iff]
  intro hlen
  have hbyte (k : Nat) (hk : k < pattern.length) : (slice f offset pattern.length)[k]? = some (f.getD (offset + k) 0#8) := by
    rw [slice, List.getElem?_take_of_lt hk, List.getElem?_drop, List.getElem?_eq_getElem (by omega), List.getD_eq_getElem]
  rw [List.all_eq_true]
  constructor
  · intro hall k hk
    by_cases hmask : k < mask.length
    · have hmem : (f.getD (offset + k) 0#8, pattern.getD k 0#8, mask.getD k 0#8)
          ∈ (slice f offset pattern.length).zip (pattern.zip mask) := by
        refine List.mem_iff_getElem?.2 ⟨k, ?_⟩
        rw [List.getElem?_zip_eq_some, List.getElem?_zip_eq_some]
        exact ⟨hbyte k hk, by simp [hk], by simp [hmask]⟩
      exact of_decide_eq_true (hall _ hmem)
    · simp [List.getD_eq_getElem?_getD, hmask]
  · rintro hall ⟨x, y, m⟩ hmem
    obtain ⟨k, hk⟩ := List.mem_iff_getElem?.1 hmem
    rw [List.getElem?_zip_eq_some, List.getElem?_zip_eq_some] at hk
    obtain ⟨hx, hy, hm⟩ := hk
    have hlt : k < pattern.length := (List.getElem?_eq_some_iff.1 hy).1
    have hsame := hall k hlt
    rw [hbyte k hlt] at hx
    rw [List.getD_eq_getElem?_getD (l := pattern), List.getD_eq_getElem?_getD (l := mask), hy, hm, Option.some.inj hx] at hsame
    exact decide_eq_true hsame

/-! ### Templates and filters -/

theorem matching_eq (s : State) (f : List Byte) :
    s.nwu.matching f =
      ((List.range 4).find? fun k => (s.template k).any fun t => t.matchesFrame f).bind s.template := by
  have htemplates : s.nwu.templates.toList.filterMap id = (List.range 4).filterMap s.template := by
    rw [toList_eq_map_slot none, List.filterMap_map]
    rfl
  rw [Nwu.matching, htemplates, List.find?_filterMap]

theorem matching_some {k : Nat} {x : Template} (hk : k < 4) (hx : s.template k = some x) (hmatch : x.matchesFrame f = true)
    (hbelow : ∀ j < k, ∀ y, s.template j = some y → y.matchesFrame f ≠ true) : s.nwu.matching f = some x := by
  have hfind : (List.range 4).find? (fun k => (s.template k).any fun t => t.matchesFrame f) = some k := by
    rw [List.find?_range_eq_some]
    refine ⟨by rw [hx]; exact hmatch, List.mem_range.2 hk, fun j hj => ?_⟩
    rw [Bool.not_eq_true', Option.any_eq_false]
    exact fun y hy => Bool.eq_false_iff.2 (hbelow j hj y hy)
  rw [matching_eq, hfind]
  exact hx

theorem matching_none (h : ∀ k < 4, ∀ y, s.template k = some y → y.matchesFrame f ≠ true) : s.nwu.matching f = none := by
  rw [matching_eq, List.find?_eq_none.2]
  · rfl
  · intro k hk
    rw [Option.any_eq_true]
    rintro ⟨y, hy, hmatch⟩
    exact h k (List.mem_range.1 hk) y hy hmatch

theorem watchFrame_template {x : Template} (h : s.nwu.matching f = some x) : watchFrame f s = queueTransmit x.reply s := by
  rw [watchFrame, h]

theorem watchFrame_clients (h : s.nwu.matching f = none) : watchFrame f s = watchClients f s := by
  rw [watchFrame, h]

theorem watchClients_some {c : Nat} (hload : s.tiu.load = .loaded) (h : s.matchingClient f = some c) :
    watchClients f s = holdFrame c f s := by
  have hloaded : s.loaded = true := decide_eq_true hload
  rw [watchClients, if_pos hloaded, h]

theorem watchClients_none (h : s.matchingClient f = none) : watchClients f s = s := by
  rw [watchClients, h]
  exact ite_self s

theorem watchClients_unloaded (hload : s.tiu.load ≠ .loaded) : watchClients f s = s :=
  if_neg fun h => hload (of_decide_eq_true h)

theorem frameHeldReport_standby (c : Nat) (h : s.bxp.power = .standby) :
    frameHeldReport c s = startWake (.network c) true s := by
  rw [frameHeldReport, h]

theorem frameHeldReport_standbyEntry (c : Nat) (h : s.bxp.power = .standbyEntry) :
    frameHeldReport c s = abandonStandby (.network c) s := by
  rw [frameHeldReport, h]

theorem frameHeldReport_other (c : Nat) (h : s.bxp.power ≠ .standby) (h' : s.bxp.power ≠ .standbyEntry) :
    frameHeldReport c s = s := by
  rw [frameHeldReport]
  split
  next hpower => exact absurd hpower h
  next hpower => exact absurd hpower h'
  next => rfl

/-- A frame that the MAC takes acts by the mode (R179). -/
theorem frameReceived_ends {good : Bool} (hgood : good = true) (hmin : 60 ≤ f.length) (hmax : f.length ≤ 1518)
    (ht : frameTaken f s.quiet = t) : Ends (.frameReceived f good) s t := by
  have htakes : macTakes f good = true := by
    rw [macTakes, Bool.and_eq_true, Bool.and_eq_true, decide_eq_true_iff, decide_eq_true_iff]
    exact ⟨⟨hgood, hmin⟩, hmax⟩
  exact ends_of_event rfl ((if_pos htakes).trans ht)

theorem frameReceived_dropped {good : Bool} (h : good = false ∨ f.length < 60 ∨ 1518 < f.length) :
    Ends (.frameReceived f good) s s.quiet := by
  refine ends_of_event rfl (if_neg ?_)
  rw [macTakes, Bool.and_eq_true, Bool.and_eq_true, decide_eq_true_iff, decide_eq_true_iff]
  rintro ⟨⟨hgood, hmin⟩, hmax⟩
  rcases h with h | h | h
  · exact absurd (hgood.symm.trans h) (by decide)
  · exact absurd hmin (Nat.not_le.2 h)
  · exact absurd hmax (Nat.not_le.2 h)

theorem frameTaken_pass (h : s.nwu.mode = .pass) : frameTaken f s = passFrame f s := by
  rw [frameTaken, h]

theorem frameTaken_watch (h : s.nwu.mode = .watch) : frameTaken f s = watchFrame f s := by
  rw [frameTaken, h]

/-! ### The transmit buffer -/

theorem execFrameOut_eq (s : State) :
    execFrameOut s =
      take .frameOut anyForm
        (fun r s => guarded (frameOutChecks s r) r (fun s => answer r .ok [] (queueTransmit r.payload s)) s) s := rfl

theorem frameLength_iff (n : Nat) : (decide (n < 14) || decide (1518 < n)) = true ↔ n < 14 ∨ 1518 < n := by
  rw [Bool.or_eq_true, decide_eq_true_iff, decide_eq_true_iff]

theorem aux_ne_zero_iff (r : Request) : decide (r.auxNat ≠ 0) = true ↔ r.aux ≠ 0#16 := by
  rw [decide_eq_true_iff, Request.auxNat_eq]
  exact not_congr (BitVec.toNat_eq (x := r.aux) (y := 0#16)).symm

theorem frameOut_refusedFirst (ho : Offered s .frameOut r) :
    RefusedFirst .frameOut s r
      [(r.aux ≠ 0#16 ∨ r.payload.length < 14 ∨ 1518 < r.payload.length, .badField), (s.nwu.mode = .watch, .state),
       (4 ≤ s.nwu.transmit.length, .full)] := by
  refine refusedFirst_of_covers (f := fun _ r s => answer r .ok [] (queueTransmit r.payload s)) execFrameOut rfl
    (execFrameOut_eq s) ho rfl ?_
  exact .or (aux_ne_zero_iff r) <| .one (frameLength_iff _) <| .one decide_eq_true_iff <| .one decide_eq_true_iff (.done _)

theorem fcsByte_eq (r : BitVec 32) (b : Byte) :
    fcsByte r b = fcsBit (fcsBit (fcsBit (fcsBit (fcsBit (fcsBit (fcsBit (fcsBit (r ^^^ b.setWidth 32)))))))) := rfl

theorem frameCheck_eq (frame : List Byte) :
    frameCheck frame = le 4 (0xFFFFFFFF - (frame.foldl fcsByte 0xFFFFFFFF#32).toNat) := by
  rw [frameCheck, BitVec.toNat_not]
  rfl

theorem transmitStarts_some {frame : List Byte} {rest : List (List Byte)} (hwire : s.nwu.onWire = none)
    (htransmit : s.nwu.transmit = frame :: rest) :
    transmitStarts s = { s with nwu.onWire := some (wireBytes frame) } := by
  rw [transmitStarts, hwire, htransmit]

theorem transmitStarts_rest (h : s.nwu.onWire ≠ none ∨ s.nwu.transmit = []) : transmitStarts s = s := by
  rw [transmitStarts]
  split
  next hwire htransmit =>
    exact h.elim (absurd hwire) fun hnil => absurd (htransmit.symm.trans hnil) (List.cons_ne_nil _ _)
  next => rfl

theorem transmitEnds_some (h : s.nwu.onWire ≠ none) :
    transmitEnds s = { s with nwu.onWire := none, nwu.transmit := s.nwu.transmit.drop 1 } := by
  rw [transmitEnds]
  split
  next => rfl
  next hwire => exact absurd hwire h

theorem transmitEnds_rest (h : s.nwu.onWire = none) : transmitEnds s = s := by
  rw [transmitEnds, h]

/-- Settles O51: a frame by the first template that matches, else by the first client. -/
theorem framesInAndOut : Obligations.FramesInAndOut := by
  refine ⟨matchesBytes_iff, fun s f good => ?_, fun s r ho => (frameOut_refusedFirst ho).1,
    fun s r ho haux hmin hmax => ?_, fun frame => ?_, fun s => ?_⟩
  · intro meets matching client
    refine ⟨frameReceived_dropped, fun hgood hmin hmax => ?_⟩
    have hends {t : State} (ht : frameTaken f s.quiet = t) : Ends (.frameReceived f good) s t :=
      frameReceived_ends hgood hmin hmax ht
    have hmeets (offset : Nat) (pattern mask : List Byte) :
        matchesBytes f offset pattern mask = true ↔ meets offset pattern mask := matchesBytes_iff f offset pattern mask
    have hclient (c : Nat) : (s.client c).matchesFrame f = true ↔ client c := by
      rw [Client.matchesFrame, Bool.and_eq_true, Bool.and_eq_true, decide_eq_true_iff, List.any_eq_true, and_assoc]
      simp only [Filter.matchesFrame, hmeets, client]
    have hnone (h : ∀ k < 4, ¬ matching k) : s.quiet.nwu.matching f = none :=
      matching_none (s := s.quiet) fun k hk y hy hmatch => h k hk ⟨y, hy, (hmeets _ _ _).1 hmatch⟩
    refine ⟨fun hmode => ⟨fun hroom => hends ?_, fun hfull => hends ?_⟩, fun hmode => ?_⟩
    · exact (frameTaken_pass (s := s.quiet) hmode).trans (if_pos hroom)
    · exact (frameTaken_pass (s := s.quiet) hmode).trans (if_neg (Nat.not_lt.2 hfull))
    have hwatch {t : State} (ht : watchFrame f s.quiet = t) : Ends (.frameReceived f good) s t :=
      hends ((frameTaken_watch (s := s.quiet) hmode).trans ht)
    refine ⟨fun k x hk hx hmatch hbelow => ?_, fun h hload => ?_, fun h hno => ?_, fun c h hload hc hmatch hbelow => ?_⟩
    · have hfirst : s.quiet.nwu.matching f = some x :=
        matching_some (s := s.quiet) hk hx ((hmeets _ _ _).2 hmatch) fun j hj y hy hm =>
          hbelow j hj ⟨y, hy, (hmeets _ _ _).1 hm⟩
      exact ⟨fun hroom => hwatch ((watchFrame_template hfirst).trans (if_pos hroom)),
        fun hfull => hwatch ((watchFrame_template hfirst).trans (if_neg (Nat.not_lt.2 hfull)))⟩
    · exact hwatch ((watchFrame_clients (hnone h)).trans (watchClients_unloaded (s := s.quiet) hload))
    · have hmatching : s.quiet.matchingClient f = none :=
        List.find?_eq_none.2 fun c hc hm => hno c (List.mem_range.1 hc) ((hclient c).1 hm)
      exact hwatch ((watchFrame_clients (hnone h)).trans (watchClients_none hmatching))
    · intro x held
      have hmatching : s.quiet.matchingClient f = some c := by
        rw [State.matchingClient, List.find?_range_eq_some]
        refine ⟨(hclient c).2 hmatch, List.mem_range.2 hc, fun j hj => ?_⟩
        rw [Bool.not_eq_true']
        exact Bool.eq_false_iff.2 fun hm => hbelow j hj ((hclient j).1 hm)
      have hheld : s.quiet.setClient c (x.hold f) = held := rfl
      have htaken {t : State} (ht : frameHeldReport c held = t) : Ends (.frameReceived f good) s t := by
        refine hwatch ((watchFrame_clients (hnone h)).trans ((watchClients_some (s := s.quiet) hload hmatching).trans ?_))
        exact (congrArg (frameHeldReport c) hheld).trans ht
      exact ⟨fun hpower => htaken (frameHeldReport_standby (s := held) c hpower),
        fun hpower => htaken (frameHeldReport_standbyEntry (s := held) c hpower),
        fun hpower hpower' => htaken (frameHeldReport_other (s := held) c hpower hpower')⟩
  · have hgood : ¬ (r.aux ≠ 0#16 ∨ r.payload.length < 14 ∨ 1518 < r.payload.length) := by
      rintro (h | h | h)
      · exact h haux
      · omega
      · omega
    have hrefused := (frameOut_refusedFirst ho).2 hgood
    have hpass (hmode : s.nwu.mode = .pass) : ¬ s.nwu.mode = .watch := fun h => absurd (hmode.symm.trans h) (by decide)
    refine ⟨hrefused.1, fun hmode hfull => (hrefused.2 (hpass hmode)).1 hfull, fun hmode hroom => ?_⟩
    refine ends_of_checks_pass (f := fun _ r s => answer r .ok [] (queueTransmit r.payload s)) execFrameOut rfl
      (execFrameOut_eq s) ho rfl ?_ (congrArg (answer r .ok []) (if_pos hroom))
    refine firstFail_skip (Bool.eq_false_iff.2 fun h => (aux_ne_zero_iff r).1 h haux) <|
      firstFail_skip (Bool.eq_false_iff.2 fun h => hgood (.inr ((frameLength_iff _).1 h))) <|
      firstFail_skip (decide_eq_false (hpass hmode)) <| firstFail_skip (decide_eq_false (Nat.not_le.2 hroom)) rfl
  · intro bit byte
    exact frameCheck_eq frame
  · exact ⟨fun frame rest hwire htransmit => ends_of_event rfl (transmitStarts_some (s := s.quiet) hwire htransmit),
      fun h => ends_of_event rfl (transmitStarts_rest (s := s.quiet) h),
      fun h => ends_of_event rfl (transmitEnds_some (s := s.quiet) h),
      fun h => ends_of_event rfl (transmitEnds_rest (s := s.quiet) h)⟩

end Sys2Proof.Machine
end

section
/-!
PROOFS. FILTER_SET and TEMPLATE_SET: the payloads that spell a list of filters or a template, and the bytes they read back
(R185, R186).
-/

namespace Sys2Proof.Machine

variable {s t : State} {r : Request} {p q : List Byte} {n k : Nat}

/-! ### Bytes taken apart -/

theorem le_ofLe {bs : List Byte} (h : bs.length = k) : le k (ofLe bs) = bs := by
  subst h
  induction bs with
  | nil => rfl
  | cons b bs ih =>
    have hlow : BitVec.ofNat 8 (b.toNat + 256 * ofLe bs) = b := by
      apply BitVec.eq_of_toNat_eq
      rw [BitVec.toNat_ofNat]
      omega
    have hhigh : (b.toNat + 256 * ofLe bs) / 256 = ofLe bs := by omega
    rw [List.length_cons, le, ofLe, hlow, hhigh, ih]

theorem le_field {off : Nat} (h : off + k ≤ p.length) : le k (field p off k) = slice p off k :=
  le_ofLe (by rw [slice_length]; omega)

/-- An offset past the bytes in front counts from their end. -/
theorem slice_append_add {a : List Byte} {off m len : Nat} (h : off = a.length + m) :
    slice (a ++ q) off len = slice q m len := by
  rw [slice_append_skip (by omega), h, Nat.add_sub_cancel_left]

theorem field_append_add {a : List Byte} {off m len : Nat} (h : off = a.length + m) :
    field (a ++ q) off len = field q m len := by
  rw [field, slice_append_add h, field]

/-- A run of bytes is its first part and what follows. -/
theorem slice_append_drop (p : List Byte) (off len : Nat) : slice p off len ++ p.drop (off + len) = p.drop off := by
  rw [slice, ← List.drop_drop, List.take_append_drop]

theorem drop_add_append {a : List Byte} (h : a.length = n) : (a ++ q).drop n = q := List.drop_left' h

/-! ### Filters -/

/-- A filter in range (Table 11.3). -/
def Filter.InRange (f : Filter) : Prop :=
  f.offset ≤ 1499 ∧ 1 ≤ f.pattern.length ∧ f.pattern.length ≤ 32 ∧ f.mask.length = f.pattern.length

section
variable {f : Filter} (hf : f.InRange)
include hf

theorem Filter.bytes_length : f.bytes.length = 3 + 2 * f.pattern.length := by
  obtain ⟨-, -, -, hmask⟩ := hf
  simp only [Filter.bytes, List.length_append, le_length, hmask]
  omega

/-- A filter in range at the front is read, and what follows it after it. -/
theorem filtersOf_bytes_append (n : Nat) (q : List Byte) :
    filtersOf (n + 1) (f.bytes ++ q) = (filtersOf n q).map (f :: ·) := by
  obtain ⟨hoffset, hmin, hmax, hmask⟩ := hf
  have hparts : f.bytes ++ q = le 2 f.offset ++ (le 1 f.pattern.length ++ (f.pattern ++ (f.mask ++ q))) := by
    simp only [Filter.bytes, List.append_assoc]
  have hoff : field (f.bytes ++ q) 0 2 = f.offset := by
    rw [hparts, field_append_self (le_length 2 _), ofLe_le_of_lt (hoffset.trans_lt (by decide))]
  have hlen : byteAt (f.bytes ++ q) 2 = f.pattern.length := by
    have hle : ofLe (le 1 f.pattern.length) = f.pattern.length := ofLe_le_of_lt (hmax.trans_lt (by decide))
    rw [hparts, byteAt, field_append_skip (by simp)]
    simpa using hle
  have hpattern : slice (f.bytes ++ q) 3 f.pattern.length = f.pattern := by
    rw [hparts]
    simp
  have hmaskBytes : slice (f.bytes ++ q) (3 + f.pattern.length) f.pattern.length = f.mask := by
    rw [hparts, slice_append_add (m := 1 + f.pattern.length) (by rw [le_length]; omega),
      slice_append_add (m := f.pattern.length) (by rw [le_length]),
      slice_append_skip (Nat.le_refl _), Nat.sub_self, slice_append_self hmask]
  have hdrop : (f.bytes ++ q).drop (3 + 2 * f.pattern.length) = q :=
    drop_add_append (Filter.bytes_length ⟨hoffset, hmin, hmax, hmask⟩)
  have hlong : ¬ ((f.bytes ++ q).length < 3 + 2 * f.pattern.length ∨ f.pattern.length < 1 ∨ 32 < f.pattern.length
      ∨ 1499 < f.offset) := by
    rw [List.length_append, Filter.bytes_length ⟨hoffset, hmin, hmax, hmask⟩]
    omega
  simp only [filtersOf, hoff, hlen, hpattern, hmaskBytes, hdrop, if_neg hlong]

end

/-- A list of filters in range, put one after the other, is read back, and bytes left over are refused. -/
theorem filtersOf_flatMap {fs : List Filter} (hfs : ∀ f ∈ fs, f.InRange) (extra : List Byte) :
    filtersOf fs.length (fs.flatMap Filter.bytes ++ extra) = if extra = [] then some fs else none := by
  induction fs with
  | nil => rfl
  | cons f fs ih =>
    obtain ⟨hf, hfs⟩ := List.forall_mem_cons.1 hfs
    rw [List.flatMap_cons, List.append_assoc, List.length_cons, filtersOf_bytes_append hf, ih hfs]
    split <;> rfl

/-- What is read as a list of filters is that list's bytes, each in range. -/
theorem filtersOf_eq_some {fs : List Filter} (h : filtersOf n p = some fs) :
    fs.length = n ∧ (∀ f ∈ fs, f.InRange) ∧ p = fs.flatMap Filter.bytes := by
  induction n generalizing p fs with
  | zero =>
    rw [filtersOf] at h
    split at h
    next hnil =>
      cases h
      exact ⟨rfl, by simp, hnil⟩
    next => cases h
  | succ n ih =>
    simp only [filtersOf] at h
    split at h
    next => cases h
    next hrange =>
      simp only [not_or, Nat.not_lt] at hrange
      obtain ⟨hlong, hmin, hmax, hoff⟩ := hrange
      obtain ⟨rest, hrest, rfl⟩ := Option.map_eq_some_iff.1 h
      obtain ⟨hcount, hall, hdrop⟩ := ih hrest
      have hpattern : (slice p 3 (byteAt p 2)).length = byteAt p 2 := by rw [slice_length]; omega
      have hmask : (slice p (3 + byteAt p 2) (byteAt p 2)).length = byteAt p 2 := by rw [slice_length]; omega
      refine ⟨congrArg (· + 1) hcount, List.forall_mem_cons.2 ⟨⟨hoff, ?_, ?_, ?_⟩, hall⟩, ?_⟩
      · rwa [hpattern]
      · rwa [hpattern]
      · rw [hpattern, hmask]
      · rw [List.flatMap_cons, ← hdrop, Filter.bytes, hpattern, le_field (by omega), le_field (by omega)]
        simp only [List.append_assoc]
        have hdouble : 3 + 2 * byteAt p 2 = 3 + byteAt p 2 + byteAt p 2 := by omega
        rw [hdouble, slice_append_drop, slice_append_drop, slice_append_drop p 2 1, slice_append_drop p 0 2]
        rfl

/-- A payload that spells a list of up to two filters in range (R186). -/
def SpellsFilters (p : List Byte) (fs : List Filter) : Prop :=
  fs.length ≤ 2 ∧ (∀ f ∈ fs, f.InRange) ∧ p = le 1 (byteAt p 0) ++ le 1 fs.length ++ fs.flatMap Filter.bytes

theorem payloadFilters_append {fs : List Filter} (c : Nat) (hcount : fs.length ≤ 2) (hfs : ∀ f ∈ fs, f.InRange)
    (extra : List Byte) :
    payloadFilters (le 1 c ++ le 1 fs.length ++ fs.flatMap Filter.bytes ++ extra) = if extra = [] then some fs else none := by
  have hparts : le 1 c ++ le 1 fs.length ++ fs.flatMap Filter.bytes ++ extra
      = le 1 c ++ (le 1 fs.length ++ (fs.flatMap Filter.bytes ++ extra)) := by simp only [List.append_assoc]
  have hbyte : byteAt (le 1 c ++ (le 1 fs.length ++ (fs.flatMap Filter.bytes ++ extra))) 1 = fs.length := by
    have hle : ofLe (le 1 fs.length) = fs.length := ofLe_le_of_lt (hcount.trans_lt (by decide))
    rw [byteAt, field_append_skip (by simp)]
    simpa using hle
  have hlong : ¬ ((le 1 c ++ (le 1 fs.length ++ (fs.flatMap Filter.bytes ++ extra))).length < 2 ∨ 2 < fs.length) := by
    simp only [List.length_append, le_length]
    omega
  have hdrop : (le 1 c ++ (le 1 fs.length ++ (fs.flatMap Filter.bytes ++ extra))).drop 2 = fs.flatMap Filter.bytes ++ extra := rfl
  rw [hparts, payloadFilters, hbyte, if_neg hlong, hdrop, filtersOf_flatMap hfs]

theorem payloadFilters_isNone_iff (p : List Byte) : (payloadFilters p).isNone = true ↔ ¬ ∃ fs, SpellsFilters p fs := by
  rw [Option.isNone_iff_eq_none, not_exists]
  constructor
  · rintro h fs ⟨hcount, hfs, hp⟩
    have hread := payloadFilters_append (byteAt p 0) hcount hfs []
    rw [List.append_nil, ← hp, h] at hread
    cases hread
  · intro h
    by_contra hsome
    obtain ⟨fs, hfs⟩ := Option.ne_none_iff_exists'.1 hsome
    rw [payloadFilters] at hfs
    split at hfs
    next => cases hfs
    next hrange =>
      simp only [not_or, Nat.not_lt] at hrange
      obtain ⟨hlong, hcount⟩ := hrange
      obtain ⟨hlen, hall, hp⟩ := filtersOf_eq_some hfs
      refine h fs ⟨hlen ▸ hcount, hall, ?_⟩
      rw [hlen, ← hp, le_field (by omega), le_field (by omega), List.append_assoc]
      rw [slice_append_drop p 1 1, slice_append_drop p 0 1]
      rfl

/-! ### FILTER_SET -/

/-- FILTER_SET past its checks (R186). -/
def filterSetTaken (r : Request) (s : State) : State :=
  let s := writeFilters (byteAt r.payload 0) ((payloadFilters r.payload).getD []) s
  answer r .ok (s.filterRecord (byteAt r.payload 0)) s

theorem execFilterSet_eq (s : State) :
    execFilterSet s =
      take .filterSet (fun r => decide (r.auxNat ≠ 1)) (fun r s => guarded (filterSetChecks s r) r (filterSetTaken r) s) s := rfl

theorem aux_ne_one (h : r.aux ≠ 1#16) : decide (r.auxNat ≠ 1) = true :=
  decide_eq_true fun hone => h (BitVec.eq_of_toNat_eq hone)

theorem aux_zero_ne_one (h : r.aux = 0#16) : decide (r.auxNat ≠ 1) = true := aux_ne_one (by rw [h]; decide)

theorem aux_zero (h : r.aux = 0#16) : decide (r.auxNat ≠ 0) = false :=
  Bool.eq_false_iff.2 fun hne => (aux_ne_zero_iff r).1 hne h

theorem filterSet_refusedFirst (ho : Offered s .filterSet r) (hchange : Changeable s) (haux : r.aux ≠ 1#16) :
    RefusedFirst .filterSet s r
      [(r.aux ≠ 0#16 ∨ 15 < byteAt r.payload 0 ∨ ¬ ∃ fs, SpellsFilters r.payload fs, .badField),
       ((s.client (byteAt r.payload 0)).active = false, .noSuch)] := by
  refine refusedFirst_of_covers (f := fun _ => filterSetTaken) execFilterSet rfl (execFilterSet_eq s) ho (aux_ne_one haux)
    (.changeable hchange ?_)
  exact .or (aux_ne_zero_iff r) <| .or decide_eq_true_iff <| .one (payloadFilters_isNone_iff _) <|
    .one (Bool.not_eq_true' _ ▸ Iff.rfl) (.done _)

theorem filterRecord_written {c : Nat} (hc : c < 16) (fs : List Filter) (s : State) :
    (writeFilters c fs s).filterRecord c = le 1 c ++ le 1 fs.length ++ fs.flatMap Filter.bytes := by
  have hclient : (writeFilters c fs s).client c = { s.client c with filters := fs } := slot_put_self _ _ _ _ hc
  rw [State.filterRecord, hclient]

theorem filterSet_answers {c : Nat} {fs : List Filter} (ho : Offered s .filterSet r) (hchange : Changeable s)
    (haux : r.aux = 0#16) (hc : c < 16) (hactive : (s.client c).active = true) (hcount : fs.length ≤ 2)
    (hfs : ∀ f ∈ fs, f.InRange) (hpayload : r.payload = le 1 c ++ le 1 fs.length ++ fs.flatMap Filter.bytes) :
    Answers .filterSet s r .ok r.payload (s.quiet.setClient c { s.client c with filters := fs }) := by
  have hread : payloadFilters r.payload = some fs := by
    rw [hpayload, ← List.append_nil (_ ++ fs.flatMap Filter.bytes), payloadFilters_append c hcount hfs, if_pos rfl]
  have hbyte : byteAt r.payload 0 = c := by
    rw [hpayload, List.append_assoc, byteAt, field_append_self (le_length 1 c), ofLe_le_of_lt (hc.trans (by decide))]
  refine ends_of_checks_pass (f := fun _ => filterSetTaken) execFilterSet rfl (execFilterSet_eq s) ho (aux_zero_ne_one haux)
    ?_ ?_
  · refine firstFail_changeable hchange <| firstFail_skip (aux_zero haux) <|
      firstFail_skip (decide_eq_false (by rw [hbyte]; exact Nat.not_lt.2 (Nat.le_of_lt_succ hc))) <|
      firstFail_skip (congrArg Option.isNone hread) <| firstFail_skip ?_ rfl
    rw [hbyte]
    exact congrArg not hactive
  · have htaken : filterSetTaken r s.quiet = answer r .ok r.payload (writeFilters c fs s.quiet) := by
      rw [filterSetTaken, hread, hbyte, Option.getD_some, filterRecord_written hc, ← hpayload]
    exact htaken

/-! ### Templates -/

/-- A template in range (Table 11.2). -/
def Template.InRange (x : Template) : Prop :=
  x.offset ≤ 1499 ∧ 1 ≤ x.pattern.length ∧ x.pattern.length ≤ 64 ∧ x.mask.length = x.pattern.length
    ∧ 60 ≤ x.reply.length ∧ x.reply.length ≤ 128

/-- The bytes that carry template `k` (Table 11.2). -/
def Template.bytes (k : Nat) (x : Template) : List Byte :=
  le 1 k ++ [1#8] ++ le 2 x.offset ++ le 1 x.pattern.length ++ le 1 x.reply.length ++ x.pattern ++ x.mask ++ x.reply

theorem byteAt_past (h : p.length ≤ k) : byteAt p k = 0 := by
  rw [byteAt, field, slice, List.drop_eq_nil_of_le h]
  rfl

/-- The payloads that carry no template (R185). -/
theorem payloadTemplate_isNone_iff (p : List Byte) :
    (payloadTemplate p).isNone = true ↔
      3 < byteAt p 0 ∨ 1 < byteAt p 1 ∨ byteAt p 1 = 0 ∧ p.length ≠ 2
        ∨ byteAt p 1 = 1 ∧ (1499 < field p 2 2 ∨ byteAt p 4 < 1 ∨ 64 < byteAt p 4 ∨ byteAt p 5 < 60 ∨ 128 < byteAt p 5
          ∨ p.length ≠ 6 + 2 * byteAt p 4 + byteAt p 5) := by
  have hshort : p.length < 2 → byteAt p 1 = 0 := fun h => byteAt_past (Nat.le_of_lt_succ h)
  simp only [payloadTemplate]
  split
  next h => simp; omega
  next h =>
    split
    next h0 =>
      split
      next h2 => simp; omega
      next h2 => simp; omega
    next h0 =>
      split
      next h1 => simp; omega
      next h1 => simp; omega

section
variable {x : Template}

theorem Template.bytes_append (k : Nat) (x : Template) (q : List Byte) :
    x.bytes k ++ q = le 1 k ++ ([1#8] ++ (le 2 x.offset ++ (le 1 x.pattern.length ++ (le 1 x.reply.length
      ++ (x.pattern ++ (x.mask ++ (x.reply ++ q))))))) := by
  simp only [Template.bytes, List.append_assoc]

theorem byteAt_bytes_zero (hk : k < 4) (q : List Byte) : byteAt (x.bytes k ++ q) 0 = k := by
  rw [Template.bytes_append, byteAt, field_append_self (le_length 1 k), ofLe_le_of_lt (hk.trans (by decide))]

variable (hx : x.InRange)
include hx

theorem Template.bytes_length (k : Nat) : (x.bytes k).length = 6 + 2 * x.pattern.length + x.reply.length := by
  obtain ⟨-, -, -, hmask, -, -⟩ := hx
  simp only [Template.bytes, List.length_append, le_length, List.length_singleton, hmask]
  omega

/-- The header fields of a template's bytes (Table 11.2). -/
theorem bytes_fields (k : Nat) (q : List Byte) :
    byteAt (x.bytes k ++ q) 1 = 1 ∧ field (x.bytes k ++ q) 2 2 = x.offset
      ∧ byteAt (x.bytes k ++ q) 4 = x.pattern.length ∧ byteAt (x.bytes k ++ q) 5 = x.reply.length := by
  obtain ⟨hoff, -, hpattern, -, -, hreply⟩ := hx
  have hoff' : ofLe (le 2 x.offset) = x.offset := ofLe_le_of_lt (hoff.trans_lt (by decide))
  have hpattern' : ofLe (le 1 x.pattern.length) = x.pattern.length := ofLe_le_of_lt (hpattern.trans_lt (by decide))
  have hreply' : ofLe (le 1 x.reply.length) = x.reply.length := ofLe_le_of_lt (hreply.trans_lt (by decide))
  rw [Template.bytes_append]
  refine ⟨rfl, ?_, ?_, ?_⟩
  · exact (by simp : _ = ofLe (le 2 x.offset)).trans hoff'
  · exact (by simp [byteAt] : _ = ofLe (le 1 x.pattern.length)).trans hpattern'
  · exact (by simp [byteAt] : _ = ofLe (le 1 x.reply.length)).trans hreply'

/-- The three runs of a template's bytes (Table 11.2). -/
theorem bytes_runs (k : Nat) (q : List Byte) :
    slice (x.bytes k ++ q) 6 x.pattern.length = x.pattern
      ∧ slice (x.bytes k ++ q) (6 + x.pattern.length) x.pattern.length = x.mask
      ∧ slice (x.bytes k ++ q) (6 + 2 * x.pattern.length) x.reply.length = x.reply := by
  obtain ⟨-, -, -, hmask, -, -⟩ := hx
  have hruns (m len : Nat) : slice (x.bytes k ++ q) (6 + m) len = slice (x.pattern ++ (x.mask ++ (x.reply ++ q))) m len := by
    have hhead : x.bytes k ++ q = (le 1 k ++ [1#8] ++ le 2 x.offset ++ le 1 x.pattern.length ++ le 1 x.reply.length)
        ++ (x.pattern ++ (x.mask ++ (x.reply ++ q))) := by simp only [Template.bytes, List.append_assoc]
    rw [hhead]
    exact slice_append_add rfl
  refine ⟨(hruns 0 _).trans (slice_append_self rfl), ?_, ?_⟩
  · rw [hruns, slice_append_skip (Nat.le_refl _), Nat.sub_self, slice_append_self hmask]
  · rw [hruns, slice_append_add (m := x.mask.length) (by omega), slice_append_skip (Nat.le_refl _), Nat.sub_self,
      slice_append_self rfl]

theorem payloadTemplate_bytes (hk : k < 4) : payloadTemplate (x.bytes k) = some (some x) := by
  have hlen : (x.bytes k).length = 6 + 2 * x.pattern.length + x.reply.length := Template.bytes_length hx k
  have h0 : byteAt (x.bytes k ++ []) 0 = k := byteAt_bytes_zero hk []
  obtain ⟨h1, hoff, hpattern, hreply⟩ := bytes_fields hx k []
  obtain ⟨hr1, hr2, hr3⟩ := bytes_runs hx k []
  rw [List.append_nil] at h0 h1 hoff hpattern hreply hr1 hr2 hr3
  obtain ⟨hoffset, hmin, hmax, hmask, hrmin, hrmax⟩ := hx
  have hfirst : ¬ ((x.bytes k).length < 2 ∨ 3 < k ∨ 1 < 1) := by omega
  have hrange : ¬ (1499 < x.offset ∨ x.pattern.length < 1 ∨ 64 < x.pattern.length ∨ x.reply.length < 60
      ∨ 128 < x.reply.length ∨ (x.bytes k).length ≠ 6 + 2 * x.pattern.length + x.reply.length) := by omega
  simp only [payloadTemplate, h0, h1, hoff, hpattern, hreply, hr1, hr2, hr3, if_neg hfirst, if_neg hrange,
    if_neg Nat.one_ne_zero]

theorem payloadTemplate_longer (k : Nat) {extra : List Byte} (hextra : extra ≠ []) :
    (payloadTemplate (x.bytes k ++ extra)).isNone = true := by
  obtain ⟨h1, -, hpattern, hreply⟩ := bytes_fields hx k extra
  rw [payloadTemplate_isNone_iff, h1, hpattern, hreply, List.length_append, Template.bytes_length hx]
  have hpos : 0 < extra.length := List.length_pos_iff.2 hextra
  omega

end

theorem payloadTemplate_absent (hk : k < 4) : payloadTemplate (le 1 k ++ [0#8]) = some none := by
  have h0 : byteAt (le 1 k ++ [0#8]) 0 = k := by
    rw [byteAt, field_append_self (le_length 1 k), ofLe_le_of_lt (hk.trans (by decide))]
  have h1 : byteAt (le 1 k ++ [0#8]) 1 = 0 := rfl
  have hlen : (le 1 k ++ [0#8]).length = 2 := rfl
  have hfirst : ¬ (2 < 2 ∨ 3 < k ∨ 1 < 0) := by omega
  simp only [payloadTemplate, h0, h1, hlen, if_neg hfirst, if_true]

/-- TEMPLATE_SET past its checks (R185). -/
def templateSetTaken (r : Request) (s : State) : State :=
  let s := writeTemplate (byteAt r.payload 0) ((payloadTemplate r.payload).getD none) s
  answer r .ok (s.templateRecord (byteAt r.payload 0)) s

/-- The checks of TEMPLATE_SET (R185). -/
def templateSetChecks (r : Request) : List (Bool × Status) :=
  [(decide (r.auxNat ≠ 0), .badField), ((payloadTemplate r.payload).isNone, .badField)]

theorem execTemplateSet_eq (s : State) :
    execTemplateSet s =
      take .templateSet (fun r => decide (r.auxNat ≠ 1)) (fun r s => guarded (templateSetChecks r) r (templateSetTaken r) s) s :=
  rfl

theorem templateSet_refusedFirst (ho : Offered s .templateSet r) (haux : r.aux ≠ 1#16) :
    RefusedFirst .templateSet s r
      [(r.aux ≠ 0#16 ∨ 3 < byteAt r.payload 0 ∨ 1 < byteAt r.payload 1 ∨ byteAt r.payload 1 = 0 ∧ r.payload.length ≠ 2
          ∨ byteAt r.payload 1 = 1 ∧ (1499 < field r.payload 2 2 ∨ byteAt r.payload 4 < 1 ∨ 64 < byteAt r.payload 4
            ∨ byteAt r.payload 5 < 60 ∨ 128 < byteAt r.payload 5
            ∨ r.payload.length ≠ 6 + 2 * byteAt r.payload 4 + byteAt r.payload 5), .badField)] :=
  refusedFirst_of_covers (checks := fun _ => templateSetChecks) (f := fun _ => templateSetTaken) execTemplateSet rfl
    (execTemplateSet_eq s) ho (aux_ne_one haux) <|
    .or (aux_ne_zero_iff r) <| .one (payloadTemplate_isNone_iff _) (.done _)

theorem template_written (hk : k < 4) (y : Option Template) (s : State) : (writeTemplate k y s).template k = y :=
  slot_put_self _ _ _ _ hk

theorem templateRecord_none (h : s.template k = none) : s.templateRecord k = le 1 k ++ [0#8] := by
  rw [State.templateRecord, h]

theorem templateSet_answers {y : Option Template} (ho : Offered s .templateSet r) (haux : r.aux = 0#16)
    (hbyte : byteAt r.payload 0 = k) (hread : payloadTemplate r.payload = some y) :
    Answers .templateSet s r .ok ((writeTemplate k y s.quiet).templateRecord k)
      { s.quiet with nwu.templates := put s.nwu.templates k y } := by
  refine ends_of_checks_pass (checks := fun _ => templateSetChecks) (f := fun _ => templateSetTaken) execTemplateSet rfl
    (execTemplateSet_eq s) ho (aux_zero_ne_one haux) ?_ ?_
  · exact firstFail_skip (aux_zero haux) <| firstFail_skip (congrArg Option.isNone hread) rfl
  · rw [templateSetTaken, hbyte, hread, Option.getD_some]
    exact congrArg (answer r .ok _) rfl

/-- Settles O52: what is spelled is read part by part, and what is read spells its payload. -/
theorem filtersAndTemplates : Obligations.FiltersAndTemplates := by
  refine ⟨fun s r ho hchange haux => filterSet_refusedFirst ho hchange haux,
    fun s r ho haux => templateSet_refusedFirst ho haux, fun s r c fs ho hchange haux hc hactive hcount hfs => ?_,
    fun s r k x ho haux hk => ⟨fun hpayload => ?_, fun hoff hmin hmax hmask hrmin hrmax => ?_⟩⟩
  · intro bytes
    refine ⟨fun hpayload => ?_, fun extra hextra hpayload => ?_⟩
    · rw [← hpayload]
      exact filterSet_answers ho hchange haux hc hactive hcount hfs hpayload
    · refine (filterSet_refusedFirst ho hchange (by rw [haux]; decide)).1 (.inr (.inr ?_))
      rw [← payloadFilters_isNone_iff, hpayload]
      exact congrArg Option.isNone ((payloadFilters_append c hcount hfs extra).trans (if_neg hextra))
  · have hread : payloadTemplate r.payload = some none := by
      rw [hpayload]
      exact payloadTemplate_absent hk
    have hbyte : byteAt r.payload 0 = k := by
      rw [hpayload, byteAt, field_append_self (le_length 1 k), ofLe_le_of_lt (hk.trans (by decide))]
    have hanswer := templateSet_answers ho haux hbyte hread
    rwa [templateRecord_none (template_written hk none s.quiet)] at hanswer
  · intro bytes
    have hx : x.InRange := ⟨hoff, hmin, hmax, hmask, hrmin, hrmax⟩
    refine ⟨fun hpayload => ?_, fun extra hextra hpayload => ?_⟩
    · have hbyte : byteAt r.payload 0 = k := by
        rw [hpayload, ← List.append_nil bytes]
        exact byteAt_bytes_zero hk []
      have hread : payloadTemplate r.payload = some (some x) := by
        rw [hpayload]
        exact payloadTemplate_bytes hx hk
      have hanswer := templateSet_answers ho haux hbyte hread
      rwa [templateRecord_some (template_written hk (some x) s.quiet)] at hanswer
    · refine (templateSet_refusedFirst ho (by rw [haux]; decide)).1 (.inr ?_)
      rw [← payloadTemplate_isNone_iff, hpayload]
      exact payloadTemplate_longer hx k hextra

end Sys2Proof.Machine
end

section
/-!
PROOFS. A link reset ends every session: what the aborts, the closes and the releases of manual holds leave (R9, R65, R154,
R158, R172).
-/

namespace Sys2Proof.Machine

variable {s t : State} {i j k : Nat}

/-! ### One step for each number -/

/-- A fold over the numbers below `n` in which each step brings about its own `P` and keeps the others'. -/
theorem foldl_range_each {σ : Type} {inv : σ → Prop} {P : Nat → σ → Prop} {f : σ → Nat → σ} (n : Nat)
    (hinv : ∀ u i, inv u → inv (f u i)) (hset : ∀ u, ∀ i < n, inv u → P i (f u i))
    (hkeep : ∀ u i j, j < n → P j u → P j (f u i)) (u : σ) (hu : inv u) :
    inv ((List.range n).foldl f u) ∧ ∀ j < n, P j ((List.range n).foldl f u) := by
  have hupto (m : Nat) (hm : m ≤ n) : inv ((List.range m).foldl f u) ∧ ∀ j < m, P j ((List.range m).foldl f u) := by
    induction m with
    | zero => exact ⟨hu, fun j hj => absurd hj (Nat.not_lt_zero j)⟩
    | succ m ih =>
      obtain ⟨hinvm, hall⟩ := ih (Nat.le_of_succ_le hm)
      rw [List.range_succ, List.foldl_append, List.foldl_cons, List.foldl_nil]
      refine ⟨hinv _ m hinvm, fun j hj => ?_⟩
      rcases Nat.lt_succ_iff_lt_or_eq.1 hj with hj | rfl
      · exact hkeep _ m j (hj.trans hm) (hall j hj)
      · exact hset _ j hm hinvm
  exact hupto n (Nat.le_refl n)

/-! ### A context that is CLOSED stays CLOSED -/

theorem closed_put {v : Vector Stream 8} (h : (slot Stream.closed v j).state = .closed) (k : Nat) :
    (slot Stream.closed (put v k Stream.closed) j).state = .closed := by
  by_cases hjk : j = k
  · subst hjk
    by_cases hj : j < 8
    · rw [slot_put_self _ _ _ _ hj]
      rfl
    · rw [slot_outside _ _ _ (Nat.le_of_not_lt hj)]
      rfl
  · rwa [slot_put_other _ _ _ _ _ hjk]

theorem closed_completeFinished (h : (s.stream j).state = .closed) : ((completeFinished s).stream j).state = .closed := by
  refine foldl_keeps (fun u : State => (u.stream j).state = .closed) _ _ s h fun u k hu => ?_
  split
  · have hstreams : (completeStream k u).streams = put u.streams k Stream.closed := by
      rw [completeStream_eq]
      simp [completed]
    rw [State.stream, hstreams]
    exact closed_put hu k
  · exact hu

theorem closed_settleHandle (hj : j < 8) (h : (s.stream j).state = .closed) (n : Nat) :
    ((settleHandle n s).stream j).state = .closed := by
  rw [settleHandle_eq]
  refine closed_completeFinished ?_
  have hslot : ({ s with streams := s.streams.map (Stream.withoutPending n) } : State).stream j =
      (s.stream j).withoutPending n := slot_map _ _ _ hj
  rw [hslot, Stream.withoutPending, if_pos h]
  exact h

theorem closed_of_streams (h : (s.stream j).state = .closed) (ht : t.streams = s.streams) : (t.stream j).state = .closed := by
  rw [State.stream, ht]
  exact h

theorem closed_abortItem {acc : Nat × State} (hj : j < 8) (h : (acc.2.stream j).state = .closed) (it : Item) :
    ((abortItem i acc it).2.stream j).state = .closed := by
  obtain ⟨dropped, u⟩ := acc
  simp only [abortItem]
  cases hkind : it.kind with
  | owedNew n => exact closed_of_streams h (by simp)
  | owedRewrite n =>
    have hreturned : ((returnReservation (u.setChunk n { u.chunk n with state := .damaged, writer := none })).stream j).state
        = .closed := closed_of_streams h rfl
    dsimp only
    rw [revertRewrite]
    exact closed_settleHandle hj hreturned n
  | owedPrivate d length => exact closed_of_streams h (by simp)
  | pending n => exact h

theorem closed_abortStream (hj : j < 8) (h : (s.stream j).state = .closed) (i : Nat) :
    ((abortStream i s).stream j).state = .closed := by
  have hsent : ((sendDeferred i .aborted s).stream j).state = .closed := closed_of_streams h (by simp)
  have hreleased : ((releaseItems i (sendDeferred i .aborted s)).stream j).state = .closed :=
    foldl_keeps (fun acc : Nat × State => (acc.2.stream j).state = .closed) (abortItem i) _ (0, _) hsent
      fun _ it hacc => closed_abortItem hj hacc it
  have hstreams (u : State) (x : Stream) (hu : (u.stream j).state = .closed) :
      ((finishAbort i x (u.setStream i { u.stream i with outstanding := [] })).stream j).state = .closed := by
    by_cases hij : j = i
    · subst hij
      exact congrArg Stream.state (stream_setStream hj Stream.closed)
    · have hput : ((u.setStream i { u.stream i with outstanding := [] }).stream j).state = .closed := by
        rw [State.stream, State.setStream, slot_put_other _ _ _ _ _ hij]
        exact hu
      simp only [finishAbort]
      rw [State.stream, State.setStream, slot_put_other _ _ _ _ _ hij]
      refine closed_of_streams hput ?_
      split <;> split <;> simp
  exact hstreams (releaseItems i (sendDeferred i .aborted s)) ((sendDeferred i .aborted s).stream i) hreleased

theorem abortStream_closes (hi : i < 8) (s : State) : ((abortStream i s).stream i).state = .closed :=
  congrArg Stream.state (stream_setStream hi Stream.closed)

/-! ### The link and the clients under aborts -/

/-- No response is kept or queued, no packet has a place, and the clients are those of `c0` but for their charges. -/
def Dropped (c0 : Nat → Client) (s : State) : Prop :=
  s.slc.places = [] ∧ s.slc.outgoing = [] ∧ s.slc.deferred = Vector.replicate 8 none
    ∧ ∀ k, { s.client k with charged := 0 } = c0 k

theorem Dropped.of_eq {c0 : Nat → Client} (h : Dropped c0 s) (hslc : t.slc = s.slc) (hclients : t.clients = s.clients) :
    Dropped c0 t := by
  simpa only [Dropped, hslc, State.client, hclients] using h

theorem uncharged_setClient (s : State) (c m k : Nat) :
    ({ (s.setClient c { s.client c with charged := m }).client k with charged := 0 } : Client)
      = { s.client k with charged := 0 } := by
  by_cases hk : k = c
  · subst hk
    by_cases hlt : k < 16
    · have hself : (s.setClient k { s.client k with charged := m }).client k = { s.client k with charged := m } :=
        slot_put_self _ _ _ _ hlt
      rw [hself]
    · have hout (v : Vector Client 16) : slot (Client.free 0) v k = Client.free 0 :=
        slot_outside _ _ _ (Nat.le_of_not_lt hlt)
      simp only [State.client, hout]
  · rw [client_setClient_other hk]

theorem takenBetween_rest (h : s.slc.places = []) (n : Nat) : takenBetween n s = s := by
  have hnone : s.slc.offered .clt = none := by rw [Slc.offered, h]; rfl
  cases n with
  | zero => rfl
  | succ n => rw [takenBetween, hnone]

theorem slot_replicate_none (k : Nat) : slot (none : Option (Byte × Half)) (Vector.replicate 8 none) k = none := by
  by_cases hk : k < 8
  · simp [slot, hk]
  · exact slot_outside _ _ _ (Nat.le_of_not_lt hk)

theorem recordKept_dropped (c0 : Nat → Client) : RecordKept (Dropped c0) where
  streams _ _ h := h
  object _ _ _ h := h
  coll _ _ _ h := h
  pages _ _ h := h
  chunk _ _ _ h := h
  charge s c g n h := by
    obtain ⟨hplaces, hout, hdeferred, hclients⟩ := h
    rw [charge]
    split
    · exact ⟨hplaces, hout, hdeferred, fun k => (uncharged_setClient s c _ k).trans (hclients k)⟩
    · exact ⟨hplaces, hout, hdeferred, hclients⟩
  refund s c g n h := by
    obtain ⟨hplaces, hout, hdeferred, hclients⟩ := h
    simp only [refund]
    split
    · exact ⟨hplaces, hout, hdeferred, fun k => (uncharged_setClient s c _ k).trans (hclients k)⟩
    · exact ⟨hplaces, hout, hdeferred, hclients⟩
  deferred s k st h := by
    obtain ⟨hplaces, hout, hdeferred, hclients⟩ := h
    rw [sendDeferred_none st (by rw [hdeferred, slot_replicate_none])]
    exact ⟨hplaces, hout, hdeferred, hclients⟩
  release _ _ _ h := h
  walk _ _ _ h := h
  extent _ _ _ _ h := h
  check s h := h.of_eq (by simp) (by simp)
  between s n h := by
    rw [takenBetween_rest (s := s.spend 1) h.1 n]
    exact h
  plans _ _ h := h

/-! ### The manual holds -/

theorem manual_dropHold (x : Bay) : (x.dropHold .manual).manual = false := rfl

/-- A release of a manual hold leaves the bay without one, and leaves those of the others. -/
theorem manual_release (cfg : Settings) (b : Bpc) (i j : Nat) :
    ((b.release cfg .manual i).bay j).manual = (if j = i then false else (b.bay j).manual) := by
  have hset {x : Bay} (hx : x.manual = false) : ((b.setBay i x).bay j).manual = (if j = i then false else (b.bay j).manual) := by
    by_cases hi : i < 4
    · rw [b.bay_setBay x hi]
      split
      · exact hx
      · rfl
    · rw [Bpc.setBay, put_outside _ _ _ (Nat.le_of_not_lt hi)]
      split
      next hji =>
        subst hji
        rw [Bpc.bay, slot_outside _ _ _ (Nat.le_of_not_lt hi)]
        rfl
      next => rfl
  by_cases hcount : (b.bay i).count .manual = 0
  · have hnone : (b.bay i).manual = false := Bool.eq_false_iff.2 fun h => (manual_iff _).1 h hcount
    rw [release_dropped hcount]
    split
    next hji => rw [hji, hnone]
    next => rfl
  · by_cases hlast : ((b.bay i).dropHold .manual).holdCount = 0
    · cases hstate : (b.bay i).state with
      | queued => rw [release_last_queued hcount hlast hstate, Bpc.manual_examine]; exact hset rfl
      | ready => rw [release_last_ready hcount hlast hstate]; exact hset (Bay.manual_letDown _ _ _)
      | spinningDown => rw [release_last_spinningDown hcount hlast hstate]; exact hset rfl
      | spinningUp => rw [release_last_plain hcount hlast (.inr (.inr hstate))]; exact hset rfl
      | empty => rw [release_last_plain hcount hlast (.inl hstate)]; exact hset rfl
      | off => rw [release_last_plain hcount hlast (.inr (.inl hstate))]; exact hset rfl
    · rw [release_more hcount hlast]
      exact hset rfl

/-! ### The blocks after a link reset -/

/-- The records as the reset leaves them before a standby entry is abandoned. -/
def endedSessions (cause : StartCause) (s : State) : State := resetBlocks (resetLink cause s)

theorem linkReset_eq (cause : StartCause) (s : State) : linkReset cause s = resetPower (endedSessions cause s) := rfl

/-- The clients but for their charges. -/
def uncharged (s : State) (k : Nat) : Client := { s.client k with charged := 0 }

theorem abortAllStreams_eq (s : State) :
    abortAllStreams s = (List.range 8).foldl (fun u i => if (u.stream i).state = .closed then u else abortStream i u) s := by
  have hstep (u : State) (i : Nat) : (if (u.stream i).state ≠ .closed then abortStream i u else u)
      = if (u.stream i).state = .closed then u else abortStream i u := ite_not _ _ _
  simp only [abortAllStreams, hstep]

theorem closeAllPlans_eq (s : State) :
    closeAllPlans s = (List.range 16).foldl (fun u p => if (u.plan p).state = .free then u else closePlan p u) s := by
  have hstep (u : State) (p : Nat) : (if (u.plan p).state ≠ .free then closePlan p u else u)
      = if (u.plan p).state = .free then u else closePlan p u := ite_not _ _ _
  simp only [closeAllPlans, hstep]

/-- The aborts close every context and leave the link and the clients' other fields. -/
theorem abortAllStreams_closes {c0 : Nat → Client} (h : Dropped c0 s) :
    Dropped c0 (abortAllStreams s) ∧ ∀ i < 8, ((abortAllStreams s).stream i).state = .closed := by
  rw [abortAllStreams_eq]
  refine foldl_range_each (P := fun i u => (u.stream i).state = .closed) 8 (fun u i hu => ?_) (fun u i hi hu => ?_)
    (fun u i j hj hu => ?_) s h
  · split
    · exact hu
    · exact (recordKept_dropped c0).abortStream hu i
  · split
    next hclosed => exact hclosed
    next => exact abortStream_closes hi u
  · split
    · exact hu
    · exact closed_abortStream hj hu i

theorem closeAllPlans_frees (s : State) : ∀ p < 16, ((closeAllPlans s).plan p).state = .free := by
  rw [closeAllPlans_eq]
  refine (foldl_range_each (inv := fun _ => True) (P := fun p u => (u.plan p).state = .free) 16 (fun _ _ _ => trivial)
    (fun u p hp _ => ?_) (fun u p q hq hu => ?_) s trivial).2
  · split
    next hfree => exact hfree
    next =>
      rw [State.plan, closePlan_plans, slot_put_self _ _ _ _ hp]
      rfl
  · split
    · exact hu
    · rw [State.plan, closePlan_plans]
      by_cases hqp : q = p
      · rw [hqp, slot_put_self _ _ _ _ (hqp ▸ hq)]
        rfl
      · rwa [slot_put_other _ _ _ _ _ hqp]

theorem clearManualHolds_clears (s : State) : ∀ i < 4, ((clearManualHolds s).bay i).manual = false := by
  have hbays : (clearManualHolds s).bpc =
      (List.range 4).foldl (fun b i => b.release s.slc.settings .manual i) s.bpc := by
    rw [clearManualHolds, releases_eq]
  intro i hi
  rw [State.bay, hbays]
  refine (foldl_range_each (inv := fun _ => True) (P := fun i (b : Bpc) => (b.bay i).manual = false) 4 (fun _ _ _ => trivial)
    (fun b i _ _ => ?_) (fun b i j _ hj => ?_) s.bpc trivial).2 i hi
  · rw [manual_release, if_pos rfl]
  · rw [manual_release, hj, ite_self]

theorem dropped_resetLink (cause : StartCause) (s : State) : Dropped (uncharged s) (resetLink cause s) :=
  ⟨rfl, rfl, rfl, fun _ => rfl⟩

section
variable (cause : StartCause) (s : State)

theorem endedSessions_dropped : Dropped (uncharged s) (endedSessions cause s) :=
  (abortAllStreams_closes (dropped_resetLink cause s)).1.of_eq (by simp [endedSessions, resetBlocks])
    (by simp [endedSessions, resetBlocks])

theorem endedSessions_stream (hi : i < 8) : ((endedSessions cause s).stream i).state = .closed :=
  closed_of_streams ((abortAllStreams_closes (dropped_resetLink cause s)).2 i hi) (by simp [endedSessions, resetBlocks])

theorem endedSessions_plan {p : Nat} (hp : p < 16) : ((endedSessions cause s).plan p).state = .free := by
  have hrpb : (endedSessions cause s).rpb = (closeAllPlans (abortAllStreams (resetLink cause s))).rpb := by
    simp [endedSessions, resetBlocks]
  rw [State.plan, hrpb]
  exact closeAllPlans_frees _ p hp

theorem endedSessions_manual (hi : i < 4) : ((endedSessions cause s).bay i).manual = false :=
  clearManualHolds_clears (closeAllPlans (abortAllStreams (resetLink cause s))) i hi

theorem endedSessions_client (k : Nat) :
    (endedSessions cause s).client k = { s.client k with charged := ((endedSessions cause s).client k).charged } := by
  obtain ⟨-, -, -, hclients⟩ := endedSessions_dropped cause s
  exact congrArg (fun x : Client => { x with charged := ((endedSessions cause s).client k).charged }) (hclients k)

theorem endedSessions_nwu : (endedSessions cause s).nwu = { s.nwu with receive := [] } := by
  have hnwu : (clearManualHolds (closeAllPlans (abortAllStreams (resetLink cause s)))).nwu = s.nwu := by
    simp [resetLink]
  exact congrArg (fun n : Nwu => { n with receive := [] }) hnwu

/-- The sessions' end, part by part. -/
theorem endedSessions_eq :
    endedSessions cause s =
      { closeAllPlans (abortAllStreams (resetLink cause s)) with
        bpc := (List.range 4).foldl (fun b i => b.release s.slc.settings .manual i)
          (closeAllPlans (abortAllStreams (resetLink cause s))).bpc
        nwu.receive := [] } := by
  have hsettings : (closeAllPlans (abortAllStreams (resetLink cause s))).slc.settings = s.slc.settings := by simp
  simp only [endedSessions, resetBlocks]
  rw [clearManualHolds, releases_eq, hsettings]

end

/-! ### The box after a link reset -/

/-- A link reset leaves what an abandoned entry leaves as it does its blocks. -/
theorem linkReset_field {β : Type} (cause : StartCause) (s : State) (f : State → β)
    (h : ∀ u, f (abandoned .linkReset u) = f u) : f (linkReset cause s) = f (endedSessions cause s) := by
  have hlink : (endedSessions cause s).slc.link ≠ .sleep := by simp [endedSessions, resetLink]
  rw [linkReset_eq, resetPower]
  split
  · rw [abandonStandby_awake _ hlink, h]
  · rfl

theorem abandoned_manual (why : StandbyFailure) (s : State) (hi : i < 4) :
    ((abandoned why s).bay i).manual = (s.bay i).manual := by
  have hbay : (abandoned why s).bay i = (s.bpc.withdrawForRun s.slc.settings).bay i := rfl
  rw [hbay, withdrawForRun_bay _ _ hi]
  split <;> rfl

theorem abandoned_latched (why : StandbyFailure) (s : State) :
    (abandoned why s).slc.latched = s.slc.latched ||| Notice.standbyFailed.set := rfl

theorem abandoned_client (why : StandbyFailure) (s : State) (hk : k < 16) :
    (abandoned why s).client k = { s.client k with holdStatus := .empty, held := [] } :=
  client_enterRun { s with
    bxp.lastFailure := why
    bpc := s.bpc.withdrawForRun s.slc.settings
    slc.sleepReq := false } hk

theorem linkReset_abandons (cause : StartCause) (s : State) (h : s.bxp.power = .standbyEntry) :
    linkReset cause s = abandoned .linkReset (endedSessions cause s) := by
  have hlink : (endedSessions cause s).slc.link ≠ .sleep := by simp [endedSessions, resetLink]
  have hpower : (endedSessions cause s).bxp.power = .standbyEntry := by simpa [endedSessions] using h
  rw [linkReset_eq, resetPower, if_pos hpower, abandonStandby_awake _ hlink]

theorem linkReset_keeps (cause : StartCause) (s : State) (h : s.bxp.power ≠ .standbyEntry) :
    linkReset cause s = endedSessions cause s := by
  have hpower : (endedSessions cause s).bxp.power ≠ .standbyEntry := by simpa [endedSessions] using h
  rw [linkReset_eq, resetPower, if_neg hpower]

theorem linkReset_stream (cause : StartCause) (s : State) (hi : i < 8) : ((linkReset cause s).stream i).state = .closed :=
  (linkReset_field cause s (fun u => (u.stream i).state) fun _ => rfl).trans (endedSessions_stream cause s hi)

theorem linkReset_plan (cause : StartCause) (s : State) {p : Nat} (hp : p < 16) : ((linkReset cause s).plan p).state = .free :=
  (linkReset_field cause s (fun u => (u.plan p).state) fun _ => rfl).trans (endedSessions_plan cause s hp)

theorem linkReset_manual (cause : StartCause) (s : State) (hi : i < 4) : ((linkReset cause s).bay i).manual = false :=
  (linkReset_field cause s (fun u => (u.bay i).manual) fun u => abandoned_manual _ u hi).trans
    (endedSessions_manual cause s hi)

theorem linkReset_sleepReq (cause : StartCause) (s : State) : (linkReset cause s).slc.sleepReq = false := by
  by_cases hpower : s.bxp.power = .standbyEntry
  · rw [linkReset_abandons cause s hpower]
    rfl
  · rw [linkReset_keeps cause s hpower]
    simp [endedSessions, resetLink, Slc.drop]

/-- Settles O13: the sessions end one after another, and each of the rest is what no session's end touches. -/
theorem linkResetEndsEverySession : Obligations.LinkResetEndsEverySession := by
  intro s c hc resets dropped aborted closed ended t
  have hdropped : resetLink c.2 s.quiet = dropped := by
    rw [resetLink, slc_drop_eq]
    rfl
  have hclosed : closeAllPlans (abortAllStreams (resetLink c.2 s.quiet)) = closed := by
    rw [hdropped, abortAllStreams_eq, closeAllPlans_eq]
  have hended : endedSessions c.2 s.quiet = ended := by
    rw [endedSessions_eq, hclosed]
    rfl
  have hpower : ended.bxp.power = s.bxp.power := by
    rw [← hended]
    simp [endedSessions]
  have ht : linkReset c.2 s.quiet = t := by
    rw [linkReset_eq, resetPower, hended, hpower]
  have hends : (¬ resets → Ends c.1 s s.quiet) ∧ (resets → Ends c.1 s t) := by
    rw [← ht]
    clear_value dropped aborted closed ended t
    simp only [List.mem_cons, List.not_mem_nil, or_false] at hc
    rcases hc with rfl | rfl
    · have hiff : (s.slc.link = .training ∨ s.slc.carries = true) ↔ resets := by
        rw [carries_iff]
        simp only [resets, true_and]
        rw [or_comm, or_assoc]
      exact ⟨fun h => ends_of_event rfl (if_neg fun hr => h (hiff.1 hr)), fun h => ends_of_event rfl (if_pos (hiff.2 h))⟩
    · have hiff : s.slc.carries = true ↔ resets := by
        rw [carries_iff]
        simp only [resets, reduceCtorEq, false_and, or_false]
      exact ⟨fun h => ends_of_event rfl (if_neg fun hr => h (hiff.1 hr)), fun h => ends_of_event rfl (if_pos (hiff.2 h))⟩
  refine ⟨hends.1, fun hr => ⟨hends.2 hr, ?_⟩⟩
  clear_value t
  clear hends hr hpower hended ended hclosed closed aborted hdropped dropped resets hc
  subst ht
  generalize c.2 = cause
  obtain ⟨hplaces, hout, hdeferred, -⟩ := endedSessions_dropped cause s.quiet
  refine ⟨?_, ?_, ?_, (linkReset_field cause s.quiet (fun u => u.slc.places) fun _ => rfl).trans hplaces,
    (linkReset_field cause s.quiet (fun u => u.slc.outgoing) fun _ => rfl).trans hout, ?_,
    (linkReset_field cause s.quiet (fun u => u.slc.deferred) fun _ => rfl).trans hdeferred, linkReset_sleepReq cause s.quiet,
    by simp, by simp, by simp, by simp, by simp,
    fun i hi => linkReset_stream cause s.quiet hi, fun p hp => linkReset_plan cause s.quiet hp,
    fun i hi => linkReset_manual cause s.quiet hi,
    fun hpow => ?_, fun hpow => ?_, by simp, by simp, by simp, by simp, by simp, by simp, by simp, by simp, by simp⟩
  · simp
  · exact (linkReset_field cause s.quiet (fun u => u.slc.startCause) fun _ => rfl).trans (by simp [endedSessions, resetLink])
  · exact (linkReset_field cause s.quiet (fun u => u.slc.receiver) fun _ => rfl).trans
      (by simp [endedSessions, resetLink, Slc.drop])
  · exact (linkReset_field cause s.quiet (fun u => u.slc.sending) fun _ => rfl).trans
      (by simp [endedSessions, resetLink, Slc.drop])
  · rw [linkReset_keeps cause s.quiet hpow]
    exact ⟨endedSessions_nwu cause s.quiet, by simp [endedSessions], by simp [endedSessions, resetLink, Slc.drop],
      fun k _ => endedSessions_client cause s.quiet k⟩
  · rw [linkReset_abandons cause s.quiet hpow]
    have hlatched : (endedSessions cause s.quiet).slc.latched = s.slc.latched := by
      simp [endedSessions, resetLink, Slc.drop]
    refine ⟨rfl, rfl, rfl, ?_, fun k hk => ?_⟩
    · rw [abandoned_latched, hlatched]
    · rw [abandoned_client _ _ hk, endedSessions_client cause s.quiet k]
      rfl

end Sys2Proof.Machine
end

section
/-!
PROOFS. The bucket search and the verdicts of a presented chunk (R34, R35, R56, R67, R70 to R78).
-/

namespace Sys2Proof.Machine

variable {s t : State} {r : Request} {d : Digest} {h i n : Nat}

/-! ### Digests and buckets (R56, R67) -/

/-- The first `k` bytes of a digest, read as one number, are its highest `8 k` bits. -/
theorem foldl_digestBytes {x : Nat} (hx : x < 2 ^ 256) {k : Nat} (hk : k ≤ 32) :
    ((List.range k).map fun i => BitVec.ofNat 8 (x >>> (8 * (31 - i)))).foldl (fun n b => n * 256 + b.toNat) 0
      = x >>> (8 * (32 - k)) := by
  induction k with
  | zero => exact (Nat.shiftRight_eq_zero x _ hx).symm
  | succ k ih =>
    have hexp : 8 * (32 - k) = 8 * (31 - k) + 8 := by omega
    have hexp' : 8 * (32 - (k + 1)) = 8 * (31 - k) := by omega
    have hhead : x >>> (8 * (32 - k)) = x >>> (8 * (31 - k)) / 256 := by
      rw [hexp, Nat.shiftRight_add, Nat.shiftRight_eq_div_pow _ 8]
    have hbyte : x >>> (8 * (31 - k)) / 256 * 256 + (BitVec.ofNat 8 (x >>> (8 * (31 - k)))).toNat = x >>> (8 * (31 - k)) := by
      rw [BitVec.toNat_ofNat]
      omega
    rw [List.range_succ, List.map_append, List.foldl_append, ih (Nat.le_of_succ_le hk), hexp', hhead]
    exact hbyte

theorem digestOf_digestBytes (d : Digest) : digestOf (digestBytes d) = d := by
  rw [digestOf, digestBytes, foldl_digestBytes d.isLt (Nat.le_refl 32)]
  exact BitVec.ofNat_toNat .. |>.trans (BitVec.setWidth_eq d)

theorem byteAt_digestBytes (d : Digest) {k : Nat} (hk : k < 32) :
    byteAt (digestBytes d) k = d.toNat >>> (8 * (31 - k)) % 256 := by
  have hget : (digestBytes d)[k]? = some (BitVec.ofNat 8 (d.toNat >>> (8 * (31 - k)))) := by
    simp [digestBytes, hk]
  rw [byteAt_of_getElem? hget, BitVec.toNat_ofNat]

theorem bucketOf_eq (d : Digest) :
    byteAt (digestBytes d) 0 * 8192 + byteAt (digestBytes d) 1 * 32 + byteAt (digestBytes d) 2 / 8 = bucketOf d := by
  have hd := d.isLt
  rw [byteAt_digestBytes d (by decide), byteAt_digestBytes d (by decide), byteAt_digestBytes d (by decide), bucketOf]
  simp only [Nat.shiftRight_eq_div_pow]
  omega

theorem bucketOf_lt (d : Digest) : bucketOf d < 2097152 := by
  have hd := d.isLt
  rw [bucketOf, Nat.shiftRight_eq_div_pow]
  omega

theorem bucketHandles_eq (b : Nat) : bucketHandles b = List.range' (b * 16) 16 := by
  exact (List.range'_eq_map_range ..).symm

theorem mem_bucketHandles (b h : Nat) : h ∈ bucketHandles b ↔ b * 16 ≤ h ∧ h < b * 16 + 16 := by
  rw [bucketHandles_eq, List.mem_range'_1]

theorem holds_iff (s : State) (d : Digest) (h : Nat) :
    (decide ((s.chunk h).state ≠ .empty) && decide ((s.chunk h).digest = d)) = true
      ↔ (s.chunk h).state ≠ .empty ∧ (s.chunk h).digest = d := by
  rw [Bool.and_eq_true, decide_eq_true_iff, decide_eq_true_iff]

theorem findDigest_some (hfind : s.findDigest d = some h) :
    bucketOf d * 16 ≤ h ∧ h < bucketOf d * 16 + 16 ∧ (s.chunk h).state ≠ .empty ∧ (s.chunk h).digest = d := by
  obtain ⟨hlow, hhigh⟩ := (mem_bucketHandles _ h).1 (List.mem_of_find?_eq_some hfind)
  exact ⟨hlow, hhigh, (holds_iff s d h).1 (List.find?_some (p := fun h =>
    decide ((s.chunk h).state ≠ .empty) && decide ((s.chunk h).digest = d)) hfind)⟩

theorem findDigest_none (hfind : s.findDigest d = none) (hlow : bucketOf d * 16 ≤ h) (hhigh : h < bucketOf d * 16 + 16) :
    ¬ ((s.chunk h).state ≠ .empty ∧ (s.chunk h).digest = d) := fun hholds =>
  List.find?_eq_none.1 hfind h ((mem_bucketHandles _ h).2 ⟨hlow, hhigh⟩) ((holds_iff s d h).2 hholds)

theorem emptyWay_eq_some_iff (s : State) (d : Digest) (h : Nat) :
    s.emptyWay d = some h ↔ bucketOf d * 16 ≤ h ∧ h < bucketOf d * 16 + 16 ∧ (s.chunk h).state = .empty
      ∧ ∀ k, bucketOf d * 16 ≤ k → k < h → (s.chunk k).state ≠ .empty := by
  rw [State.emptyWay, bucketHandles_eq, List.find?_range'_eq_some]
  simp only [decide_eq_true_iff, List.mem_range'_1, Bool.not_eq_true', decide_eq_false_iff_not]
  tauto

theorem emptyWay_eq_none_iff (s : State) (d : Digest) :
    s.emptyWay d = none ↔ ∀ h, bucketOf d * 16 ≤ h → h < bucketOf d * 16 + 16 → (s.chunk h).state ≠ .empty := by
  rw [State.emptyWay, List.find?_eq_none]
  simp only [mem_bucketHandles, decide_eq_true_iff, and_imp, ne_eq]

/-! ### The reference appended -/

/-- The object with the reference of a verdict (R94, R110). -/
def Obj.appended (o : Obj) (ref : Ref) (length : Nat) : Obj :=
  { o with recipe := o.recipe ++ [ref], length := o.length + length }

theorem Obj.appended_ne_free (o : Obj) (ref : Ref) (length : Nat) : o.appended ref length ≠ Obj.free := fun h =>
  List.append_ne_nil_of_right_ne_nil o.recipe (List.cons_ne_nil ref []) (congrArg Obj.recipe h)

theorem appendRef_eq (n : Nat) (ref : Ref) (length : Nat) (s : State) :
    appendRef n ref length s =
      { s with oct :=
        { s.oct with
          objects := Table.write Obj.free s.oct.objects n ((s.object n).appended ref length)
          freePages := s.oct.freePages + (recipeSlots (s.object n).recipe + 63) / 64
            - (recipeSlots (s.object n).recipe + ref.slots + 63) / 64 } } := by
  have hslots : recipeSlots ((s.object n).recipe ++ [ref]) = recipeSlots (s.object n).recipe + ref.slots := by
    simp [recipeSlots]
  have hread : (setRecipe n ((s.object n).recipe ++ [ref]) s).object n = { s.object n with recipe := (s.object n).recipe ++ [ref] } :=
    Table.read_write_used _ _ _ _ (Obj.appended_ne_free (s.object n) ref 0)
  have happend : appendRef n ref length s =
      (setRecipe n ((s.object n).recipe ++ [ref]) s).setObject n
        { (setRecipe n ((s.object n).recipe ++ [ref]) s).object n with
          length := ((setRecipe n ((s.object n).recipe ++ [ref]) s).object n).length + length } := rfl
  have hwrite : Table.write Obj.free (Table.write Obj.free s.oct.objects n ((s.object n).appended ref 0)) n
      ((s.object n).appended ref length) = Table.write Obj.free s.oct.objects n ((s.object n).appended ref length) :=
    Table.write_write_used _ _ _ _ _ (Obj.appended_ne_free _ _ _) (Obj.appended_ne_free _ _ _)
  rw [happend, hread, ← hwrite, ← hslots]
  rfl

/-! ### The account of a client between the steps of a verdict -/

section
variable {x y : Client} {c c' g : Nat}

/-- The record stays ACTIVE with its generation and its charge. -/
def SameAccount (x y : Client) : Prop := y.active = true ∧ y.generation = x.generation ∧ y.charged = x.charged

theorem sameAccount_self (h : x.active = true) : SameAccount x x := ⟨h, rfl, rfl⟩

theorem sameAccount_modify (h : x.active = true) (role : Role) (address label : List Byte) (q : Nat) :
    SameAccount x (x.modify role address label q) := by
  rw [Client.modify]
  split
  · exact ⟨h, rfl, rfl⟩
  · exact ⟨h, rfl, rfl⟩

theorem client_put_self (hc : c < 16) (x : Client) : (s.setClient c x).client c = x := slot_put_self _ _ _ _ hc

theorem client_lt (h : (s.client c).active = true) : c < 16 := by
  by_contra hc
  rw [State.client, slot_outside _ _ _ (Nat.le_of_not_lt hc)] at h
  exact absurd h (by decide)

theorem sameAccount_setClientRecord (h : (s.client c).active = true) (p : List Byte) :
    SameAccount (s.client c) ((setClientRecord c' p s).client c) := by
  have hclients : (setClientRecord c' p s).client c = (s.setClient c' (if (s.client c').active then
      (s.client c').modify ((Role.ofCode (byteAt p 1)).getD .unset) (slice p 2 6) (slice p 8 16) (field p 24 4)
    else (s.client c').create ((Role.ofCode (byteAt p 1)).getD .unset) (slice p 2 6) (slice p 8 16) (field p 24 4))).client c := by
    simp only [setClientRecord, State.client, dropDueIf_frame]
  rw [hclients]
  by_cases hc : c = c'
  · subst hc
    rw [client_put_self (client_lt h), if_pos h]
    exact sameAccount_modify h _ _ _ _
  · rw [client_setClient_other hc]
    exact sameAccount_self h

theorem sameAccount_clientSetRequest (h : (s.client c).active = true) (r : Request) :
    SameAccount (s.client c) ((clientSetRequest r s).client c) := by
  unfold clientSetRequest guarded
  split
  · exact sameAccount_self h
  · exact sameAccount_setClientRecord h _

theorem clientReadRequest_client (r : Request) (s : State) (c : Nat) : (clientReadRequest r s).client c = s.client c := by
  rw [State.client, clientReadRequest_clients, State.client]

theorem takenBetween_read (ho : s.slc.offered .clt = some r) (hk : r.kind = .clientRead) (n : Nat) :
    takenBetween (n + 1) s = takenBetween n (clientReadRequest r s) := by
  rw [takenBetween, ho]
  exact if_pos hk

theorem takenBetween_set (ho : s.slc.offered .clt = some r) (hk : r.kind = .clientSet) (n : Nat) :
    takenBetween (n + 1) s = takenBetween n (clientSetRequest r s) := by
  have hread : ¬ r.kind = .clientRead := by rw [hk]; decide
  rw [takenBetween, ho]
  exact (if_neg hread).trans (if_pos hk)

/-- Neither a CLIENT_READ nor a CLIENT_SET is the oldest request of the Client Table. -/
theorem takenBetween_neither (hno : ∀ r, ¬ (s.slc.offered .clt = some r ∧ r.kind = .clientRead)
    ∧ ¬ (s.slc.offered .clt = some r ∧ r.kind = .clientSet)) (n : Nat) : takenBetween n s = s := by
  cases n with
  | zero => rfl
  | succ n =>
    cases ho : s.slc.offered .clt with
    | none => rw [takenBetween, ho]
    | some r =>
      obtain ⟨hread, hset⟩ := hno r
      rw [takenBetween, ho]
      exact (if_neg fun hk => hread ⟨ho, hk⟩).trans (if_neg fun hk => hset ⟨ho, hk⟩)

theorem sameAccount_takenBetween (h : (s.client c).active = true) (n : Nat) :
    SameAccount (s.client c) ((takenBetween n s).client c) := by
  induction n generalizing s with
  | zero => exact sameAccount_self h
  | succ n ih =>
    cases ho : s.slc.offered .clt with
    | none =>
      rw [takenBetween_neither fun r => ⟨fun hr => by simp [ho] at hr, fun hr => by simp [ho] at hr⟩]
      exact sameAccount_self h
    | some r =>
      by_cases hread : r.kind = .clientRead
      · rw [takenBetween_read ho hread, ← clientReadRequest_client r s c]
        exact ih (by rwa [clientReadRequest_client])
      · by_cases hset : r.kind = .clientSet
        · obtain ⟨hactive, hgen, hcharged⟩ := sameAccount_clientSetRequest h r
          obtain ⟨hactive', hgen', hcharged'⟩ := ih hactive
          rw [takenBetween_set ho hset]
          exact ⟨hactive', hgen'.trans hgen, hcharged'.trans hcharged⟩
        · rw [takenBetween_neither]
          · exact sameAccount_self h
          · intro r'
            rw [ho]
            exact ⟨fun hr => hread (by obtain ⟨hr, hk⟩ := hr; cases hr; exact hk),
              fun hr => hset (by obtain ⟨hr, hk⟩ := hr; cases hr; exact hk)⟩

theorem accountOk_of_chargeAnswer (h : s.chargeAnswer c g n ≠ .noSuch) : (s.client c).active = true ∧ (s.client c).generation = g := by
  by_contra hno
  exact h (chargeAnswer_noSuch hno)

theorem account_of_refused (hok : s.chargeAnswer c g n ≠ .ok) (hquota : s.chargeAnswer c g n ≠ .quota) :
    ¬ ((s.client c).active = true ∧ (s.client c).generation = g) := by
  intro h
  cases hq : (s.client c).quota with
  | none => exact hok (chargeAnswer_unlimited h hq)
  | some q =>
    rw [chargeAnswer_limited h hq] at hok hquota
    by_cases hfits : (s.client c).charged + n ≤ q * 1048576
    · exact hok (if_pos hfits)
    · exact hquota (if_neg hfits)

theorem refund_charge (h : s.chargeAnswer c g n = .ok) : refund c g n (charge c g n s) = s := by
  obtain ⟨hactive, hgen⟩ := accountOk_of_chargeAnswer (by rw [h]; decide)
  have hc := client_lt hactive
  have hself : (charge c g n s).client c = { s.client c with charged := (s.client c).charged + n } := by
    rw [charge_of_ok h, client_put_self hc]
  have hback : { (charge c g n s).client c with charged := ((charge c g n s).client c).charged - n } = s.client c := by
    rw [hself]
    exact congrArg (fun m => { s.client c with charged := m }) (Nat.add_sub_cancel ..)
  have hput : put (put s.clients c { s.client c with charged := (s.client c).charged + n }) c (s.client c) = s.clients := by
    refine Vector.ext fun k hk => ?_
    simp only [put, State.client, slot, Vector.getElem_setIfInBounds]
    split
    next hck => simp [hck, hk]
    next => rfl
  rw [refund_applied (by rw [hself]; exact ⟨hactive, hgen⟩), hback, charge_of_ok h]
  exact congrArg (fun v => { s with clients := v }) hput

/-- After the requests taken between the two, the refund takes back what the charge of a verdict added. -/
theorem charged_refund_between (h : (s.client c).active = true) (hquota : s.chargeAnswer c g n ≠ .quota) {u : State} (hu : u.clients = (charge c g n s).clients)
    (k : Nat) :     ((refund c g n (takenBetween k u)).client c).charged = (s.client c).charged := by
  have hclient : u.client c = (charge c g n s).client c := by rw [State.client, hu, State.client]
  have hc := client_lt h
  by_cases hok : s.chargeAnswer c g n = .ok
  · obtain ⟨_, hgen⟩ := accountOk_of_chargeAnswer (s := s) (c := c) (g := g) (n := n) (by rw [hok]; decide)
    have hself : u.client c = { s.client c with charged := (s.client c).charged + n } := by
      rw [hclient, charge_of_ok hok, client_put_self hc]
    obtain ⟨hactive', hgen', hcharged'⟩ := sameAccount_takenBetween (s := u) (c := c) (by rw [hself]; exact h) k
    rw [hself] at hgen' hcharged'
    rw [refund_applied ⟨hactive', hgen'.trans hgen⟩, client_put_self hc, hcharged']
    exact Nat.add_sub_cancel ..
  · rw [charge_of_not_ok hok] at hclient
    obtain ⟨hactive', hgen', hcharged'⟩ := sameAccount_takenBetween (s := u) (c := c) (by rw [hclient]; exact h) k
    rw [hclient] at hgen' hcharged'
    by_cases happly : ((takenBetween k u).client c).active = true ∧ ((takenBetween k u).client c).generation = g
    · exact absurd ⟨h, hgen'.symm.trans happly.2⟩ (account_of_refused hok hquota)
    · rw [refund_dropped happly, hcharged']

end

/-! ### What a presented chunk comes to -/

section
variable {length : Nat} {v : Verdict}

/-- A verdict on a chunk of stream `i`, as the obligation states it: QUOTA, POOL_FULL, or the reference and `change`. -/
def VerdictOutcome (i : Nat) (d : Digest) (length : Nat) (s : State) (v : Verdict) (amount : Option Nat) (ref : Ref)
    (slots : Nat) (change : State → State) : Prop :=
  let x := s.stream i
  let o := s.object x.object
  let used := recipeSlots o.recipe
  (∀ n, amount = some n → s.chargeAnswer x.client x.generation n = .quota → present i d length s = (.halt .quota, s))
    ∧ ((∀ n, amount = some n → s.chargeAnswer x.client x.generation n ≠ .quota) →
        ((used + 63) / 64 + s.oct.freePages < (used + slots + 63) / 64 →
            (amount = none → present i d length s = (.halt .poolFull, s))
              ∧ ∀ n, amount = some n →
                  let paid := charge x.client x.generation n s
                  present i d length s =
                    (.halt .poolFull, refund x.client x.generation n
                      (takenBetween (Config.requestsBetween s.free) { paid with free := s.free + 1 })))
          ∧ ((used + slots + 63) / 64 ≤ (used + 63) / 64 + s.oct.freePages →
              let paid := (amount.elim s fun n => charge x.client x.generation n s)
              present i d length s =
                (.recorded v, change
                  { paid with oct :=
                    { s.oct with
                      objects := Table.write Obj.free s.oct.objects x.object
                        { o with recipe := o.recipe ++ [ref], length := o.length + length }
                      freePages := s.oct.freePages + (used + 63) / 64 - (used + slots + 63) / 64 } })))

theorem not_quotaRefuses_iff (s : State) (amount : Option Nat) (c g : Nat) :
    ¬ s.quotaRefuses amount c g = true ↔ ∀ n, amount = some n → s.chargeAnswer c g n ≠ .quota := by
  cases amount with
  | none => simp [State.quotaRefuses]
  | some n => simp [State.quotaRefuses]

theorem chargeVerdict_eq (amount : Option Nat) (c g : Nat) (s : State) :
    chargeVerdict amount c g s = amount.elim s fun n => charge c g n s := by
  cases amount with
  | none => rfl
  | some n => rfl

theorem present_quota (hquota : s.quotaRefuses (s.verdictCharge (s.chooseVerdict d) length)
    (s.stream i).client (s.stream i).generation = true) : present i d length s = (.halt .quota, s) := if_pos hquota

theorem present_charged (hquota : ¬ s.quotaRefuses (s.verdictCharge (s.chooseVerdict d) length)
    (s.stream i).client (s.stream i).generation = true) {u : State}
    (hu : chargeVerdict (s.verdictCharge (s.chooseVerdict d) length) (s.stream i).client (s.stream i).generation s = u) :
    present i d length s =
      if u.poolFits (recipeSlots (u.object (s.stream i).object).recipe)
          (recipeSlots (u.object (s.stream i).object).recipe + ((s.chooseVerdict d).ref d length).slots) then
        (.recorded (s.chooseVerdict d), applyVerdict (s.chooseVerdict d) i (s.stream i).client (s.stream i).generation d
          length (appendRef (s.stream i).object ((s.chooseVerdict d).ref d length) length u))
      else
        (.halt .poolFull, refundVerdict (s.verdictCharge (s.chooseVerdict d) length) (s.stream i).client
          (s.stream i).generation u) := by
  subst hu
  exact if_neg hquota

theorem appendRef_chunks (n : Nat) (ref : Ref) (length : Nat) (u : State) : (appendRef n ref length u).chunks = u.chunks := by
  rw [appendRef_eq]

theorem appendRef_rtu (n : Nat) (ref : Ref) (length : Nat) (u : State) : (appendRef n ref length u).rtu = u.rtu := by
  rw [appendRef_eq]

/-- What choosing a verdict fixes fixes what the chunk comes to. -/
theorem verdictOutcome {amount : Option Nat} {ref : Ref} {slots : Nat} {change : State → State}
    (hv : s.chooseVerdict d = v) (hamount : s.verdictCharge v length = amount) (href : v.ref d length = ref)
    (hslots : ref.slots = slots)
    (hchange : ∀ u : State, u.chunks = s.chunks → u.rtu = s.rtu →
      applyVerdict v i (s.stream i).client (s.stream i).generation d length u = change u) :
    VerdictOutcome i d length s v amount ref slots change := by
  subst hv hamount href hslots
  refine ⟨?_, ?_⟩
  · intro n hn hquota
    refine present_quota ?_
    by_contra hno
    exact (not_quotaRefuses_iff _ _ _ _).1 hno n hn hquota
  · intro hquota
    have hno := (not_quotaRefuses_iff _ _ _ _).2 hquota
    generalize hu : chargeVerdict (s.verdictCharge (s.chooseVerdict d) length) (s.stream i).client
      (s.stream i).generation s = u
    have hpresent := present_charged hno hu
    have hframe := chargeVerdict_frame (s.verdictCharge (s.chooseVerdict d) length) (s.stream i).client
      (s.stream i).generation s
    rw [hu] at hframe
    obtain ⟨-, hfree, -, -, -, hchunks, hoct, hrtu, -⟩ := hframe
    have hobject : u.object (s.stream i).object = s.object (s.stream i).object := by rw [State.object, hoct, State.object]
    have hfits : u.poolFits (recipeSlots (u.object (s.stream i).object).recipe)
        (recipeSlots (u.object (s.stream i).object).recipe + ((s.chooseVerdict d).ref d length).slots)
        = s.poolFits (recipeSlots (s.object (s.stream i).object).recipe)
        (recipeSlots (s.object (s.stream i).object).recipe + ((s.chooseVerdict d).ref d length).slots) := by
      rw [hobject, State.poolFits, State.poolFits, hoct]
    rw [hfits] at hpresent
    refine ⟨?_, ?_⟩
    · intro hfull
      have hnot := (not_poolFits_iff s _ _).2 hfull
      have hhalt := hpresent.trans (if_neg (by simpa using hnot))
      refine ⟨?_, ?_⟩
      · intro hnone
        rw [hhalt, hnone]
        rw [hnone] at hu
        exact congrArg (Prod.mk _) hu.symm
      · intro n hn
        rw [hhalt, hn]
        rw [hn] at hu
        have hspend : u.spend 1 = { charge (s.stream i).client (s.stream i).generation n s with free := s.free + 1 } := by
          rw [← hu, State.spend]
          exact congrArg (fun m => { charge (s.stream i).client (s.stream i).generation n s with free := m + 1 })
            (charge_frame _ _ _ _).2.1
        rw [refundVerdict, hspend, hfree]
    · intro hroom
      have hyes := not_poolFits_eq_false hroom
      rw [hpresent.trans (if_pos (by simpa using hyes)), hchange, appendRef_eq, hobject, hoct, ← chargeVerdict_eq, hu]
      · rfl
      · rw [← hchunks]
        exact (appendRef_chunks _ _ _ u)
      · rw [← hrtu]
        exact (appendRef_rtu _ _ _ u)

theorem deferredRoom_iff (s : State) : s.rtu.deferredRoom = true ↔ s.rtu.deferred.length + s.rtu.reserved < 256 :=
  decide_eq_true_iff

theorem refund_between_keeps (c g n k : Nat) (u : State) :
    (refund c g n (takenBetween k u)).chunks = u.chunks ∧ (refund c g n (takenBetween k u)).oct = u.oct := by
  simp only [refund_frame, takenBetween_frame, and_self]

theorem charge_chunks (c g n : Nat) (s : State) : (charge c g n s).chunks = s.chunks := by simp only [charge_frame]

theorem charge_oct (c g n : Nat) (s : State) : (charge c g n s).oct = s.oct := by simp only [charge_frame]

/-- A halt leaves what the client is charged, the index and the catalogue as they were (R70 steps 2 and 3). -/
theorem present_halt_keeps (hactive : (s.client (s.stream i).client).active = true) {why : HaltReason}
    (hhalt : (present i d length s).1 = .halt why) :
    ((present i d length s).2.client (s.stream i).client).charged = (s.client (s.stream i).client).charged
      ∧ (present i d length s).2.chunks = s.chunks ∧ (present i d length s).2.oct = s.oct := by
  obtain ⟨-, hrest⟩ := verdictOutcome (i := i) (length := length) (s := s) (d := d) (v := s.chooseVerdict d)
    (change := applyVerdict (s.chooseVerdict d) i (s.stream i).client (s.stream i).generation d length)
    rfl rfl rfl rfl fun u _ _ => rfl
  by_cases hquota : s.quotaRefuses (s.verdictCharge (s.chooseVerdict d) length) (s.stream i).client (s.stream i).generation = true
  · rw [present_quota hquota]
    exact ⟨rfl, rfl, rfl⟩
  · have hno := (not_quotaRefuses_iff _ _ _ _).1 hquota
    obtain ⟨hfull, hroom⟩ := hrest hno
    rcases Nat.lt_or_ge ((recipeSlots (s.object (s.stream i).object).recipe + 63) / 64 + s.oct.freePages)
      ((recipeSlots (s.object (s.stream i).object).recipe + ((s.chooseVerdict d).ref d length).slots + 63) / 64) with hlt | hge
    · obtain ⟨hfree, hpaid⟩ := hfull hlt
      cases hamount : s.verdictCharge (s.chooseVerdict d) length with
      | none =>
        rw [hfree hamount]
        exact ⟨rfl, rfl, rfl⟩
      | some n =>
        rw [hpaid n hamount]
        exact ⟨charged_refund_between (u := { charge (s.stream i).client (s.stream i).generation n s with free := s.free + 1 })
            hactive (hno n hamount) rfl _, (refund_between_keeps _ _ _ _ _).1.trans (charge_chunks _ _ _ s),
          (refund_between_keeps _ _ _ _ _).2.trans (charge_oct _ _ _ s)⟩
    · rw [hroom hge] at hhalt
      exact absurd hhalt (by simp)

/-! ### The verdict by the entry found (R71 to R77) -/

section
variable (hfind : s.findDigest d = some h)
include hfind

theorem chooseVerdict_duplicate (hstate : (s.chunk h).state = .present
    ∨ (s.chunk h).state = .damaged ∧ ¬ s.rtu.deferred.length + s.rtu.reserved < 256) :
    s.chooseVerdict d = .duplicate h := by
  rcases hstate with hstate | ⟨hstate, hroom⟩
  · simp only [State.chooseVerdict, hfind, hstate]
  · simp only [State.chooseVerdict, hfind, hstate]
    exact if_neg fun hdeferred => hroom ((deferredRoom_iff s).1 hdeferred)

theorem chooseVerdict_duplicatePending (hstate : (s.chunk h).state = .reserved ∨ (s.chunk h).state = .rewriting) :
    s.chooseVerdict d = .duplicatePending h := by
  rcases hstate with hstate | hstate
  · simp only [State.chooseVerdict, hfind, hstate]
  · simp only [State.chooseVerdict, hfind, hstate]

theorem chooseVerdict_takeover (hstate : (s.chunk h).state = .needsWriter) : s.chooseVerdict d = .takeover h := by
  simp only [State.chooseVerdict, hfind, hstate]

theorem chooseVerdict_rewrite (hstate : (s.chunk h).state = .damaged)
    (hroom : s.rtu.deferred.length + s.rtu.reserved < 256) : s.chooseVerdict d = .rewrite h := by
  simp only [State.chooseVerdict, hfind, hstate]
  exact if_pos ((deferredRoom_iff s).2 hroom)

end

theorem chooseVerdict_fresh (hfind : s.findDigest d = none) (hway : s.emptyWay d = some h) : s.chooseVerdict d = .fresh h := by
  simp only [State.chooseVerdict, hfind, hway]

theorem chooseVerdict_newPrivate (hfind : s.findDigest d = none) (hway : s.emptyWay d = none) :
    s.chooseVerdict d = .newPrivate := by
  simp only [State.chooseVerdict, hfind, hway]

theorem chunk_of_chunks {u : State} (hu : u.chunks = s.chunks) (h : Nat) : u.chunk h = s.chunk h := by
  rw [State.chunk, hu, State.chunk]

end

theorem applyVerdict_rewrite {u : State} (hu : u.chunks = s.chunks) (hr : u.rtu = s.rtu) {c g length : Nat} :
    applyVerdict (.rewrite h) i c g d length u =
      { u.setChunk h { s.chunk h with
          state := .rewriting, refcount := raiseCount (s.chunk h).refcount, writer := some i } with
        rtu := { s.rtu with reserved := s.rtu.reserved + 1 } } := by
  rw [applyVerdict, chunk_of_chunks hu, ← hr, State.setChunk]

/-- Settles O32: the search by the handles of the bucket, each verdict by what choosing it fixes, and the account of the
client between its charge and its refund. -/
theorem bucketSearchAndVerdicts : Obligations.BucketSearchAndVerdicts := by
  refine ⟨?_, ?_⟩
  · intro s d b bucket holds
    have hb : bucket = bucketOf d := bucketOf_eq d
    rw [hb]
    exact ⟨bucketOf_lt d, digestOf_digestBytes d, fun h hfind => findDigest_some hfind,
      fun hfind h hlow hhigh => findDigest_none hfind hlow hhigh, emptyWay_eq_some_iff s d, emptyWay_eq_none_iff s d⟩
  · intro s i d length x o used pages raised outcome
    refine ⟨?_, ?_, ?_, ?_⟩
    · intro h hfind e room
      refine ⟨?_, ?_, ?_, ?_⟩
      · intro hstate
        exact verdictOutcome (chooseVerdict_duplicate hfind hstate) rfl rfl rfl fun u hu _ => by
          rw [applyVerdict, chunk_of_chunks hu]
      · intro hstate
        exact verdictOutcome (chooseVerdict_duplicatePending hfind hstate) rfl rfl rfl fun u hu _ => by
          rw [applyVerdict, chunk_of_chunks hu]
      · intro hstate
        exact verdictOutcome (chooseVerdict_takeover hfind hstate) rfl rfl rfl fun u hu _ => by
          rw [applyVerdict, chunk_of_chunks hu]
      · intro hstate hroom
        exact verdictOutcome (chooseVerdict_rewrite hfind hstate hroom) rfl rfl rfl fun u hu hr =>
          applyVerdict_rewrite hu hr
    · intro hfind
      refine ⟨?_, ?_⟩
      · intro h hway
        exact verdictOutcome (chooseVerdict_fresh hfind hway) rfl rfl rfl fun u _ _ => rfl
      · intro hway
        exact verdictOutcome (chooseVerdict_newPrivate hfind hway) rfl rfl rfl fun u _ _ => rfl
    · intro _ hactive why hhalt
      exact present_halt_keeps hactive hhalt
    · intro s reads sets
      refine ⟨rfl, ?_, ?_, fun hno => takenBetween_neither hno, ?_, fun c g n hok => refund_charge hok⟩
      · intro r hr
        obtain ⟨ho, hk⟩ := hr
        exact ⟨take_offered .clientRead anyForm clientReadRequest s r ho hk rfl, takenBetween_read ho hk⟩
      · intro r hr
        obtain ⟨ho, hk⟩ := hr
        exact ⟨take_offered .clientSet anyForm clientSetRequest s r ho hk rfl, takenBetween_set ho hk⟩
      · intro r _ hload hlength hlt
        have hpass : firstFail (readGate s ++ clientNumberChecks r) = none :=
          firstFail_skip (by simp [loaded_of_readable hload]) <| firstFail_skip (not_hasLength_of hlength) <|
            firstFail_skip (decide_lt_of_lt hlt) rfl
        exact guarded_pass _ _ _ _ hpass

end Sys2Proof.Machine
end

section
/-!
PROOFS. The requests that empty, write out and take in the tables, and the end of a freeze (R123, R188 to R191).
-/

namespace Sys2Proof.Machine

variable {s t : State} {r : Request} {i : Instr}

/-! ### The end of a freeze (R123) -/

theorem nextMayAdd_iff (s : State) :
    s.nextMayAdd = true ↔ ∃ ref, (∃ n, (s.rtu.nested = some n ∨ s.rtu.nested = none ∧ s.rtu.current = some (.object n))
        ∧ (s.object n).recipe.head? = some ref)
      ∧ ((∃ h, ref = .indexed h) ∨ ∃ l n d m, ref = .priv (some l) n d m) := by
  have hadds (ref : Ref) : ref.mayAdd = true ↔ (∃ h, ref = .indexed h) ∨ ∃ l n d m, ref = .priv (some l) n d m := by
    rcases ref with h | ⟨_ | l, n, d, m⟩ <;> simp [Ref.mayAdd]
  cases hn : s.rtu.walkObject with
  | none =>
    have hno (n : Nat) : ¬ (s.rtu.nested = some n ∨ s.rtu.nested = none ∧ s.rtu.current = some (.object n)) := fun h => by
      rw [(walkObject_iff _ _).2 h] at hn
      contradiction
    rw [State.nextMayAdd, hn]
    exact iff_of_false Bool.false_ne_true fun ⟨_, ⟨n, h, _⟩, _⟩ => hno n h
  | some n =>
    have hstands (m : Nat) : (s.rtu.nested = some m ∨ s.rtu.nested = none ∧ s.rtu.current = some (.object m)) ↔ m = n := by
      rw [← walkObject_iff, hn, Option.some_inj, eq_comm]
    rw [State.nextMayAdd, hn]
    simp only [hstands, exists_eq_left, ← hadds]
    cases (s.object n).recipe.head? <;> simp

theorem unfreezeWalk_rest (hcurrent : s.rtu.current = none) : unfreezeWalk s = takeOldest (makeDeferredCheck s) := by
  have hsame : (makeDeferredCheck s).rtu.current = none := by simp [hcurrent]
  rw [unfreezeWalk, thawWalk, hsame]

theorem unfreezeWalk_current {o : Order} (hcurrent : s.rtu.current = some o) :
    unfreezeWalk s =
      if s.nextMayAdd = true ∧ 4096 ≤ (makeDeferredCheck s).rtu.release.length then
        { makeDeferredCheck s with rtu := { (makeDeferredCheck s).rtu with walk := .paused } }
      else { makeDeferredCheck s with rtu := { (makeDeferredCheck s).rtu with walk := .walking } } := by
  have hsame : (makeDeferredCheck s).rtu.current = some o := by simp [hcurrent]
  have hadds : (makeDeferredCheck s).nextMayAdd = s.nextMayAdd := by
    simp [State.nextMayAdd, Rtu.walkObject, State.object]
  have hfull : (makeDeferredCheck s).rtu.releaseFull = true ↔ 4096 ≤ (makeDeferredCheck s).rtu.release.length :=
    decide_eq_true_iff
  rw [unfreezeWalk, thawWalk, hsame]
  simp only [hadds, hfull]
  split
  · rfl
  · rfl

theorem find_walkable_makeDeferredCheck (s : State) :
    (makeDeferredCheck s).rtu.orders.find? (makeDeferredCheck s).walkable = s.rtu.orders.find? s.walkable := by
  have hwalkable : (makeDeferredCheck s).walkable = s.walkable := by
    funext o
    cases o with
    | coll n => rfl
    | object n => simp [State.walkable, State.object]
  rw [hwalkable]
  simp

/-! ### Answers with the status record (Table 12.4) -/

/-- The answer with the status record of Table 12.4 and what follows it; without a total bytes 11 to 14 are open. -/
def ImageAnswered (i : Instr) (s : State) (r : Request) (t : State) (records : List Byte) : Prop :=
  ∃ open_ : List Byte, open_.length = 4 ∧
    Answers i s r .ok
      ([t.tiu.load.code, (if t.tiu.exporting then 1#8 else 0#8)] ++ le 1 t.tiu.section_ ++ le 8 t.tiu.moved
        ++ ((t.tiu.total.map (le 4)).getD open_) ++ [0#8] ++ records) { t with free := t.free + 4 }

theorem totalBytes_eq (t : State) : t.totalBytes = (t.tiu.total.map (le 4)).getD (t.freeBytes 4) := by
  rw [State.totalBytes]
  cases t.tiu.total <;> simp

theorem imageAnswered {records : List (List Byte)} {bytes : List Byte} (hbytes : records.flatten = bytes)
    (h : Ends i s (answerImage r .ok records t)) : ImageAnswered i s r t bytes := by
  refine ⟨t.freeBytes 4, freeBytes_length t 4, ?_⟩
  rw [← totalBytes_eq, ← hbytes]
  exact h

/-! ### The requests -/

theorem streamCount_pos_iff_lt (s : State) : 0 < s.streamCount ↔ ∃ i < 8, (s.stream i).state ≠ .closed := by
  simp only [streamCount_pos_iff, List.mem_range]

theorem planCount_pos_iff_lt (s : State) : 0 < s.planCount ↔ ∃ p < 16, (s.plan p).state ≠ .free := by
  simp only [planCount_pos_iff, List.mem_range]

section
variable {st : Status}

/-- TABLES_INIT past its checks (R188). -/
def tablesInitTaken (r : Request) (s : State) : State := answerImage r .ok [] (initTables s)

/-- IMAGE_EXPORT past its checks (R189). -/
def imageExportTaken (r : Request) (s : State) : State := answerImage r .ok [] (startExport s)

/-- IMAGE_IMPORT past its checks (R191). -/
def imageImportTaken (r : Request) (s : State) : State := answer r .ok [] (startImport s)

/-- The one check of IMAGE_CANCEL (R190). -/
def imageCancelChecks (r : Request) : List (Bool × Status) := [(!r.hasLength 0, .badField)]

theorem execTablesInit_eq (s : State) : execTablesInit s =
    take .tablesInit anyForm (fun r s => guarded (tablesInitChecks s r) r (tablesInitTaken r) s) s := rfl

theorem execImageExport_eq (s : State) : execImageExport s =
    take .imageExport anyForm (fun r s => guarded (imageExportChecks s r) r (imageExportTaken r) s) s := rfl

theorem execImageImport_eq (s : State) : execImageImport s =
    take .imageImport anyForm (fun r s => guarded (imageImportChecks s r) r (imageImportTaken r) s) s := rfl

theorem execImageCancel_eq (s : State) : execImageCancel s =
    take .imageCancel anyForm (fun r s => guarded (imageCancelChecks r) r (imageCancelTaken r) s) s := rfl

theorem execImageNext_eq (s : State) : execImageNext s =
    take .imageNext (fun r => decide (r.auxNat ≠ 1)) (fun r s => guarded (imageNextChecks r) r (imageNextTaken r) s) s := rfl

theorem execImageNextAgain_eq (s : State) : execImageNextAgain s =
    take .imageNext (fun r => decide (r.auxNat = 1)) (fun r s => guarded (imageNextChecks r) r (imageAgainTaken r) s) s := rfl

theorem tablesInit_refused (ho : Offered s .tablesInit r) (hfail : firstFail (tablesInitChecks s.quiet r) = some st) :
    Refused .tablesInit s r st :=
  refused_of_firstFail tablesInitChecks (fun _ => tablesInitTaken) (execTablesInit_eq s) ho rfl hfail

theorem imageExport_refused (ho : Offered s .imageExport r) (hfail : firstFail (imageExportChecks s.quiet r) = some st) :
    Refused .imageExport s r st :=
  refused_of_firstFail imageExportChecks (fun _ => imageExportTaken) (execImageExport_eq s) ho rfl hfail

theorem imageImport_refused (ho : Offered s .imageImport r) (hfail : firstFail (imageImportChecks s.quiet r) = some st) :
    Refused .imageImport s r st :=
  refused_of_firstFail imageImportChecks (fun _ => imageImportTaken) (execImageImport_eq s) ho rfl hfail

theorem imageCancel_ends (ho : Offered s .imageCancel r) (hlen : r.payload = []) (ht : imageCancelTaken r s.quiet = t) :
    Ends .imageCancel s t :=
  ends_of_checks_pass (checks := fun _ => imageCancelChecks) (f := fun _ => imageCancelTaken) execImageCancel rfl
    (execImageCancel_eq s) ho rfl (firstFail_skip (not_hasLength_of_eq_nil hlen) rfl) ht

end

/-- The checks of IMAGE_NEXT are those of its aux, its length and its count. -/
theorem firstFail_imageNextChecks_bad
    (hbad : 1 < r.aux.toNat ∨ r.payload.length ≠ 2 ∨ field r.payload 0 2 = 0 ∨ 255 < field r.payload 0 2) :
    firstFail (imageNextChecks r) = some .badField := by
  by_contra hno
  have hone (b : Bool) (cs : List (Bool × Status)) (hcs : firstFail cs = none ∨ firstFail cs = some .badField) :
      firstFail ((b, .badField) :: cs) = none ∨ firstFail ((b, Status.badField) :: cs) = some .badField := by
    cases b
    · exact hcs
    · exact .inr rfl
  have hnone := (hone _ _ <| hone _ _ <| hone _ _ (.inl rfl)).resolve_right hno
  simp only [firstFail_cons_eq_none, decide_eq_false_iff_not, Bool.or_eq_false_iff] at hnone
  obtain ⟨haux, hlen, ⟨hzero, hmax⟩, -⟩ := hnone
  rcases hbad with h | h | h | h
  · exact haux h
  · exact Bool.eq_false_iff.1 hlen ((not_hasLength_iff r 2).2 h)
  · exact hzero h
  · exact hmax h

theorem firstFail_imageNextChecks (haux : ¬ 1 < r.aux.toNat) (hlen : r.payload.length = 2) (hlow : 1 ≤ field r.payload 0 2)
    (hhigh : field r.payload 0 2 ≤ 255) : firstFail (imageNextChecks r) = none := by
  have hcount : (decide (field r.payload 0 2 = 0) || decide (255 < field r.payload 0 2)) = false := by
    rw [Bool.or_eq_false_iff, decide_eq_false_iff_not, decide_eq_false_iff_not]
    exact ⟨Nat.one_le_iff_ne_zero.1 hlow, Nat.not_lt.2 hhigh⟩
  exact firstFail_skip (decide_eq_false haux) <| firstFail_skip (not_hasLength_of hlen) <| firstFail_skip hcount rfl

theorem importCheck_iff (s : State) :
    (decide (s.bxp.power ≠ .run) || decide (s.tiu.load = .loaded) || decide (s.tiu.load = .loading)) = true
      ↔ s.bxp.power ≠ .run ∨ s.tiu.load = .loaded ∨ s.tiu.load = .loading := by
  simp only [Bool.or_eq_true, decide_eq_true_iff, or_assoc]

theorem load_ne_of_unloaded {load : LoadState} (h : load = .unloaded ∨ load = .loadFailed) :
    load ≠ .loaded ∧ load ≠ .loading := by
  rcases h with rfl | rfl
  · decide
  · decide

/-- The cursor and the last batch after a batch of `n` image records (R190). -/
def State.handed (s : State) (n : Nat) : Tiu :=
  let batch := (s.image.drop s.tiu.moved).take n
  { s.tiu with
    lastBatch := batch, moved := s.tiu.moved + batch.length
    section_ := (batch.getLast?.map fun record => byteAt record 0).getD s.tiu.section_ }

theorem exportBatch_goes_on {n : Nat} (hmore : (s.handed n).moved < s.image.length) :
    exportBatch n s = { s with tiu := s.handed n } := if_neg (Nat.not_le.2 hmore)

theorem exportBatch_ends {n : Nat} (hend : s.image.length ≤ (s.handed n).moved) :
    exportBatch n s = latch .imageDone (unfreezeWalk { s with tiu := { s.handed n with exporting := false } }) := if_pos hend

theorem imageNextTaken_exporting {u : State} (hexporting : s.tiu.exporting = true)
    (hu : exportBatch (field r.payload 0 2) s = u) : imageNextTaken r s = answerImage r .ok u.tiu.lastBatch u := by
  rw [← hu]
  exact if_pos hexporting

theorem imageAgainTaken_loaded (hload : s.tiu.load = .loaded) :
    imageAgainTaken r s = answerImage r .ok s.tiu.lastBatch s := by
  rw [imageAgainTaken, hload]

theorem imageAgainTaken_loading (hload : s.tiu.load = .loading) : imageAgainTaken r s = answerImage r .ok [] s := by
  rw [imageAgainTaken, hload]

theorem imageAgainTaken_refused (hload : s.tiu.load = .unloaded ∨ s.tiu.load = .loadFailed) :
    imageAgainTaken r s = refuse r .state s := by
  rcases hload with h | h
  · rw [imageAgainTaken, h]
  · rw [imageAgainTaken, h]

theorem unfreezeWalk_tiu (s : State) : (unfreezeWalk s).tiu = s.tiu := by simp

/-- Settles O53: the end of a freeze by the current walk, and each request by its first failing check or its effect. -/
theorem imageTransfersAndFreeze : Obligations.ImageTransfersAndFreeze := by
  refine ⟨?_, ?_⟩
  · intro s hload hexporting t next adds
    have hadds : s.nextMayAdd = true ↔ adds := nextMayAdd_iff s
    refine ⟨?_, ?_, ?_, ?_⟩
    · intro o hcurrent hadd hfull
      rw [unfreezeWalk_current hcurrent]
      exact if_pos ⟨hadds.2 hadd, hfull⟩
    · intro o hcurrent hno
      rw [unfreezeWalk_current hcurrent]
      exact if_neg fun ⟨hadd, hfull⟩ => hno.elim (fun h => h (hadds.1 hadd)) fun h => Nat.not_le.2 h hfull
    · intro o hcurrent horder
      rw [unfreezeWalk_rest hcurrent]
      exact takeOldest_some ((find_walkable_makeDeferredCheck s).trans horder)
    · intro hcurrent horder
      rw [unfreezeWalk_rest hcurrent]
      exact takeOldest_none ((find_walkable_makeDeferredCheck s).trans horder)
  · intro s r tiu emptied answered streams plans ended
    have hstreams : 0 < s.streamCount ↔ streams := streamCount_pos_iff_lt s
    have hplans : 0 < s.planCount ↔ plans := planCount_pos_iff_lt s
    refine ⟨?_, ?_, ?_, ?_, ?_, ?_, ?_, ?_, ?_, ?_, ?_⟩
    · intro ho hrun
      exact tablesInit_refused ho (if_pos (decide_eq_true hrun))
    · intro ho hrun
      have hpower : decide (s.quiet.bxp.power ≠ .run) = false := decide_eq_false (not_not.2 hrun)
      exact ⟨fun hexporting => tablesInit_refused ho (firstFail_skip hpower <| if_pos hexporting),
        fun hexporting hlen => tablesInit_refused ho
          (firstFail_skip hpower <| firstFail_skip hexporting <| if_pos ((not_hasLength_zero_iff r).2 hlen))⟩
    · intro ho hlen hrun hexporting
      have hfirst {cs : List (Bool × Status)} {o : Option Status} (hcs : firstFail cs = o) :
          firstFail ((decide (s.quiet.bxp.power ≠ .run), .state) :: (s.quiet.tiu.exporting, .imageBusy)
            :: (!r.hasLength 0, .badField) :: cs) = o :=
        firstFail_skip (decide_eq_false (not_not.2 hrun)) <| firstFail_skip hexporting <|
          firstFail_skip (not_hasLength_of_eq_nil hlen) hcs
      refine ⟨fun hopen => tablesInit_refused ho (hfirst <| if_pos (decide_eq_true (hstreams.2 hopen))), ?_, ?_⟩
      · intro hclosed hopen
        exact tablesInit_refused ho
          (hfirst <| firstFail_skip (decide_eq_false (mt hstreams.1 hclosed)) <| if_pos (decide_eq_true (hplans.2 hopen)))
      · intro hclosed hfree
        refine imageAnswered (records := []) rfl ?_
        exact ends_of_checks_pass (f := fun _ => tablesInitTaken) execTablesInit rfl (execTablesInit_eq s) ho rfl
          (hfirst <| firstFail_skip (decide_eq_false (mt hstreams.1 hclosed)) <|
            firstFail_skip (decide_eq_false (mt hplans.1 hfree)) rfl) rfl
    · intro ho hrun
      exact imageExport_refused ho (if_pos (decide_eq_true hrun))
    · intro ho hrun
      have hpower : decide (s.quiet.bxp.power ≠ .run) = false := decide_eq_false (not_not.2 hrun)
      refine ⟨fun hload => imageExport_refused ho (firstFail_skip hpower <| if_pos ?_), ?_, ?_⟩
      · exact congrArg not (decide_eq_false hload)
      · intro hload hexporting
        exact imageExport_refused ho (firstFail_skip hpower <| firstFail_readable hload <| if_pos hexporting)
      · intro hload hexporting hlen
        exact imageExport_refused ho (firstFail_skip hpower <| firstFail_changeable ⟨hload, hexporting⟩ <|
          if_pos ((not_hasLength_zero_iff r).2 hlen))
    · intro ho hlen hrun hchange
      have hpower : decide (s.quiet.bxp.power ≠ .run) = false := decide_eq_false (not_not.2 hrun)
      refine ⟨?_, ?_⟩
      · intro hopen
        exact imageExport_refused ho (firstFail_skip hpower <| firstFail_changeable hchange <|
          firstFail_skip (not_hasLength_of_eq_nil hlen) <| if_pos (decide_eq_true (hstreams.2 hopen)))
      · intro hclosed u
        refine imageAnswered (records := []) rfl ?_
        exact ends_of_checks_pass (f := fun _ => imageExportTaken) execImageExport rfl (execImageExport_eq s) ho rfl
          (firstFail_skip hpower <| firstFail_changeable hchange <| firstFail_skip (not_hasLength_of_eq_nil hlen) <|
            firstFail_skip (decide_eq_false (mt hstreams.1 hclosed)) rfl) rfl
    · intro hlen
      exact ⟨fun ho => imageImport_refused ho (if_pos ((not_hasLength_zero_iff r).2 hlen)),
        fun ho => refused_of_firstFail (fun _ => imageCancelChecks) (fun _ => imageCancelTaken) (execImageCancel_eq s) ho rfl
          (if_pos ((not_hasLength_zero_iff r).2 hlen))⟩
    · intro ho hbad
      refine ⟨?_, ?_⟩
      · intro haux
        exact refused_of_firstFail (fun _ => imageNextChecks) (fun _ => imageNextTaken) (execImageNext_eq s) ho
          (decide_eq_true fun h => haux (BitVec.eq_of_toNat_eq h)) (firstFail_imageNextChecks_bad hbad)
      · intro haux
        exact refused_of_firstFail (fun _ => imageNextChecks) (fun _ => imageAgainTaken) (execImageNextAgain_eq s) ho
          (decide_eq_true (congrArg BitVec.toNat haux)) (firstFail_imageNextChecks_bad hbad)
    · intro ho hlen
      have hlen' : (!r.hasLength 0) = false := not_hasLength_of_eq_nil hlen
      refine ⟨?_, ?_⟩
      · intro hno
        refine imageImport_refused ho (firstFail_skip hlen' <| if_pos ?_)
        exact (importCheck_iff s.quiet).2 hno
      · intro hrun hload
        have hpass : (decide (s.quiet.bxp.power ≠ .run) || decide (s.quiet.tiu.load = .loaded)
            || decide (s.quiet.tiu.load = .loading)) = false := by
          rw [← Bool.not_eq_true, importCheck_iff]
          rintro (h | h | h)
          · exact h hrun
          · exact absurd h (load_ne_of_unloaded hload).1
          · exact absurd h (load_ne_of_unloaded hload).2
        exact ends_of_checks_pass (f := fun _ => imageImportTaken) execImageImport rfl (execImageImport_eq s) ho rfl
          (firstFail_skip hlen' <| firstFail_skip hpass rfl) rfl
    · intro ho hlen
      refine ⟨?_, ?_, ?_⟩
      · intro hexporting
        exact imageCancel_ends ho hlen (if_pos hexporting)
      · intro hexporting hload
        exact imageCancel_ends ho hlen ((if_neg (Bool.eq_false_iff.1 hexporting)).trans (if_pos hload))
      · intro hexporting hload
        exact imageCancel_ends ho hlen ((if_neg (Bool.eq_false_iff.1 hexporting)).trans (if_neg hload))
    · intro n ho hlen hn hlow hhigh batch moved handed
      subst hn
      have hnext (haux : r.aux = 0#16) {t : State} (ht : imageNextTaken r s.quiet = t) : Ends .imageNext s t :=
        ends_of_checks_pass (checks := fun _ => imageNextChecks) (f := fun _ => imageNextTaken) execImageNext rfl
          (execImageNext_eq s) ho (by simp [haux]) (firstFail_imageNextChecks (by simp [haux]) hlen hlow hhigh) ht
      have hagain (haux : r.aux = 1#16) {t : State} (ht : imageAgainTaken r s.quiet = t) : Ends .imageNextAgain s t :=
        ends_of_checks_pass (checks := fun _ => imageNextChecks) (f := fun _ => imageAgainTaken) execImageNextAgain rfl
          (execImageNextAgain_eq s) ho (by simp [haux]) (firstFail_imageNextChecks (by simp [haux]) hlen hlow hhigh) ht
      refine ⟨?_, ?_, ?_, ?_, ?_, ?_, ?_⟩
      · intro haux hexporting hmore
        exact imageAnswered rfl
          (hnext haux (imageNextTaken_exporting (s := s.quiet) hexporting (exportBatch_goes_on (s := s.quiet) hmore)))
      · intro haux hexporting hend t
        have hlast : t.tiu.lastBatch = batch := congrArg Tiu.lastBatch (unfreezeWalk_tiu _)
        exact imageAnswered (congrArg List.flatten hlast)
          (hnext haux (imageNextTaken_exporting (s := s.quiet) hexporting (exportBatch_ends (s := s.quiet) hend)))
      · intro haux hexporting hload
        exact imageAnswered (records := []) rfl
          (hnext haux ((if_neg (Bool.eq_false_iff.1 hexporting)).trans (if_pos hload)))
      · intro haux hexporting hload
        exact hnext haux ((if_neg (Bool.eq_false_iff.1 hexporting)).trans (if_neg hload))
      · intro haux hload
        exact imageAnswered rfl (hagain haux (imageAgainTaken_loaded (s := s.quiet) hload))
      · intro haux hload
        exact imageAnswered (records := []) rfl (hagain haux (imageAgainTaken_loading (s := s.quiet) hload))
      · intro haux hload
        exact hagain haux (imageAgainTaken_refused (s := s.quiet) hload)

end Sys2Proof.Machine
end

section
/-!
PROOFS. IMAGE_PUT: its entries in order, which entry is in order, and what the checks of an image record come to (R191).
-/

namespace Sys2Proof.Machine

variable {s t : State} {r : Request} {e : ImageEntry} {st : Status}

/-! ### The first failing check of an image record -/

section
variable {b : Bool} {cs : List (Bool × Status)} {A P Q : Prop} {ps : List (Prop × Status)} {want : Nat}

/-- A record under checks is refused with the first condition that holds, and written when none does. -/
abbrev Checked (cs : List (Bool × Status)) (t : State) (want : Nat) (ps : List (Prop × Status)) : Prop :=
  FirstFails (Applied.when cs t want) (.written t want none) ps

theorem when_fails (hb : b = true) : Applied.when ((b, st) :: cs) t want = .refused st := by
  rw [Applied.when, hb, firstFail, if_pos rfl]

theorem when_passes (hb : b = false) : Applied.when ((b, st) :: cs) t want = Applied.when cs t want := by
  rw [Applied.when, hb, firstFail_pass, Applied.when]

/-- Checks of one status may be read in another order. -/
theorem when_swap {b' : Bool} :
    Applied.when ((b, st) :: (b', st) :: cs) t want = Applied.when ((b', st) :: (b, st) :: cs) t want := by
  cases b <;> cases b' <;> rfl

theorem checked_nil : Checked [] t want [] := rfl

/-- A check that stands for a condition; the rest is read where the condition does not hold. -/
theorem checked_one (hb : b = true ↔ P) (h : ¬ P → Checked cs t want ps) : Checked ((b, st) :: cs) t want ((P, st) :: ps) := by
  refine ⟨fun hP => when_fails (hb.2 hP), fun hP => ?_⟩
  rw [when_passes (Bool.eq_false_iff.2 (mt hb.1 hP))]
  exact h hP

/-- A check that stands for the first part of a condition of its status. -/
theorem checked_or (hb : b = true ↔ P) (h : ¬ P → Checked cs t want ((Q, st) :: ps)) :
    Checked ((b, st) :: cs) t want ((P ∨ Q, st) :: ps) := by
  by_cases hP : P
  · exact ⟨fun _ => when_fails (hb.2 hP), fun hno => absurd (.inl hP) hno⟩
  · rw [Checked, when_passes (Bool.eq_false_iff.2 (mt hb.1 hP))]
    exact ⟨fun hPQ => (h hP).1 (hPQ.resolve_left hP), fun hno => (h hP).2 (mt .inr hno)⟩

/-- A check may stand for two conditions of its status. -/
theorem checked_both (hb : b = true ↔ P ∨ Q) (h : ¬ P → ¬ Q → Checked cs t want ps) :
    Checked ((b, st) :: cs) t want ((P, st) :: (Q, st) :: ps) := by
  refine ⟨fun hP => when_fails (hb.2 (.inl hP)), fun hP => ⟨fun hQ => when_fails (hb.2 (.inr hQ)), fun hQ => ?_⟩⟩
  rw [when_passes (Bool.eq_false_iff.2 fun htrue => (hb.1 htrue).elim hP hQ)]
  exact h hP hQ

/-- A condition may be put in other words. -/
theorem checked_iff (hPQ : P ↔ Q) (h : Checked cs t want ((P, st) :: ps)) : Checked cs t want ((Q, st) :: ps) := propext hPQ ▸ h

/-- A condition that cannot hold stands for no check. -/
theorem checked_absent (hP : ¬ P) (h : Checked cs t want ps) : Checked cs t want ((P, st) :: ps) :=
  ⟨fun hholds => absurd hholds hP, fun _ => h⟩

/-- What holds already may be put before a condition. -/
theorem checked_given (hA : A) (h : Checked cs t want ((P, st) :: ps)) : Checked cs t want ((A ∧ P, st) :: ps) :=
  checked_iff (and_iff_right hA).symm h

end

/-! ### The order of image records (R191 check 1) -/

theorem expects_iff (c : ImportCursor) (code : Nat) :
    c.expects code = true ↔ code = 2 ∧ c.part < 4 ∨ (code = 3 ∨ code = 4) ∧ 0 < c.want := by
  match code with
  | 0 | 1 => simp [ImportCursor.expects]
  | 2 | 3 | 4 => simp [ImportCursor.expects]
  | n + 5 => simp [ImportCursor.expects]

theorem inOrder_iff (t : Tiu) (e : ImageEntry) :
    t.inOrder e = true ↔
      t.section_ ≠ 10 ∧ t.section_ ≤ e.code
        ∧ (e.part = 0 → t.cursor.want = 0 ∧ t.cursor.filterHead = none
            ∧ (t.section_ < e.code ∨ t.section_ = 0 ∨ t.cursor.number < e.number))
        ∧ (e.part ≠ 0 → e.code = t.section_ ∧ e.number = t.cursor.number ∧ e.part = t.cursor.part + 1
            ∧ (e.code = 2 ∧ t.cursor.part < 4 ∨ (e.code = 3 ∨ e.code = 4) ∧ 0 < t.cursor.want)) := by
  by_cases htrailer : t.section_ = 10
  · exact iff_of_false (by simp [Tiu.inOrder, htrailer]) fun h => h.1 htrailer
  · by_cases hback : e.code < t.section_
    · exact iff_of_false (by simp [Tiu.inOrder, htrailer, hback]) fun h => Nat.not_le.2 hback h.2.1
    · rw [Tiu.inOrder, if_neg htrailer, if_neg hback]
      by_cases hpart : e.part = 0
      · simp [hpart, htrailer, Nat.not_lt.1 hback, ImportCursor.complete, and_assoc, or_assoc]
      · simp [hpart, htrailer, Nat.not_lt.1 hback, expects_iff, and_assoc]

/-! ### One entry, and the batch -/

theorem putEntry_after (hload : s.tiu.load ≠ .loading) (bytes : List Byte) : putEntry bytes s = (.notLoaded, s) := if_pos hload

theorem putEntry_outOfOrder {bytes : List Byte} (hload : s.tiu.load = .loading)
    (horder : s.tiu.inOrder (ImageEntry.ofBytes bytes) = false) : putEntry bytes s = (.state, failImport s) :=
  (if_neg (not_not.2 hload)).trans (if_pos (by simp [horder]))

theorem putEntry_inOrder {bytes : List Byte} (hload : s.tiu.load = .loading)
    (horder : s.tiu.inOrder (ImageEntry.ofBytes bytes) = true) :
    (∀ st, applyRecord (ImageEntry.ofBytes bytes) s = .refused st → putEntry bytes s = (st, failImport s))
      ∧ ∀ u want head, applyRecord (ImageEntry.ofBytes bytes) s = .written u want head →
          putEntry bytes s = (.ok, { u with tiu := u.tiu.after (ImageEntry.ofBytes bytes) want head }) := by
  have hstill : ¬ s.tiu.load ≠ .loading := not_not.2 hload
  have hgood : ¬ (!s.tiu.inOrder (ImageEntry.ofBytes bytes)) = true := by simp [horder]
  refine ⟨fun st hst => ?_, fun u want head hu => ?_⟩
  · simp only [putEntry]
    rw [if_neg hstill, if_neg hgood, hst]
  · simp only [putEntry]
    rw [if_neg hstill, if_neg hgood, hu]

/-- An image record that is written leaves the load state and the count of records applied. -/
theorem written_tiu {want : Nat} {head : Option (Nat × List Byte)} (h : applyRecord e s = .written t want head) :
    t.tiu.load = s.tiu.load ∧ t.tiu.moved = s.tiu.moved := by
  cases applyRecord_written h with
  | settings => exact ⟨by rw [replaceSettings_eq], by rw [replaceSettings_eq]⟩
  | _ => exact ⟨rfl, rfl⟩

theorem execImagePut_eq (s : State) : execImagePut s =
    take .imagePut anyForm (fun r s => guarded (imagePutChecks s r) r (imagePutTaken r) s) s := rfl

theorem imagePut_refused (ho : Offered s .imagePut r) (hfail : firstFail (imagePutChecks s.quiet r) = some st) :
    Refused .imagePut s r st :=
  refused_of_firstFail imagePutChecks (fun _ => imagePutTaken) (execImagePut_eq s) ho rfl hfail

theorem imagePut_notLoaded (ho : Offered s .imagePut r) (hload : s.tiu.load = .unloaded ∨ s.tiu.load = .loadFailed) :
    Refused .imagePut s r .notLoaded :=
  imagePut_refused ho (if_pos (by rcases hload with h | h <;> simp [h]))

theorem imagePut_loaded (ho : Offered s .imagePut r) (haux : r.aux = 0#16) (hload : s.tiu.load = .loaded) :
    Refused .imagePut s r .state :=
  imagePut_refused ho
    (firstFail_skip (by simp [hload]) <| firstFail_skip (aux_zero haux) <| if_pos (decide_eq_true hload))

theorem imagePut_loading (ho : Offered s .imagePut r) (haux : r.aux = 0#16) (hload : s.tiu.load = .loading) :
    Ends .imagePut s (imagePutTaken r s.quiet) :=
  ends_of_checks_pass (f := fun _ => imagePutTaken) execImagePut rfl (execImagePut_eq s) ho rfl
    (firstFail_skip (by simp [hload]) <| firstFail_skip (aux_zero haux) <| firstFail_skip (by simp [hload]) rfl) rfl

end Sys2Proof.Machine
end

section
/-!
PROOFS. The checks of an image record by its section (R191, Table 12.3).
-/

namespace Sys2Proof.Machine

variable {s t : State} {r : Request} {e : ImageEntry} {p : List Byte} {st : Status} {n : Nat}

/-! ### The section of an image record -/

theorem firstFails_of_eq {a b w : Applied} {ps : List (Prop × Status)} (hab : a = b) (h : FirstFails b w ps) :
    FirstFails a w ps := hab ▸ h

section
variable (s)

theorem applyRecord_settings (hcode : e.code = 1) : applyRecord e s = applySettings e s := by
  simp only [applyRecord, hcode]

theorem applyRecord_client (hcode : e.code = 2) (hpart : e.part = 0) : applyRecord e s = applyClient e s := by
  simp only [applyRecord, hcode, hpart, decide_true]

theorem applyRecord_clientPart (hcode : e.code = 2) (hpart : e.part ≠ 0) : applyRecord e s = applyClientPart e s := by
  simp only [applyRecord, hcode, hpart, decide_false]

theorem applyRecord_coll (hcode : e.code = 3) (hpart : e.part = 0) : applyRecord e s = applyColl e s := by
  simp only [applyRecord, hcode, hpart, decide_true]

theorem applyRecord_members (hcode : e.code = 3) (hpart : e.part ≠ 0) : applyRecord e s = applyMembers e s := by
  simp only [applyRecord, hcode, hpart, decide_false]

theorem applyRecord_object (hcode : e.code = 4) (hpart : e.part = 0) : applyRecord e s = applyObject e s := by
  simp only [applyRecord, hcode, hpart, decide_true]

theorem applyRecord_refs (hcode : e.code = 4) (hpart : e.part ≠ 0) : applyRecord e s = applyRefs e s := by
  simp only [applyRecord, hcode, hpart, decide_false]

theorem applyRecord_chunk (hcode : e.code = 5) : applyRecord e s = applyChunk e s := by
  simp only [applyRecord, hcode]

theorem applyRecord_grant (hcode : e.code = 6) : applyRecord e s = applyGrant e s := by
  simp only [applyRecord, hcode]

theorem applyRecord_order (hcode : e.code = 7) : applyRecord e s = applyOrder e s := by
  simp only [applyRecord, hcode]

theorem applyRecord_release (hcode : e.code = 8) : applyRecord e s = applyRelease e s := by
  simp only [applyRecord, hcode]

theorem applyRecord_deferred (hcode : e.code = 9) : applyRecord e s = applyDeferred e s := by
  simp only [applyRecord, hcode]

theorem applyRecord_trailer (hcode : e.code = 10) : applyRecord e s = applyTrailer e s := by
  simp only [applyRecord, hcode]

theorem applyRecord_unknown (hcode : e.code = 0 ∨ 10 < e.code) : applyRecord e s = .refused .badField := by
  rcases hcode with hcode | hcode
  · simp only [applyRecord, hcode]
  · obtain ⟨k, hk⟩ := Nat.exists_eq_add_of_le hcode
    have hk' : e.code = k + 11 := hk.trans (Nat.add_comm ..)
    simp only [applyRecord, hk']

end

/-! ### Settings -/

theorem settings_checked (e : ImageEntry) (s : State) :
    FirstFails (applySettings e s)
      (.written { s with
        slc.settings := (Settings.ofBytes e.content).clamped s.bpc.totalDraw
        bpc := if ((Settings.ofBytes e.content).clamped s.bpc.totalDraw).budget = s.slc.settings.budget then s.bpc
          else s.bpc.examine ((Settings.ofBytes e.content).clamped s.bpc.totalDraw) } 0 none)
      [(e.number ≠ 0, .badField)] := by
  rw [applySettings, replaceSettings_eq]
  exact checked_one decide_eq_true_iff fun _ => checked_nil

/-! ### Clients -/

theorem activeClientChecks_eq (hactive : byteAt p 1 = 1) (s : State) :
    activeClientChecks s p =
      [((Role.ofCode (byteAt p 3)).isNone, .badField), (!acceptableAddress (slice p 4 6), .badField),
       (s.addressTaken (byteAt p 0) (slice p 4 6), .badField), (decide (16777215 < field p 26 4), .badField),
       (decide (field p 26 4 ≠ 0 ∧ field p 26 4 * 1048576 < field p 30 6), .badField),
       (decide (1 < byteAt p 36), .badField),
       (decide (byteAt p 36 = 1 ∧ (field p 37 2 < 1 ∨ 40320 < field p 37 2 ∨ 3600 < field p 43 2)), .badField),
       (decide (byteAt p 36 = 1 ∧ byteAt p 3 = 2), .badField)] := by
  have hclient : imageClient p =
      { active := true, generation := byteAt p 2, role := (Role.ofCode (byteAt p 3)).getD .unset, address := slice p 4 6,
        label := slice p 10 16, quota := if field p 26 4 = 0 then none else some (field p 26 4), charged := field p 30 6,
        schedule := imageSchedule p, missed := byteAt p 45, filters := [], holdStatus := .empty, held := [] } := if_pos hactive
  have hschedule : (!scheduleInRange (imageSchedule p))
      = decide (byteAt p 36 = 1 ∧ (field p 37 2 < 1 ∨ 40320 < field p 37 2 ∨ 3600 < field p 43 2)) := by
    by_cases h : byteAt p 36 = 1
    · simp only [imageSchedule, if_pos h, scheduleInRange]
      grind
    · simp [imageSchedule, h, scheduleInRange]
  have hviewer : ((imageSchedule p).isSome && decide ((Role.ofCode (byteAt p 3)).getD .unset = .viewer))
      = decide (byteAt p 36 = 1 ∧ byteAt p 3 = 2) := by
    by_cases h : byteAt p 36 = 1
    · simp [imageSchedule, h, roleOfCode_getD_eq_viewer_iff]
    · simp [imageSchedule, h]
  simp only [activeClientChecks, hclient, hschedule, hviewer]
  by_cases hquota : field p 26 4 = 0
  · simp [hquota]
  · simp [hquota]

theorem client_checked (e : ImageEntry) (s : State) :
    let p := e.content
    FirstFails (applyClient e s) (.written (s.setClient e.number (imageClient p)) 0 none)
      [(15 < e.number ∨ byteAt p 0 ≠ e.number ∨ 1 < byteAt p 1, .badField),
       (byteAt p 1 = 0 ∧ ∃ b ∈ slice p 3 43, b ≠ 0#8, .badField),
       (byteAt p 1 = 1 ∧ (byteAt p 3 < 1 ∨ 3 < byteAt p 3), .badField),
       (byteAt p 1 = 1 ∧ ((∀ b ∈ slice p 4 6, b = 0#8) ∨ ((slice p 4 6).getD 0 0#8).getLsbD 0 = true), .badField),
       (byteAt p 1 = 1 ∧ ∃ k < 16, k ≠ e.number ∧ (s.client k).active = true ∧ (s.client k).address = slice p 4 6,
         .badField),
       (byteAt p 1 = 1 ∧ (16777215 < field p 26 4 ∨ field p 26 4 ≠ 0 ∧ field p 26 4 * 1048576 < field p 30 6),
         .badField),
       (byteAt p 1 = 1 ∧ (1 < byteAt p 36
         ∨ byteAt p 36 = 1 ∧ (field p 37 2 < 1 ∨ 40320 < field p 37 2 ∨ 3600 < field p 43 2 ∨ byteAt p 3 = 2)),
         .badField)] := by
  intro p
  rw [applyClient, clientImageChecks]
  refine checked_or decide_eq_true_iff fun _ => checked_or decide_eq_true_iff fun hnumber =>
    checked_one decide_eq_true_iff fun hpresent => ?_
  by_cases hactive : byteAt p 1 = 1
  · rw [if_pos hactive, activeClientChecks_eq hactive]
    refine checked_absent (fun h => absurd (h.1.symm.trans hactive) (by decide)) ?_
    refine checked_given hactive <| checked_one (roleOfCode_isNone_iff _) fun _ => ?_
    refine checked_given hactive <| checked_one (not_acceptableAddress_iff _) fun _ => ?_
    rw [not_not.1 hnumber]
    refine checked_given hactive <| checked_one (addressTaken_iff _ _ _) fun _ => ?_
    refine checked_given hactive <| checked_or decide_eq_true_iff fun _ => checked_one decide_eq_true_iff fun _ => ?_
    refine checked_given hactive <| checked_iff (P := 1 < byteAt p 36
        ∨ byteAt p 36 = 1 ∧ (field p 37 2 < 1 ∨ 40320 < field p 37 2 ∨ 3600 < field p 43 2)
        ∨ byteAt p 36 = 1 ∧ byteAt p 3 = 2) (by grind) ?_
    exact checked_or decide_eq_true_iff fun _ => checked_or decide_eq_true_iff fun _ =>
      checked_one decide_eq_true_iff fun _ => checked_nil
  · have hfree : byteAt p 1 = 0 := by omega
    rw [if_neg hactive]
    refine checked_given hfree <| checked_one (by simp [p]) fun _ => ?_
    exact checked_absent (fun h => hactive h.1) <| checked_absent (fun h => hactive h.1) <|
      checked_absent (fun h => hactive h.1) <| checked_absent (fun h => hactive h.1) <|
      checked_absent (fun h => hactive h.1) checked_nil

theorem filterHead_checked (hhead : s.tiu.cursor.filterHead = none) (e : ImageEntry) :
    let p := e.content
    FirstFails (applyClientPart e s) (.written s 0 (some (field p 0 2, slice p 3 (byteAt p 2))))
      [(1499 < field p 0 2 ∨ byteAt p 2 < 1 ∨ 32 < byteAt p 2 ∨ (s.client e.number).active = false, .badField)] := by
  intro p
  have happly : applyClientPart e s =
      if field p 0 2 ≤ 1499 ∧ 1 ≤ byteAt p 2 ∧ byteAt p 2 ≤ 32 ∧ (s.client e.number).active = true then
        .written s 0 (some (field p 0 2, slice p 3 (byteAt p 2)))
      else .refused .badField := by
    rw [applyClientPart, hhead, applyFilterHead]
  have hrange : ¬ (field p 0 2 ≤ 1499 ∧ 1 ≤ byteAt p 2 ∧ byteAt p 2 ≤ 32 ∧ (s.client e.number).active = true)
      ↔ 1499 < field p 0 2 ∨ byteAt p 2 < 1 ∨ 32 < byteAt p 2 ∨ (s.client e.number).active = false := by
    rw [not_and_or, not_and_or, not_and_or, Nat.not_le, Nat.not_le, Nat.not_le, Bool.not_eq_true]
  rw [happly]
  exact ⟨fun hbad => if_neg (hrange.2 hbad), fun hgood => if_pos (not_not.1 (mt hrange.1 hgood))⟩

theorem filterMask_written {offset : Nat} {pattern : List Byte}
    (hhead : s.tiu.cursor.filterHead = some (offset, pattern)) (e : ImageEntry) :
    applyClientPart e s = .written (s.setClient e.number { s.client e.number with
      filters := (s.client e.number).filters
        ++ [{ offset := offset, pattern := pattern, mask := slice e.content 0 pattern.length }] }) 0 none := by
  simp only [applyClientPart, hhead, applyFilterMask]

/-! ### Collections -/

theorem collStateOfCode_isNone_iff (n : Nat) : (CollState.ofCode n).isNone = true ↔ n < 1 ∨ 3 < n := by
  match n with
  | 0 | 1 | 2 | 3 => decide
  | n + 4 => simp [CollState.ofCode]

/-- A closed time that disagrees with state and kind, of codes in range (Table 5.4, Table 5.5). -/
theorem not_closedAgrees_iff (hstate : ¬ (byteAt p 2 < 1 ∨ 3 < byteAt p 2)) (hkind : ¬ (byteAt p 3 < 1 ∨ 2 < byteAt p 3))
    (hclosed : ¬ 1 < byteAt p 10) :
    (!(imageColl p).closedAgrees) = true ↔
      byteAt p 2 = 1 ∧ byteAt p 10 = 1 ∨ byteAt p 2 = 2 ∧ (byteAt p 10 = 0 ∨ byteAt p 3 = 2)
        ∨ byteAt p 2 = 3 ∧ byteAt p 10 = 1 ∧ byteAt p 3 = 2 := by
  have hclosed' : byteAt p 10 = 0 ∨ byteAt p 10 = 1 := by omega
  have hkind' : byteAt p 3 = 1 ∨ byteAt p 3 = 2 := by omega
  have hstate' : byteAt p 2 = 1 ∨ byteAt p 2 = 2 ∨ byteAt p 2 = 3 := by omega
  rw [imageColl, Coll.closedAgrees, optionField]
  rcases hstate' with h | h | h <;> rcases hkind' with hk | hk <;> rcases hclosed' with hc | hc <;>
    simp [h, hk, hc, CollState.ofCode, CollKind.ofCode]

theorem not_ownerStands_iff (s : State) (c g : Nat) :
    (!s.ownerStands c g) = true ↔ ¬ ((s.client c).active = true ∧ (s.client c).generation = g) := by
  rw [State.ownerStands, Bool.not_eq_true', ← Bool.not_eq_true, Bool.and_eq_true, decide_eq_true_iff]

theorem coll_checked (e : ImageEntry) (s : State) :
    let p := e.content
    let state := byteAt p 2
    let kind := byteAt p 3
    FirstFails (applyColl e s) (.written (s.setColl e.number (imageColl p)) (field p 15 3) none)
      [(1024 ≤ e.number ∨ field p 0 2 ≠ e.number ∨ state < 1 ∨ 3 < state ∨ kind < 1 ∨ 2 < kind, .badField),
       (15 < byteAt p 4 ∨ 1 < byteAt p 10 ∨ 262144 < field p 15 3 ∨ byteAt p 18 ≠ 0, .badField),
       (state = 1 ∧ byteAt p 10 = 1 ∨ state = 2 ∧ (byteAt p 10 = 0 ∨ kind = 2) ∨ state = 3 ∧ byteAt p 10 = 1 ∧ kind = 2,
         .badField),
       (¬ ((s.client (byteAt p 4)).active = true ∧ (s.client (byteAt p 4)).generation = byteAt p 5), .noSuch)] := by
  intro p state kind
  rw [applyColl, collImageChecks]
  refine checked_or decide_eq_true_iff fun _ => checked_or decide_eq_true_iff fun _ => ?_
  refine checked_iff (P := (state < 1 ∨ 3 < state) ∨ kind < 1 ∨ 2 < kind) or_assoc ?_
  refine checked_or (collStateOfCode_isNone_iff _) fun hstate => checked_one (collKindOfCode_isNone_iff _) fun hkind => ?_
  refine checked_or decide_eq_true_iff fun _ => checked_or decide_eq_true_iff fun hclosed => ?_
  rw [Checked, when_swap]
  refine checked_or decide_eq_true_iff fun _ => ?_
  rw [Checked, when_swap]
  exact checked_one decide_eq_true_iff fun _ => checked_one (not_closedAgrees_iff hstate hkind hclosed) fun _ =>
    checked_one (not_ownerStands_iff _ _ _) fun _ => checked_nil

theorem ascending_iff (l : List Nat) : ascending l = true ↔ l.Pairwise (· < ·) := by
  rw [← List.isChain_iff_pairwise]
  match l with
  | [] => simp [ascending]
  | [a] => simp [ascending]
  | a :: b :: rest => rw [ascending, Bool.and_eq_true, decide_eq_true_iff, List.isChain_cons_cons, ascending_iff (b :: rest),
      List.isChain_iff_pairwise]

theorem fieldsOf_start (p : List Byte) (n : Nat) : fieldsOf p 0 n = (List.range n).map fun k => field p (4 * k) 4 := by
  simp [fieldsOf]

theorem members_checked (e : ImageEntry) (s : State) :
    let p := e.content
    let l := s.coll e.number
    let n := min s.tiu.cursor.want 13
    let ms := (List.range n).map fun k => field p (4 * k) 4
    let pages (slots : Nat) := (slots + 63) / 64
    let used := l.members.length + l.reserved
    FirstFails (applyMembers e s)
      (.written { s with oct := { s.oct with
        colls := Table.write Coll.free s.oct.colls e.number { l with members := l.members ++ ms }
        freePages := s.oct.freePages + pages used - pages (used + n) } } (s.tiu.cursor.want - n) none)
      [(∃ m ∈ ms, 1048576 ≤ m, .badField),
       (¬ (l.members.getLast?.toList ++ ms).Pairwise (· < ·), .badField),
       (pages used + s.oct.freePages < pages (used + n), .poolFull)] := by
  intro p l n ms pages used
  have hlength : ms.length = n := by simp [ms]
  have hslots : ({ l with members := l.members ++ ms } : Coll).slots = used + n := by
    rw [Coll.slots, List.length_append, hlength]
    exact Nat.add_right_comm ..
  have happly : applyMembers e s = Applied.when
      [(ms.any (fun m => decide (1048576 ≤ m)), .badField), (!ascending (l.members.getLast?.toList ++ ms), .badField),
       (!s.poolFits used (used + n), .poolFull)]
      { s with oct := { s.oct with
        colls := Table.write Coll.free s.oct.colls e.number { l with members := l.members ++ ms }
        freePages := s.oct.freePages + pages used - pages (used + n) } } (s.tiu.cursor.want - n) := by
    rw [applyMembers, fieldsOf_start, replaceColl, hslots, hlength]
    rfl
  rw [happly]
  exact checked_one (by simp) fun _ => checked_one (by rw [Bool.not_eq_true', ← Bool.not_eq_true, ascending_iff]) fun _ =>
    checked_one (not_poolFits_iff _ _ _) fun _ => checked_nil

/-! ### Objects -/

theorem objectStateOfCode_isNone_iff (n : Nat) : (ObjectState.ofCode n).isNone = true ↔ n < 2 ∨ 3 < n := by
  match n with
  | 0 | 1 | 2 | 3 => decide
  | n + 4 => simp [ObjectState.ofCode]

theorem object_checked (e : ImageEntry) (s : State) :
    let p := e.content
    FirstFails (applyObject e s) (.written (s.setObject e.number (imageObject p)) (field p 11 4) none)
      [(1048576 ≤ e.number ∨ byteAt p 0 < 2 ∨ 3 < byteAt p 0 ∨ 15 < byteAt p 1 ∨ 68719476735 < field p 3 6
          ∨ 1024 < field p 9 2, .badField),
       (byteAt p 0 = 2 ∧ field p 9 2 = 0 ∨ byteAt p 0 = 3 ∧ field p 9 2 ≠ 0, .badField)] := by
  intro p
  rw [applyObject, objectImageChecks]
  refine checked_or decide_eq_true_iff fun _ => ?_
  refine checked_iff (P := (byteAt p 0 < 2 ∨ 3 < byteAt p 0) ∨ 15 < byteAt p 1 ∨ 68719476735 < field p 3 6
    ∨ 1024 < field p 9 2) or_assoc ?_
  refine checked_or (objectStateOfCode_isNone_iff _) fun hstate => checked_or decide_eq_true_iff fun _ =>
    checked_or decide_eq_true_iff fun _ => checked_one decide_eq_true_iff fun _ => checked_one ?_ fun _ => checked_nil
  have hcode : byteAt p 0 = 2 ∨ byteAt p 0 = 3 := by omega
  rcases hcode with h | h
  · simp [imageObject, p, h, ObjectState.ofCode]
  · simp [imageObject, p, h, ObjectState.ofCode, Nat.pos_iff_ne_zero]

theorem setRecipe_eq (n : Nat) (recipe : List Ref) (s : State) :
    setRecipe n recipe s =
      { s with oct := { s.oct with
        objects := Table.write Obj.free s.oct.objects n { s.object n with recipe := recipe }
        freePages := s.oct.freePages + (recipeSlots (s.object n).recipe + 63) / 64 - (recipeSlots recipe + 63) / 64 } } := rfl

/-- The references of a continuation join the recipe past its own checks, while the pool has the pages they need (R91). -/
theorem appendRefs_eq (n : Nat) (refs : List Ref) (checks : List (Bool × Status)) (want : Nat) (s : State) :
    appendRefs n refs checks want s = Applied.when
      (checks ++ [(!s.poolFits (recipeSlots (s.object n).recipe) (recipeSlots ((s.object n).recipe ++ refs)), .poolFull)])
      (setRecipe n ((s.object n).recipe ++ refs) s) (want - refs.length) := rfl

theorem not_extentInRange_iff (bay block length : Nat) :
    (!extentInRange bay block length) = true ↔ 3 < bay ∨ 17179869184 ≤ block ∨ length < 1 ∨ 131072 < length := by
  have hblocks : Config.blockCount = 17179869184 := rfl
  simp only [extentInRange, hblocks, Bool.not_eq_true', Bool.and_eq_false_iff, decide_eq_false_iff_not]
  omega

theorem indexed_checked (htag : byteAt e.content 0 = 1) (s : State) :
    let p := e.content
    let o := s.object e.number
    let want := s.tiu.cursor.want
    let k := byteAt p 1
    let hs := (List.range k).map fun j => field p (2 + 4 * j) 4
    FirstFails (applyRefs e s)
      (.written (setRecipe e.number (o.recipe ++ hs.map Ref.indexed) s) (want - (hs.map Ref.indexed).length) none)
      [(k < 1 ∨ 12 < k ∨ want < k ∨ ∃ h ∈ hs, 33554432 ≤ h, .badField),
       ((recipeSlots o.recipe + 63) / 64 + s.oct.freePages < (recipeSlots (o.recipe ++ hs.map Ref.indexed) + 63) / 64,
         .poolFull)] := by
  intro p o want k hs
  have happly : applyRefs e s = appendRefs e.number (hs.map Ref.indexed)
      [(decide (k < 1) || decide (12 < k) || decide (want < k), .badField),
       (hs.any (fun h => decide (33554432 ≤ h)), .badField)] want s := by
    simp only [applyRefs, htag]
    rfl
  rw [happly, appendRefs_eq]
  refine checked_iff (P := (k < 1 ∨ 12 < k ∨ want < k) ∨ ∃ h ∈ hs, 33554432 ≤ h) (by rw [or_assoc, or_assoc]) ?_
  exact checked_or (by simp [or_assoc]) fun _ => checked_one (by simp) fun _ =>
    checked_one (not_poolFits_iff _ _ _) fun _ => checked_nil

theorem private_checked (htag : byteAt e.content 0 = 2) (s : State) :
    let p := e.content
    let o := s.object e.number
    FirstFails (applyRefs e s)
      (.written (setRecipe e.number (o.recipe ++ [imagePrivate p]) s) (s.tiu.cursor.want - [imagePrivate p].length) none)
      [(1 < byteAt p 1 ∨ field p 9 3 < 1 ∨ 131072 < field p 9 3, .badField),
       (byteAt p 2 ≠ 255 ∧ (3 < byteAt p 2 ∨ 17179869184 ≤ field p 3 6), .badField),
       (byteAt p 2 = 255 ∧ o.state = .complete, .badField),
       ((recipeSlots o.recipe + 63) / 64 + s.oct.freePages < (recipeSlots (o.recipe ++ [imagePrivate p]) + 63) / 64,
         .poolFull)] := by
  intro p o
  have happly (bay block : Nat) (hbay : (if byteAt p 2 = 255 then 0 else byteAt p 2) = bay)
      (hblock : (if byteAt p 2 = 255 then 0 else field p 3 6) = block) :
      applyRefs e s = appendRefs e.number [imagePrivate p]
        [(decide (1 < byteAt p 1), .badField), (!extentInRange bay block (field p 9 3), .badField),
         (decide (byteAt p 2 = 255) && decide (o.state = .complete), .badField)] s.tiu.cursor.want s := by
    simp only [applyRefs, htag, decide_eq_true_eq]
    rw [hbay, hblock]
  by_cases habsent : byteAt p 2 = 255
  · rw [happly 0 0 (if_pos habsent) (if_pos habsent), appendRefs_eq]
    refine checked_or decide_eq_true_iff fun _ => checked_one ?_ fun _ => ?_
    · rw [not_extentInRange_iff]
      omega
    · exact checked_absent (fun h => h.1 habsent) <| checked_one (by simp) fun _ =>
        checked_one (not_poolFits_iff _ _ _) fun _ => checked_nil
  · rw [happly _ _ (if_neg habsent) (if_neg habsent), appendRefs_eq]
    refine checked_or decide_eq_true_iff fun _ => checked_both ?_ fun _ _ => ?_
    · rw [not_extentInRange_iff]
      omega
    · exact checked_one (by simp) fun _ => checked_one (not_poolFits_iff _ _ _) fun _ => checked_nil

theorem refs_unknown (hone : byteAt e.content 0 ≠ 1) (htwo : byteAt e.content 0 ≠ 2) (s : State) :
    applyRefs e s = .refused .badField := by
  rw [applyRefs]
  split
  next h => exact absurd h hone
  next h => exact absurd h htwo
  · rfl

/-! ### Chunk entries -/

theorem chunkStateOfCode_isNone_iff (n : Nat) : (ChunkState.ofCode n).isNone = true ↔ n < 2 ∨ 4 < n := by
  match n with
  | 0 | 1 | 2 | 3 | 4 => decide
  | n + 5 => simp [ChunkState.ofCode]

/-- A location and a payer that disagree with a state in range (Table 4.2). -/
theorem not_stateAgrees_iff (hstate : ¬ (byteAt p 0 < 2 ∨ 4 < byteAt p 0)) :
    (!(imageChunk p).stateAgrees) = true ↔
      byteAt p 0 = 3 ∧ (byteAt p 7 ≠ 255 ∨ byteAt p 16 = 1) ∨ byteAt p 0 ≠ 3 ∧ byteAt p 7 = 255 := by
  have hstate' : byteAt p 0 = 2 ∨ byteAt p 0 = 3 ∨ byteAt p 0 = 4 := by omega
  rw [imageChunk, Chunk.stateAgrees]
  rcases hstate' with h | h | h <;> by_cases hloc : byteAt p 7 = 255 <;> by_cases hpayer : byteAt p 16 = 1 <;>
    simp [h, hloc, hpayer, ChunkState.ofCode]

theorem not_locInRange_iff (p : List Byte) :
    (!locInRange (imageChunk p).loc) = true ↔ byteAt p 7 ≠ 255 ∧ (3 < byteAt p 7 ∨ 17179869184 ≤ field p 8 8) := by
  have hblocks : Config.blockCount = 17179869184 := rfl
  rw [imageChunk]
  by_cases hloc : byteAt p 7 = 255
  · simp [hloc, locInRange]
  · simp only [if_neg hloc, locInRange, hblocks, Bool.not_eq_true', Bool.and_eq_false_iff, decide_eq_false_iff_not]
    omega

theorem chunk_checked (e : ImageEntry) (s : State) :
    let p := e.content
    let x := imageChunk p
    let d := digestBytes x.digest
    FirstFails (applyChunk e s) (.written (s.setChunk e.number x) 0 none)
      [(33554432 ≤ e.number ∨ byteAt p 0 < 2 ∨ 4 < byteAt p 0 ∨ field p 1 3 = 0 ∨ field p 4 3 < 1
          ∨ 131072 < field p 4 3, .badField),
       (byteAt p 7 ≠ 255 ∧ (3 < byteAt p 7 ∨ 17179869184 ≤ field p 8 8), .badField),
       (1 < byteAt p 16 ∨ byteAt p 16 = 1 ∧ 15 < byteAt p 17, .badField),
       (byteAt p 0 = 3 ∧ (byteAt p 7 ≠ 255 ∨ byteAt p 16 = 1) ∨ byteAt p 0 ≠ 3 ∧ byteAt p 7 = 255, .badField),
       (byteAt d 0 * 8192 + byteAt d 1 * 32 + byteAt d 2 / 8 ≠ e.number / 16, .badField),
       (∃ h, s.findDigest x.digest = some h, .badField)] := by
  intro p x d
  rw [applyChunk, chunkImageChecks, bucketOf_eq]
  refine checked_or decide_eq_true_iff fun _ => ?_
  refine checked_iff (P := (byteAt p 0 < 2 ∨ 4 < byteAt p 0) ∨ field p 1 3 = 0 ∨ field p 4 3 < 1 ∨ 131072 < field p 4 3)
    or_assoc ?_
  refine checked_or (chunkStateOfCode_isNone_iff _) fun hstate => checked_or decide_eq_true_iff fun _ =>
    checked_one (by rw [Bool.or_eq_true, decide_eq_true_iff, decide_eq_true_iff]; exact Iff.rfl) fun _ => ?_
  refine checked_one (not_locInRange_iff p) fun _ => checked_one (by simp [p]) fun _ =>
    checked_one (not_stateAgrees_iff hstate) fun _ => ?_
  exact checked_one decide_eq_true_iff fun _ => checked_one (Option.isSome_iff_exists) fun _ => checked_nil

/-! ### Grants -/

theorem imageGrant_eq_none_iff (p : List Byte) :
    imageGrant p = none ↔
      byteAt p 1 ≠ 1 ∨ 16 ≤ byteAt p 2 ∧ byteAt p 2 ≠ 255
        ∨ ¬ (byteAt p 3 = 1 ∧ field p 4 2 < 1024 ∨ byteAt p 3 = 2 ∧ field p 4 2 < 16)
        ∨ 3 < byteAt p 6 ∨ 1439 < field p 7 2 ∨ 1439 < field p 9 2 ∨ 1 < byteAt p 11 := by
  have hwho := granteeOfCode_eq_none_iff (byteAt p 2)
  have hon := targetOfCode_eq_none_iff (byteAt p 3) (field p 4 2)
  have hmode := modeOfCode_eq_none_iff (byteAt p 6)
  cases hw : Grantee.ofCode (byteAt p 2) with
  | none =>
    have hbad := hwho.1 hw
    exact iff_of_true (by simp only [imageGrant, hw]) (by omega)
  | some who =>
    cases ht : Target.ofCode (byteAt p 3) (field p 4 2) with
    | none =>
      have hbad := hon.1 ht
      exact iff_of_true (by simp only [imageGrant, hw, ht]) (.inr <| .inr <| .inl hbad)
    | some on =>
      cases hm : Mode.ofCode (byteAt p 6) with
      | none =>
        have hbad := hmode.1 hm
        exact iff_of_true (by simp only [imageGrant, hw, ht, hm]) (.inr <| .inr <| .inr <| .inl hbad)
      | some mode =>
        have hwho' : byteAt p 2 < 16 ∨ byteAt p 2 = 255 := not_not.1 (mt hwho.2 (by simp [hw]))
        have hon' : byteAt p 3 = 1 ∧ field p 4 2 < 1024 ∨ byteAt p 3 = 2 ∧ field p 4 2 < 16 := not_not.1 (mt hon.2 (by simp [ht]))
        have hmode' : ¬ 3 < byteAt p 6 := mt hmode.2 (by simp [hm])
        simp only [imageGrant, hw, ht, hm, ite_eq_left_iff, reduceCtorEq, imp_false, not_not]
        omega

theorem granteeMissing_iff (s : State) (who : Grantee) :
    s.granteeMissing who = true ↔ ∃ c, who = .client c ∧ (s.client c).active = false := by
  cases who with
  | client c => simp [State.granteeMissing]
  | anyViewer => simp [State.granteeMissing]

theorem grant_checked {g : Grant} (hg : imageGrant e.content = some g) (s : State) :
    let p := e.content
    FirstFails (applyGrant e s) (.written (s.setGrant e.number g) 0 none)
      [(256 ≤ e.number ∨ byteAt p 0 ≠ e.number, .badField),
       (∃ c, g.grantee = .client c ∧ (s.client c).active = false, .noSuch),
       (∃ a, g.target = .album a ∧ (s.coll a).state = .free, .noSuch),
       (∃ c, g.target = .allOf c ∧ (s.client c).active = false, .noSuch),
       (∃ a, g.target = .album a ∧ ((s.coll a).kind = .snapshot ∨ (s.coll a).state ≠ .open), .state),
       (∃ n, s.grantOf g.grantee g.target = some n, .state)] := by
  intro p
  have happly : applyGrant e s = Applied.when
      ([(decide (256 ≤ e.number), .badField), (decide (byteAt p 0 ≠ e.number), .badField),
        (s.granteeMissing g.grantee, .noSuch)]
        ++ importTargetChecks s g.target ++ [((s.grantOf g.grantee g.target).isSome, .state)])
      (s.setGrant e.number g) 0 := by
    simp only [applyGrant, hg]
    rfl
  rw [happly]
  refine checked_or decide_eq_true_iff fun _ => checked_one decide_eq_true_iff fun _ =>
    checked_one (granteeMissing_iff _ _) fun _ => ?_
  cases g.target with
  | album a =>
    refine checked_one (by simp) fun _ => checked_absent (by simp) <| checked_one (by simp) fun _ => ?_
    exact checked_one Option.isSome_iff_exists fun _ => checked_nil
  | allOf c =>
    refine checked_absent (by simp) <| checked_one (by simp) fun _ => checked_absent (by simp) ?_
    exact checked_one Option.isSome_iff_exists fun _ => checked_nil

theorem grant_unread (hg : imageGrant e.content = none) (s : State) : applyGrant e s = .refused .badField := by
  rw [applyGrant, hg]

/-! ### Orders, extents and the trailer -/

theorem order_checked {o : Order} (ho : imageOrder e.content = some o) (s : State) :
    FirstFails (applyOrder e s) (.written { s with rtu.orders := s.rtu.orders ++ [o] } 0 none)
      [(s.orderMissing o = true, .noSuch), (s.orderRetiring o = false ∨ o ∈ s.rtu.orders, .state)] := by
  simp only [applyOrder, ho]
  exact checked_one Iff.rfl fun _ => checked_or (Bool.not_eq_true' _ ▸ Iff.rfl) fun _ =>
    checked_one decide_eq_true_iff fun _ => checked_nil

theorem imageOrder_coll (htag : byteAt p 0 = 1) (hn : field p 1 4 < 1024) : imageOrder p = some (.coll (field p 1 4)) := by
  rw [imageOrder, htag]
  exact if_pos hn

theorem imageOrder_object (htag : byteAt p 0 = 2) (hn : field p 1 4 < 1048576) :
    imageOrder p = some (.object (field p 1 4)) := by
  rw [imageOrder, htag]
  exact if_pos hn

theorem imageOrder_none (h : ¬ (byteAt p 0 = 1 ∧ field p 1 4 < 1024 ∨ byteAt p 0 = 2 ∧ field p 1 4 < 1048576)) :
    imageOrder p = none := by
  rw [imageOrder]
  split
  next htag => exact if_neg fun hn => h (.inl ⟨htag, hn⟩)
  next htag => exact if_neg fun hn => h (.inr ⟨htag, hn⟩)
  · rfl

theorem order_unread (ho : imageOrder e.content = none) (s : State) : applyOrder e s = .refused .badField := by
  rw [applyOrder, ho]

theorem release_checked (e : ImageEntry) (s : State) :
    let x := imageExtent e.content
    FirstFails (applyRelease e s) (.written { s with rtu.release := s.rtu.release ++ [x] } 0 none)
      [(3 < x.bay ∨ 17179869184 ≤ x.block ∨ x.length < 1 ∨ 131072 < x.length, .badField),
       (4096 ≤ s.rtu.release.length, .full)] :=
  checked_one (not_extentInRange_iff _ _ _) fun _ => checked_one decide_eq_true_iff fun _ => checked_nil

theorem not_tagFollows_iff (w : Rtu) (tag : Epoch) :
    (!w.tagFollows tag) = true ↔ ∃ d, w.deferred.getLast? = some d ∧ 2147483648 ≤ (tag - d.tag).toNat := by
  rw [Rtu.tagFollows]
  cases w.deferred.getLast? with
  | none => simp
  | some d => simp [atOrBefore]

theorem deferred_checked (e : ImageEntry) (s : State) :
    let x := imageExtent e.content
    let tag : Epoch := BitVec.ofNat 32 (field e.content 12 4)
    FirstFails (applyDeferred e s)
      (.written { s with rtu.deferred := s.rtu.deferred ++ [{ extent := x, tag := tag }] } 0 none)
      [(3 < x.bay ∨ 17179869184 ≤ x.block ∨ x.length < 1 ∨ 131072 < x.length, .badField),
       (∃ d, s.rtu.deferred.getLast? = some d ∧ 2147483648 ≤ (tag - d.tag).toNat, .badField),
       (256 ≤ s.rtu.deferred.length, .full)] :=
  checked_one (not_extentInRange_iff _ _ _) fun _ => checked_one (not_tagFollows_iff _ _) fun _ =>
    checked_one decide_eq_true_iff fun _ => checked_nil

theorem trailer_checked (e : ImageEntry) (s : State) :
    FirstFails (applyTrailer e s)
      (.written { s with tiu.cursor.trailer := some ((List.range 9).map fun k => field e.content (4 * k) 4) } 0 none)
      [(e.number ≠ 0, .badField)] := by
  rw [applyTrailer, fieldsOf_start]
  exact checked_one decide_eq_true_iff fun _ => checked_nil

end Sys2Proof.Machine
end

section
/-!
PROOFS. IMAGE_END: the five checks of the tables, the record a failure names, and the effect of a success (R192).
-/

namespace Sys2Proof.Machine

variable {s t : State} {r : Request} {k : Nat}

/-! ### The first record found failing -/

section
variable {α β : Type}

theorem find_of_firstAt {l : List α} {p : α → Bool} {P : α → Prop} {x : α} (hp : ∀ y, p y = true ↔ P y)
    (h : FirstAt l P k x) : l.find? p = some x := by
  obtain ⟨before, after, rfl, -, hx, hbefore⟩ := h
  rw [List.find?_eq_some_iff_append]
  exact ⟨(hp x).2 hx, before, after, rfl, fun y hy => by simpa using mt (hp y).1 (hbefore y hy)⟩

theorem findIdx_of_firstAt {l : List α} {p : α → Bool} {P : α → Prop} {x : α} (hp : ∀ y, p y = true ↔ P y)
    (h : FirstAt l P k x) : l.findIdx? p = some k := by
  obtain ⟨before, after, rfl, rfl, hx, hbefore⟩ := h
  have hnone : before.findIdx? p = none := by
    rw [List.findIdx?_eq_none_iff]
    exact fun y hy => Bool.eq_false_iff.2 (mt (hp y).1 (hbefore y hy))
  rw [List.findIdx?_append, hnone, List.findIdx?_cons, if_pos ((hp x).2 hx)]
  simp

theorem find_eq_none {l : List α} {p : α → Bool} {P : α → Prop} (hp : ∀ y, p y = true ↔ P y) :
    l.find? p = none ↔ ∀ x ∈ l, ¬ P x := by
  simp only [List.find?_eq_none, hp]

theorem findIdx_eq_none {l : List α} {p : α → Bool} {P : α → Prop} (hp : ∀ y, p y = true ↔ P y) :
    l.findIdx? p = none ↔ ∀ x ∈ l, ¬ P x := by
  simp only [List.findIdx?_eq_none_iff, ← Bool.not_eq_true, hp]

variable {as : List (Nat × α)} {bs : List (Nat × β)} {p : Nat × α → Bool} {q : Nat × β → Bool} {P : Nat × α → Prop}
  {Q : Nat × β → Prop}

/-- The number of the first record that fails in one table, or else in a second. -/
def firstNumber (as : List (Nat × α)) (p : Nat × α → Bool) (bs : List (Nat × β)) (q : Nat × β → Bool) : Option Nat :=
  ((as.find? p).map (·.1)).or ((bs.find? q).map (·.1))

theorem firstNumber_eq_none (hp : ∀ y, p y = true ↔ P y) (hq : ∀ y, q y = true ↔ Q y) :
    firstNumber as p bs q = none ↔ (∀ x ∈ as, ¬ P x) ∧ ∀ x ∈ bs, ¬ Q x := by
  rw [firstNumber, Option.or_eq_none_iff, Option.map_eq_none_iff, Option.map_eq_none_iff, find_eq_none hp, find_eq_none hq]

theorem firstNumber_first (hp : ∀ y, p y = true ↔ P y) {x : Nat × α} (h : FirstAt as P k x) :
    firstNumber as p bs q = some x.1 := by
  rw [firstNumber, find_of_firstAt hp h]
  exact Option.some_or

theorem firstNumber_second (hp : ∀ y, p y = true ↔ P y) (hq : ∀ y, q y = true ↔ Q y) (hfirst : ∀ x ∈ as, ¬ P x)
    {x : Nat × β} (h : FirstAt bs Q k x) : firstNumber as p bs q = some x.1 := by
  rw [firstNumber, (find_eq_none hp).2 hfirst, find_of_firstAt hq h]
  exact Option.none_or

end

/-! ### The checks of the tables (R192) -/

section
variable (s)

/-- An object with an INDEXED reference that names an EMPTY entry. -/
def Dangling (x : Nat × Obj) : Prop := ∃ h, .indexed h ∈ x.2.recipe ∧ (s.chunk h).state = .empty

/-- An entry whose count is neither pinned nor that of its references. -/
def Miscounted (x : Nat × Chunk) : Prop :=
  x.2.refcount ≠ 16777215 ∧ x.2.refcount ≠ (s.oct.objects.map fun o => o.2.recipe.count (.indexed x.1)).sum

/-- A collection with a member that is FREE. -/
def Stray (x : Nat × Coll) : Prop := ∃ m ∈ x.2.members, (s.object m).state = .free

/-- An object whose holders are not the lists that contain it. -/
def Misheld (x : Nat × Obj) : Prop :=
  x.2.holders ≠ (s.oct.colls.filter fun l => decide (x.1 ∈ l.2.members)).length

/-- A RETIRING collection without an order. -/
def UnnamedColl (x : Nat × Coll) : Prop := x.2.state = .retiring ∧ .coll x.1 ∉ s.rtu.orders

/-- A RETIRING object without an order. -/
def UnnamedObj (x : Nat × Obj) : Prop := x.2.state = .retiring ∧ .object x.1 ∉ s.rtu.orders

/-- An extent that meets one of a live entry or of a PRIVATE reference. -/
def Meets (x : Extent) : Prop :=
  (∃ e ∈ s.chunks, ∃ l, e.2.loc = some l ∧ x.overlaps (l.extent e.2.length) = true)
    ∨ ∃ o ∈ s.oct.objects, ∃ l n d m, .priv (some l) n d m ∈ o.2.recipe ∧ x.overlaps (l.extent n) = true

theorem dangling_iff (x : Nat × Obj) : x.2.recipe.any s.dangling = true ↔ Dangling s x := by
  rw [List.any_eq_true]
  constructor
  · rintro ⟨ref, href, hdangling⟩
    cases ref with
    | indexed h => exact ⟨h, href, of_decide_eq_true hdangling⟩
    | priv l n d m => exact absurd hdangling Bool.false_ne_true
  · rintro ⟨h, hmem, hempty⟩
    exact ⟨_, hmem, decide_eq_true hempty⟩

theorem refsTo_eq (h : Nat) : s.refsTo h = (s.oct.objects.map fun o => o.2.recipe.count (.indexed h)).sum := by
  have hcount (recipe : List Ref) : refsTo h recipe = recipe.count (.indexed h) :=
    List.countP_congr fun ref _ => by rw [decide_eq_true_iff, beq_iff_eq]
  simp only [State.refsTo, hcount]

theorem miscounted_iff (x : Nat × Chunk) :
    (decide (x.2.refcount ≠ Config.pinned) && decide (x.2.refcount ≠ s.refsTo x.1)) = true ↔ Miscounted s x := by
  rw [Bool.and_eq_true, decide_eq_true_iff, decide_eq_true_iff, refsTo_eq, Miscounted]

theorem stray_iff (x : Nat × Coll) : (x.2.members.any fun m => decide ((s.object m).state = .free)) = true ↔ Stray s x := by
  simp only [List.any_eq_true, decide_eq_true_iff, Stray]

theorem misheld_iff (x : Nat × Obj) : decide (x.2.holders ≠ s.listsOf x.1) = true ↔ Misheld s x := by
  rw [decide_eq_true_iff, State.listsOf, List.countP_eq_length_filter, Misheld]

theorem unnamedColl_iff (x : Nat × Coll) :
    (decide (x.2.state = .retiring) && decide (.coll x.1 ∉ s.rtu.orders)) = true ↔ UnnamedColl s x := by
  rw [Bool.and_eq_true, decide_eq_true_iff, decide_eq_true_iff, UnnamedColl]

theorem unnamedObj_iff (x : Nat × Obj) :
    (decide (x.2.state = .retiring) && decide (.object x.1 ∉ s.rtu.orders)) = true ↔ UnnamedObj s x := by
  rw [Bool.and_eq_true, decide_eq_true_iff, decide_eq_true_iff, UnnamedObj]

theorem mem_liveExtents_iff (y : Extent) :
    y ∈ s.liveExtents ↔ (∃ e ∈ s.chunks, ∃ l, e.2.loc = some l ∧ l.extent e.2.length = y)
      ∨ ∃ o ∈ s.oct.objects, ∃ l n d m, .priv (some l) n d m ∈ o.2.recipe ∧ l.extent n = y := by
  rw [State.liveExtents, List.mem_append, List.mem_filterMap, List.mem_flatMap]
  refine or_congr ?_ ?_
  · simp only [Option.map_eq_some_iff]
  · refine exists_congr fun o => and_congr_right fun _ => ?_
    rw [List.mem_filterMap]
    constructor
    · rintro ⟨ref, href, hy⟩
      split at hy
      next l n d m => exact ⟨l, n, d, m, href, Option.some_inj.1 hy⟩
      · contradiction
    · rintro ⟨l, n, d, m, href, rfl⟩
      exact ⟨_, href, rfl⟩

theorem meets_iff (x : Extent) : s.liveExtents.any x.overlaps = true ↔ Meets s x := by
  simp only [List.any_eq_true, mem_liveExtents_iff, Meets]
  constructor
  · rintro ⟨y, ⟨e, he, l, hl, rfl⟩ | ⟨o, ho, l, n, d, m, hm, rfl⟩, hover⟩
    · exact .inl ⟨e, he, l, hl, hover⟩
    · exact .inr ⟨o, ho, l, n, d, m, hm, hover⟩
  · rintro (⟨e, he, l, hl, hover⟩ | ⟨o, ho, l, n, d, m, hm, hover⟩)
    · exact ⟨_, .inl ⟨e, he, l, hl, rfl⟩, hover⟩
    · exact ⟨_, .inr ⟨o, ho, l, n, d, m, hm, rfl⟩, hover⟩

theorem failedRefs_eq : s.failedRefs = firstNumber s.oct.objects (fun x => x.2.recipe.any s.dangling) s.chunks
    (fun x => decide (x.2.refcount ≠ Config.pinned) && decide (x.2.refcount ≠ s.refsTo x.1)) := rfl

theorem failedMembers_eq : s.failedMembers = firstNumber s.oct.colls
    (fun x => x.2.members.any fun m => decide ((s.object m).state = .free)) s.oct.objects
    (fun x => decide (x.2.holders ≠ s.listsOf x.1)) := rfl

theorem failedOrders_eq : s.failedOrders = firstNumber s.oct.colls
    (fun x => decide (x.2.state = .retiring) && decide (.coll x.1 ∉ s.rtu.orders)) s.oct.objects
    (fun x => decide (x.2.state = .retiring) && decide (.object x.1 ∉ s.rtu.orders)) := rfl

theorem failedExtents_eq : s.failedExtents = (s.rtu.release.findIdx? fun x => s.liveExtents.any x.overlaps).or
    ((s.rtu.deferred.map Deferred.extent).findIdx? fun x => s.liveExtents.any x.overlaps) := by
  rw [List.findIdx?_map]
  rfl

end

/-! ### The first check that fails -/

section
variable (hcounted : s.tiu.cursor.trailer = some s.tiu.cursor.applied) {n : Nat}

theorem failedCheck_uncounted (h : ¬ s.tiu.cursor.trailer = some s.tiu.cursor.applied) :
    s.failedCheck = some (1, s.freeBytes 4) := if_pos h

include hcounted

theorem failedCheck_refs (hrefs : s.failedRefs = some n) : s.failedCheck = some (2, le 4 n) := by
  rw [State.failedCheck, if_neg (not_not.2 hcounted), hrefs]

theorem failedCheck_members (hrefs : s.failedRefs = none) (hmembers : s.failedMembers = some n) :
    s.failedCheck = some (3, le 4 n) := by
  rw [State.failedCheck, if_neg (not_not.2 hcounted), hrefs, hmembers]

theorem failedCheck_orders (hrefs : s.failedRefs = none) (hmembers : s.failedMembers = none)
    (horders : s.failedOrders = some n) : s.failedCheck = some (4, le 4 n) := by
  rw [State.failedCheck, if_neg (not_not.2 hcounted), hrefs, hmembers, horders]

theorem failedCheck_extents (hrefs : s.failedRefs = none) (hmembers : s.failedMembers = none)
    (horders : s.failedOrders = none) : s.failedCheck = s.failedExtents.map fun n => (5, le 4 n) := by
  rw [State.failedCheck, if_neg (not_not.2 hcounted), hrefs, hmembers, horders]

end

theorem failedCheck_eq_none (h : s.failedCheck = none) :
    s.tiu.cursor.trailer = some s.tiu.cursor.applied ∧ s.failedRefs = none ∧ s.failedMembers = none
      ∧ s.failedOrders = none ∧ s.failedExtents = none := by
  by_cases hcounted : s.tiu.cursor.trailer = some s.tiu.cursor.applied
  · cases hrefs : s.failedRefs with
    | some n => simp [failedCheck_refs hcounted hrefs] at h
    | none =>
      cases hmembers : s.failedMembers with
      | some n => simp [failedCheck_members hcounted hrefs hmembers] at h
      | none =>
        cases horders : s.failedOrders with
        | some n => simp [failedCheck_orders hcounted hrefs hmembers horders] at h
        | none =>
          rw [failedCheck_extents hcounted hrefs hmembers horders, Option.map_eq_none_iff] at h
          exact ⟨hcounted, rfl, rfl, rfl, h⟩
  · simp [failedCheck_uncounted hcounted] at h

/-- A failure names one of the five checks, with four bytes of a number. -/
theorem failedCheck_range {number : List Byte} (h : s.failedCheck = some (k, number)) :
    1 ≤ k ∧ k ≤ 5 ∧ number.length = 4 := by
  have hnamed {c n : Nat} (hc : 1 ≤ c ∧ c ≤ 5) (hn : (c, le 4 n) = (k, number)) : 1 ≤ k ∧ k ≤ 5 ∧ number.length = 4 := by
    cases hn
    exact ⟨hc.1, hc.2, by simp⟩
  rw [State.failedCheck] at h
  split at h
  · cases h
    exact ⟨by decide, by decide, freeBytes_length s 4⟩
  · split at h
    · exact hnamed (by decide) (Option.some_inj.1 h)
    · split at h
      · exact hnamed (by decide) (Option.some_inj.1 h)
      · split at h
        · exact hnamed (by decide) (Option.some_inj.1 h)
        · obtain ⟨n, -, hn⟩ := Option.map_eq_some_iff.1 h
          exact hnamed (by decide) hn

/-! ### The end of the request -/

theorem execImageEnd_eq (s : State) : execImageEnd s =
    take .imageEnd anyForm (fun r s => guarded (imageEndChecks s r) r (imageEndTaken r) s) s := rfl

theorem imageEnd_refused (ho : Offered s .imageEnd r) (hlen : r.payload = []) (hload : s.tiu.load ≠ .loading) :
    Refused .imageEnd s r .state :=
  refused_of_firstFail imageEndChecks (fun _ => imageEndTaken) (execImageEnd_eq s) ho rfl
    (firstFail_skip (not_hasLength_of_eq_nil hlen) <| if_pos (decide_eq_true hload))

section
variable (ho : Offered s .imageEnd r) (hlen : r.payload = []) (hload : s.tiu.load = .loading)
include ho hlen hload

theorem imageEnd_ends (ht : imageEndTaken r s.quiet = t) : Ends .imageEnd s t :=
  ends_of_checks_pass (f := fun _ => imageEndTaken) execImageEnd rfl (execImageEnd_eq s) ho rfl
    (firstFail_skip (not_hasLength_of_eq_nil hlen) <| firstFail_skip (decide_eq_false (not_not.2 hload)) rfl) ht

theorem imageEnd_fails {number : List Byte} (hcheck : s.failedCheck = some (k, number)) :
    Answers .imageEnd s r .state
      ([3#8, (if s.tiu.exporting then 1#8 else 0#8)] ++ le 1 s.tiu.section_ ++ le 8 s.tiu.moved ++ number ++ le 1 k)
      { s.quiet with tiu.load := .loadFailed, free := s.free + 4 } := by
  refine imageEnd_ends ho hlen hload ?_
  have hcheck' : s.quiet.failedCheck = some (k, number) := hcheck
  rw [imageEndTaken, hcheck']
  exact rfl

theorem imageEnd_passes (hcheck : s.failedCheck = none) :
    Answers .imageEnd s r .ok [] (finishImport s.quiet) := by
  refine imageEnd_ends ho hlen hload ?_
  have hcheck' : s.quiet.failedCheck = none := hcheck
  rw [imageEndTaken, hcheck']

end

theorem setImportEpoch_eq (s : State) :
    setImportEpoch s = { s with rpb.epoch := (s.rtu.deferred.getLast?.map Deferred.tag).getD s.rpb.epoch } := by
  rw [setImportEpoch]
  cases s.rtu.deferred.getLast? <;> rfl

/-- Once the tables are LOADED an IDLE walk takes the oldest walkable order while none is written out (R112). -/
theorem takeIfIdle_loaded (hload : s.tiu.load = .loaded) :
    takeIfIdle s =
      if s.rtu.walk = .idle ∧ (s.rtu.orders.find? s.walkable).isSome ∧ s.tiu.exporting = false then
        { s with rtu := { s.rtu with current := s.rtu.orders.find? s.walkable, nested := none, walk := .walking } }
      else s := by
  have hruns : s.rtu.walk = .idle ∧ s.walkRuns ∧ (s.rtu.orders.find? s.walkable).isSome
      ↔ s.rtu.walk = .idle ∧ (s.rtu.orders.find? s.walkable).isSome ∧ s.tiu.exporting = false := by
    rw [walkRuns_iff]
    tauto
  simp only [takeIfIdle, hruns]
  split
  next h =>
    obtain ⟨o, ho⟩ := Option.isSome_iff_exists.1 h.2.1
    rw [takeOldest_some ho, ho]
  · rfl

theorem finishImport_eq (s : State) :
    finishImport s = evaluateDue (List.range 16) (takeIfIdle (setImportEpoch
      (makeDeferredCheck { s with slc.latched := s.slc.latched ||| 512#11, tiu.load := .loaded }))) := rfl

/-- The checks that pass are those of R192. -/
theorem failedCheck_of_passes (hcounted : s.tiu.cursor.trailer = some s.tiu.cursor.applied) (hrefs : s.failedRefs = none)
    (hmembers : s.failedMembers = none) (horders : s.failedOrders = none) (hextents : s.failedExtents = none) :
    s.failedCheck = none := by
  rw [failedCheck_extents hcounted hrefs hmembers horders, hextents, Option.map_none]

theorem failedRefs_eq_none_iff (s : State) :
    s.failedRefs = none ↔ (∀ x ∈ s.oct.objects, ¬ Dangling s x) ∧ ∀ x ∈ s.chunks, ¬ Miscounted s x := by
  rw [failedRefs_eq]
  exact firstNumber_eq_none (dangling_iff s) (miscounted_iff s)

theorem failedMembers_eq_none_iff (s : State) :
    s.failedMembers = none ↔ (∀ x ∈ s.oct.colls, ¬ Stray s x) ∧ ∀ x ∈ s.oct.objects, ¬ Misheld s x := by
  rw [failedMembers_eq]
  exact firstNumber_eq_none (stray_iff s) (misheld_iff s)

theorem failedOrders_eq_none_iff (s : State) :
    s.failedOrders = none ↔ (∀ x ∈ s.oct.colls, ¬ UnnamedColl s x) ∧ ∀ x ∈ s.oct.objects, ¬ UnnamedObj s x := by
  rw [failedOrders_eq]
  exact firstNumber_eq_none (unnamedColl_iff s) (unnamedObj_iff s)

theorem failedExtents_eq_none_iff (s : State) :
    s.failedExtents = none ↔ ∀ x ∈ s.rtu.release ++ s.rtu.deferred.map Deferred.extent, ¬ Meets s x := by
  rw [failedExtents_eq, Option.or_eq_none_iff, findIdx_eq_none (meets_iff s), findIdx_eq_none (meets_iff s)]
  simp only [List.mem_append, or_imp, forall_and]

/-! ### The whole of it -/

/-- Settles O54: the entries one by one, the checks of each section in their order, and IMAGE_END by the first check of the
tables that fails. -/
theorem imagePutAndEnd : Obligations.ImagePutAndEnd := by
  refine ⟨?_, ?_, inOrder_iff, ?_, ?_⟩
  · intro s r ho haux
    exact ⟨imagePut_notLoaded ho, imagePut_loaded ho haux, fun hload => imagePut_loading ho haux hload⟩
  · intro s e es sts entry failed
    refine ⟨rfl, rfl, fun hload => putEntry_after hload e, putEntry_outOfOrder, fun st hload horder =>
      (putEntry_inOrder hload horder).1 st, ?_⟩
    intro u want head hload horder hu
    obtain ⟨hloading, hmoved⟩ := written_tiu hu
    exact ⟨hloading.trans hload, hmoved, (putEntry_inOrder hload horder).2 u want head hu⟩
  · intro s e p checked
    refine ⟨fun hcode => firstFails_of_eq (applyRecord_settings s hcode) (settings_checked e s),
      fun hcode hpart => firstFails_of_eq (applyRecord_client s hcode hpart) (client_checked e s),
      fun hcode hpart hhead => firstFails_of_eq (applyRecord_clientPart s hcode hpart) (filterHead_checked hhead e),
      fun offset pattern hcode hpart hhead => (applyRecord_clientPart s hcode hpart).trans (filterMask_written hhead e),
      fun hcode hpart => firstFails_of_eq (applyRecord_coll s hcode hpart) (coll_checked e s),
      fun hcode hpart => firstFails_of_eq (applyRecord_members s hcode hpart) (members_checked e s),
      fun hcode hpart => firstFails_of_eq (applyRecord_object s hcode hpart) (object_checked e s), ?_,
      fun hcode => firstFails_of_eq (applyRecord_chunk s hcode) (chunk_checked e s), ?_, ?_, ?_,
      fun hcode => firstFails_of_eq (applyRecord_trailer s hcode) (trailer_checked e s),
      fun hcode => applyRecord_unknown s hcode⟩
    · intro hcode hpart o want pages joined k' hs
      have hrefs := applyRecord_refs s hcode hpart
      exact ⟨fun htag => firstFails_of_eq hrefs (indexed_checked htag s),
        fun htag => firstFails_of_eq hrefs (private_checked htag s), fun hone htwo => hrefs.trans (refs_unknown hone htwo s)⟩
    · intro hcode
      have hgrant := applyRecord_grant s hcode
      exact ⟨imageGrant_eq_none_iff p, fun hg => hgrant.trans (grant_unread hg s),
        fun g hg => firstFails_of_eq hgrant (grant_checked hg s)⟩
    · intro hcode n appended
      have horder := applyRecord_order s hcode
      refine ⟨fun htag hn => ?_, fun htag hn => ?_, fun hno => horder.trans (order_unread (imageOrder_none hno) s)⟩
      · have h := order_checked (imageOrder_coll htag hn) s
        simp only [State.orderMissing, State.orderRetiring, decide_eq_true_eq, decide_eq_false_iff_not] at h
        exact firstFails_of_eq horder h
      · have h := order_checked (imageOrder_object htag hn) s
        simp only [State.orderMissing, State.orderRetiring, decide_eq_true_eq, decide_eq_false_iff_not] at h
        exact firstFails_of_eq horder h
    · intro _ x tag outOfRange
      exact ⟨fun hcode => firstFails_of_eq (applyRecord_release s hcode) (release_checked e s),
        fun hcode => firstFails_of_eq (applyRecord_deferred s hcode) (deferred_checked e s)⟩
  · intro s r ho hlen counted dangling miscounted stray misheld unnamedColl unnamedObj meets deferred refs members orders
      passes failed
    have hrefs : s.failedRefs = none ↔ refs := failedRefs_eq_none_iff s
    have hmembers : s.failedMembers = none ↔ members := failedMembers_eq_none_iff s
    have horders : s.failedOrders = none ↔ orders := failedOrders_eq_none_iff s
    have hfails {k : Nat} {number : List Byte} (hload : s.tiu.load = .loading) (hcheck : s.failedCheck = some (k, number)) :
        failed k number := imageEnd_fails ho hlen hload hcheck
    refine ⟨imageEnd_refused ho hlen, ?_, ?_, ?_, ?_, ?_, ?_, ?_, ?_, ?_, ?_, ?_⟩
    · intro hload hpasses u v w
      obtain ⟨hc, hr, hm, hor, hx⟩ := hpasses
      have hcheck := failedCheck_of_passes hc (hrefs.2 hr) (hmembers.2 hm) (horders.2 hor)
        ((failedExtents_eq_none_iff s).2 hx)
      have hv : setImportEpoch u = v := setImportEpoch_eq u
      have hloaded : v.tiu.load = .loaded := by
        rw [← hv, setImportEpoch_eq]
        simp [u]
      have hw : takeIfIdle v = w := takeIfIdle_loaded hloaded
      have hfinish : finishImport s.quiet = evaluateDue (List.range 16) w := by
        rw [← hw, ← hv]
        exact finishImport_eq s.quiet
      rw [← hfinish]
      exact imageEnd_passes ho hlen hload hcheck
    · intro hload hno
      cases hcheck : s.failedCheck with
      | none =>
        obtain ⟨hc, hr, hm, hor, hx⟩ := failedCheck_eq_none hcheck
        exact absurd ⟨hc, hrefs.1 hr, hmembers.1 hm, horders.1 hor, (failedExtents_eq_none_iff s).1 hx⟩ hno
      | some check =>
        obtain ⟨k, number⟩ := check
        obtain ⟨hlow, hhigh, hlength⟩ := failedCheck_range hcheck
        exact ⟨k, number, hlow, hhigh, hlength, hfails hload hcheck⟩
    · intro hload hc
      exact ⟨s.freeBytes 4, freeBytes_length s 4, hfails hload (failedCheck_uncounted hc)⟩
    · intro k x hload hc hfirst
      exact hfails hload (failedCheck_refs hc (firstNumber_first (dangling_iff s) hfirst))
    · intro k x hload hc hnone hfirst
      exact hfails hload (failedCheck_refs hc (firstNumber_second (dangling_iff s) (miscounted_iff s) hnone hfirst))
    · intro k x hload hc hr hfirst
      exact hfails hload (failedCheck_members hc (hrefs.2 hr) (firstNumber_first (stray_iff s) hfirst))
    · intro k x hload hc hr hnone hfirst
      exact hfails hload (failedCheck_members hc (hrefs.2 hr)
        (firstNumber_second (stray_iff s) (misheld_iff s) hnone hfirst))
    · intro k x hload hc hr hm hfirst
      exact hfails hload (failedCheck_orders hc (hrefs.2 hr) (hmembers.2 hm)
        (firstNumber_first (unnamedColl_iff s) hfirst))
    · intro k x hload hc hr hm hnone hfirst
      exact hfails hload (failedCheck_orders hc (hrefs.2 hr) (hmembers.2 hm)
        (firstNumber_second (unnamedColl_iff s) (unnamedObj_iff s) hnone hfirst))
    · intro k x hload hc hr hm hor hfirst
      refine hfails hload ?_
      rw [failedCheck_extents hc (hrefs.2 hr) (hmembers.2 hm) (horders.2 hor), failedExtents_eq,
        findIdx_of_firstAt (meets_iff s) hfirst, Option.some_or, Option.map_some]
    · intro k x hload hc hr hm hor hnone hfirst
      refine hfails hload ?_
      rw [failedCheck_extents hc (hrefs.2 hr) (hmembers.2 hm) (horders.2 hor), failedExtents_eq,
        (findIdx_eq_none (meets_iff s)).2 hnone, Option.none_or, findIdx_of_firstAt (meets_iff s) hfirst, Option.map_some]

end Sys2Proof.Machine
end

section
/-!
PROOFS. What is written of a record in the image is read back: image records, settings, clients, collections, entries,
grants, orders and extents (Table 12.2, Table 12.3).
-/

namespace Sys2Proof.Machine

variable {s : State} {p q pad : List Byte} {n k off len : Nat}

/-! ### Bytes taken from the front -/

/-- What stands before the end of a cut is read as in the whole. -/
theorem slice_cut (h : off + len ≤ n) (hn : n ≤ p.length) : slice (slice p 0 n ++ pad) off len = slice p off len := by
  rw [slice_append_left (by rw [slice_length]; omega)]
  simp only [slice, List.drop_zero, List.drop_take, List.take_take]
  rw [Nat.min_eq_left (by omega)]

theorem field_cut (h : off + len ≤ n) (hn : n ≤ p.length) : field (slice p 0 n ++ pad) off len = field p off len := by
  rw [field, slice_cut h hn, field]

theorem field_of_slice {m : Nat} (h : off + len ≤ m) : field p (k + off) len = field (slice p k m) off len := by
  rw [field, field, slice, slice, slice, List.drop_take, List.take_take, List.drop_drop, Nat.min_eq_left (by omega)]

/-! ### Image records (Table 12.2) -/

theorem padTo_length {m : Nat} (h : p.length ≤ m) : (padTo m p).length = m := by
  simp [padTo, h]

/-- The 62 bytes of an image record before its check. -/
theorem imageRecord_split (code part number : Nat) (content : List Byte) (hcontent : content.length ≤ 53) :
    ∃ b : List Byte, b = le 1 code ++ (le 4 part ++ (le 4 number ++ padTo 53 content)) ∧ b.length = 62
      ∧ imageRecord code part number content = b ++ checkBytes (crc16 b) := by
  refine ⟨_, rfl, ?_, ?_⟩
  · simp [padTo_length hcontent]
  · simp only [imageRecord, List.append_assoc]

theorem imageRecord_readBack (code part number : Nat) (content : List Byte) (hcode : code < 256) (hpart : part < 4294967296)
    (hnumber : number < 4294967296) (hcontent : content.length ≤ 53) :
    let record := imageRecord code part number content
    record.length = 64 ∧ goodEntries 64 1 record = [record]
      ∧ ImageEntry.ofBytes record =
          { code := code, part := part, number := number, content := content ++ List.replicate (53 - content.length) 0#8 } := by
  intro record
  obtain ⟨b, hb, hlen, hrecord⟩ := imageRecord_split code part number content hcontent
  have hrecord' : record = b ++ checkBytes (crc16 b) := hrecord
  have hlength : record.length = 64 := by rw [hrecord', List.length_append, hlen, checkBytes_length]
  refine ⟨hlength, ?_, ?_⟩
  · have htake : record.take 64 = record := List.take_of_length_le hlength.le
    have hbody : record.take 62 = b := by rw [hrecord', List.take_left' hlen]
    have hcheck : field record 62 2 = (crc16 b).toNat := by
      rw [hrecord', field_append_skip hlen.le, hlen, Nat.sub_self, field_self (checkBytes_length _), ofLe_checkBytes]
    simp only [goodEntries, htake]
    exact if_pos ⟨hlength, by rw [hbody]; exact hcheck⟩
  · have hcontent' : (padTo 53 content).length = 53 := padTo_length hcontent
    have hfront {m l : Nat} (h : m + l ≤ 62) : slice record m l = slice b m l := by
      rw [hrecord', slice_append_left (by omega)]
    have hcode' : ofLe (le 1 code) = code := ofLe_le_of_lt hcode
    have hpart' : ofLe (le 4 part) = part := ofLe_le_of_lt hpart
    have hnumber' : ofLe (le 4 number) = number := ofLe_le_of_lt hnumber
    have hfields : field record 0 1 = code ∧ field record 1 4 = part ∧ field record 5 4 = number
        ∧ slice record 9 53 = padTo 53 content := by
      refine ⟨?_, ?_, ?_, ?_⟩
      · rw [field, hfront (by decide), hb, ← hcode']
        simp
      · rw [field, hfront (by decide), hb, ← hpart']
        simp
      · rw [field, hfront (by decide), hb, ← hnumber']
        simp
      · rw [hfront (by decide), hb]
        simp [hcontent']
    obtain ⟨h0, h1, h5, h9⟩ := hfields
    rw [ImageEntry.ofBytes, h0, h1, h5, h9, padTo]

/-! ### Settings -/

theorem signedField_leSigned {z : Int} (hlow : -32768 ≤ z) (hhigh : z < 32768) (pad : List Byte) :
    signedField (leSigned z ++ pad) 0 = z := by
  rw [signedField, leSigned, field_append_self (le_length _ _), ofLe_le_of_lt (BitVec.isLt _), BitVec.ofNat_toNat,
    BitVec.setWidth_eq, BitVec.toInt_ofInt]
  exact Int.bmod_eq_of_le hlow hhigh

theorem settings_readBack (x : Settings) (pad : List Byte) (hlow : -32768 ≤ x.zone) (hhigh : x.zone < 32768)
    (hlmin : x.lmin < 4294967296) (hltgt : x.ltgt < 4294967296) (hlmax : x.lmax < 4294967296) (hbudget : x.budget < 256)
    (hspinUp : x.spinUp < 256) (hidle : x.idle < 65536) (hspinDown : x.spinDown < 256) :
    Settings.ofBytes (x.bytes ++ pad) = x := by
  have hbytes : x.bytes ++ pad = leSigned x.zone ++ (le 4 x.lmin ++ (le 4 x.ltgt ++ (le 4 x.lmax ++ (le 1 x.budget
      ++ (le 1 x.spinUp ++ (le 2 x.idle ++ (le 1 x.spinDown ++ pad))))))) := by
    simp only [Settings.bytes, List.append_assoc]
  have hzone : (leSigned x.zone).length = 2 := le_length _ _
  rw [Settings.ofBytes, hbytes, signedField_leSigned hlow hhigh]
  simp [hzone, Nat.mod_eq_of_lt hlmin, Nat.mod_eq_of_lt hltgt, Nat.mod_eq_of_lt hlmax, Nat.mod_eq_of_lt hbudget,
    Nat.mod_eq_of_lt hspinUp, Nat.mod_eq_of_lt hidle, Nat.mod_eq_of_lt hspinDown]

/-! ### Orders and extents -/

theorem order_coll_readBack (hn : n < 1024) (pad : List Byte) :
    imageOrder ((Order.coll n).bytes ++ pad) = some (.coll n) := by
  have hfield : field ((Order.coll n).bytes ++ pad) 1 4 = n := by
    simp [Order.bytes]
    omega
  have h := imageOrder_coll (p := (Order.coll n).bytes ++ pad) rfl (by rw [hfield]; exact hn)
  rw [h, hfield]

theorem order_object_readBack (hn : n < 1048576) (pad : List Byte) :
    imageOrder ((Order.object n).bytes ++ pad) = some (.object n) := by
  have hfield : field ((Order.object n).bytes ++ pad) 1 4 = n := by
    simp [Order.bytes]
    omega
  have h := imageOrder_object (p := (Order.object n).bytes ++ pad) rfl (by rw [hfield]; exact hn)
  rw [h, hfield]

theorem extent_readBack (x : Extent) (hbay : x.bay < 4) (hblock : x.block < 17179869184) (hlength : x.length < 16777216)
    (pad : List Byte) : imageExtent (x.bytes ++ pad) = x := by
  have hbay' : x.bay % 256 = x.bay := by omega
  have hblock' : x.block % 281474976710656 = x.block := by omega
  have hlength' : x.length % 16777216 = x.length := Nat.mod_eq_of_lt hlength
  simp [imageExtent, Extent.bytes, byteAt, hbay', hblock', hlength']

/-! ### Collections and objects -/

theorem coll_readBack (s : State) (n : Nat) (pad : List Byte) (hstate : (s.coll n).state ≠ .free)
    (howner : (s.coll n).owner.1 < 256) (hgen : (s.coll n).owner.2 < 256) (hcreated : (s.coll n).created < 4294967296)
    (hclosed : ∀ t, (s.coll n).closed = some t → t < 4294967296) (hmembers : (s.coll n).members.length < 16777216)
    (hreserved : (s.coll n).reserved = 0) :
    imageColl (s.collRecord n ++ pad) = { s.coll n with members := [] }
      ∧ field (s.collRecord n ++ pad) 15 3 = (s.coll n).members.length := by
  obtain ⟨hlen, -, hst, hkind, howner', hgen', hcreated', hnone, hsome, hcount, -⟩ := collRecord_fields s n
  have hcut (off len : Nat) (h : off + len ≤ 32 := by decide) :
      field (s.collRecord n ++ pad) off len = field (s.collRecord n) off len := field_append_left (by omega)
  have hbyte (off : Nat) (h : off + 1 ≤ 32 := by decide) : byteAt (s.collRecord n ++ pad) off = byteAt (s.collRecord n) off :=
    hcut off 1 h
  refine ⟨?_, ?_⟩
  · have hstate' : (CollState.ofCode (byteAt (s.collRecord n ++ pad) 2)).getD .free = (s.coll n).state := by
      rw [hbyte 2, hst]
      cases h : (s.coll n).state with
      | free => exact absurd h hstate
      | _ => rfl
    have hkind' : (CollKind.ofCode (byteAt (s.collRecord n ++ pad) 3)).getD .snapshot = (s.coll n).kind := by
      rw [hbyte 3, hkind]
      cases (s.coll n).kind <;> rfl
    have hclosed' : optionField (s.collRecord n ++ pad) 10 4 = (s.coll n).closed := by
      rw [optionField, hbyte 10, hcut 11 4]
      cases h : (s.coll n).closed with
      | none => exact if_neg (by rw [(hnone h).1]; decide)
      | some t =>
        rw [if_pos (hsome t h).1, (hsome t h).2, Nat.mod_eq_of_lt (hclosed t h)]
    have howner : (byteAt (s.collRecord n ++ pad) 4, byteAt (s.collRecord n ++ pad) 5) = (s.coll n).owner := by
      rw [hbyte 4, hbyte 5, howner', hgen', Nat.mod_eq_of_lt howner, Nat.mod_eq_of_lt hgen]
    rw [imageColl, hstate', hkind', hclosed', howner, hcut 6 4, hcreated', Nat.mod_eq_of_lt hcreated, ← hreserved]
  · rw [hcut 15 3, hcount, Nat.mod_eq_of_lt hmembers]

theorem objHead_eq (o : Obj) :
    o.head = o.state.code :: (le 1 o.owner.1 ++ (le 1 o.owner.2 ++ (le 6 o.length ++ (le 2 o.holders ++ le 4 o.recipe.length)))) := by
  simp only [Obj.head, List.append_assoc, List.cons_append, List.nil_append]

theorem object_readBack (o : Obj) (pad : List Byte) (hstate : o.state = .complete ∨ o.state = .retiring)
    (howner : o.owner.1 < 256) (hgen : o.owner.2 < 256) (hlength : o.length < 281474976710656) (hholders : o.holders < 65536)
    (hcount : o.recipe.length < 4294967296) (hplans : o.planHolds = 0) :
    imageObject (o.head ++ pad) = { o with recipe := [] } ∧ field (o.head ++ pad) 11 4 = o.recipe.length := by
  have hbytes : o.head ++ pad = o.state.code :: (le 1 o.owner.1 ++ (le 1 o.owner.2 ++ (le 6 o.length ++ (le 2 o.holders
      ++ (le 4 o.recipe.length ++ pad))))) := by
    simp only [objHead_eq, List.append_assoc, List.cons_append]
  have hcode : (ObjectState.ofCode o.state.code.toNat).getD .free = o.state := by
    rcases hstate with h | h <;> rw [h] <;> decide
  rw [hbytes]
  refine ⟨?_, ?_⟩
  · simp [imageObject, byteAt, hcode, Nat.mod_eq_of_lt howner, Nat.mod_eq_of_lt hgen, Nat.mod_eq_of_lt hlength,
      Nat.mod_eq_of_lt hholders, hplans]
  · simp [Nat.mod_eq_of_lt hcount]

/-! ### Clients -/

theorem client_readBack (s : State) (c : Nat) (hc : c < 16) (hactive : (s.client c).active = true)
    (hgen : (s.client c).generation < 256) (hrole : (s.client c).role ≠ .unset) (haddress : (s.client c).address.length = 6)
    (hlabel : (s.client c).label.length = 16) (hquota : ∀ q, (s.client c).quota = some q → 1 ≤ q ∧ q < 4294967296)
    (hcharged : (s.client c).charged < 281474976710656) (hmissed : (s.client c).missed < 256)
    (hschedule : ∀ y, (s.client c).schedule = some y → y.period < 65536 ∧ y.nextDue < 4294967296 ∧ y.lead < 65536)
    (pad : List Byte) :
    imageClient (slice (s.clientRecord c) 0 46 ++ pad)
      = { s.client c with filters := [], holdStatus := .empty, held := [] } := by
  obtain ⟨hlen, -, hactive', hgen', hrole', haddress', hlabel', hquota', hcharged', hnone, hsome, hmissed', -⟩ :=
    clientRecord_fields s c hc haddress hlabel
  have hlong : 46 ≤ (s.clientRecord c).length := by omega
  generalize hp : slice (s.clientRecord c) 0 46 ++ pad = p
  have hfield (off len : Nat) (h : off + len ≤ 46 := by decide) : field p off len = field (s.clientRecord c) off len := by
    rw [← hp, field_cut h hlong]
  have hbyte (off : Nat) (h : off + 1 ≤ 46 := by decide) : byteAt p off = byteAt (s.clientRecord c) off := hfield off 1 h
  have hslice (off len : Nat) (h : off + len ≤ 46 := by decide) : slice p off len = slice (s.clientRecord c) off len := by
    rw [← hp, slice_cut h hlong]
  have hpresent : byteAt p 1 = 1 := by rw [hbyte 1, hactive', if_pos hactive]
  have hrole' : (Role.ofCode (byteAt p 3)).getD .unset = (s.client c).role := by
    rw [hbyte 3, hrole']
    cases h : (s.client c).role with
    | unset => exact absurd h hrole
    | source | viewer | family => rfl
  have hquota'' : (if field p 26 4 = 0 then none else some (field p 26 4)) = (s.client c).quota := by
    rw [hfield 26 4, hquota']
    cases h : (s.client c).quota with
    | none => rfl
    | some q =>
      obtain ⟨hlow, hhigh⟩ := hquota q h
      rw [Option.getD_some, Nat.mod_eq_of_lt hhigh]
      exact if_neg (by omega)
  have hschedule' : imageSchedule p = (s.client c).schedule := by
    rw [imageSchedule]
    cases h : (s.client c).schedule with
    | none =>
      have hzero : byteAt p 36 = 0 := by
        rw [hbyte 36, byteAt, ← Nat.add_zero 36, field_of_slice (k := 36) (m := 9) (by decide), hnone h]
        rfl
      exact if_neg (by rw [hzero]; decide)
    | some y =>
      obtain ⟨hpresent, hperiod, hnext, hlead⟩ := hsome y h
      obtain ⟨hperiod', hnext', hlead'⟩ := hschedule y h
      rw [hbyte 36, hfield 37 2, hfield 39 4, hfield 43 2, if_pos hpresent, hperiod, hnext,
        hlead, Nat.mod_eq_of_lt hperiod', Nat.mod_eq_of_lt hnext', Nat.mod_eq_of_lt hlead']
  rw [imageClient, if_pos hpresent, hrole', hquota'', hschedule', hslice 4 6, hslice 10 16, hbyte 2, hfield 30 6,
    hbyte 45, hgen', haddress', hlabel', hcharged', hmissed', Nat.mod_eq_of_lt hgen,
    Nat.mod_eq_of_lt hcharged, Nat.mod_eq_of_lt hmissed, ← hactive]

/-! ### Entries and grants -/

theorem chunk_readBack (h : Nat) (e : Chunk) (pad : List Byte)
    (hstate : e.state = .present ∨ e.state = .damaged ∨ e.state = .needsWriter) (hcount : e.refcount < 16777216)
    (hlength : e.length < 16777216) (hloc : ∀ l, e.loc = some l → l.bay < 4 ∧ l.block < 17179869184)
    (hpayer : ∀ c g, e.payer = some (c, g) → c < 16 ∧ g < 256) (hwriter : e.writer = none) :
    imageChunk (e.imageContent h ++ pad) = e := by
  obtain ⟨hlen, -, hstate', hcount', hlength', hbay, hblock, hnone, hsome, -, hdigest⟩ :=
    chunkRecord_fields e h [0#8, 0#8] rfl
  have hfront : (slice (e.record h [0#8, 0#8]) 4 19).length = 19 := by rw [slice_length, hlen]; rfl
  generalize hp : e.imageContent h ++ pad = p
  have hp' : p = slice (e.record h [0#8, 0#8]) 4 19 ++ (slice (e.record h [0#8, 0#8]) 24 32 ++ pad) := by
    rw [← hp, Chunk.imageContent, List.append_assoc]
  have hfield (off len : Nat) (hoff : off + len ≤ 19 := by decide) :
      field p off len = field (e.record h [0#8, 0#8]) (4 + off) len := by
    rw [hp', field_append_left (by omega), field_of_slice hoff]
  have hbyte (off : Nat) (hoff : off + 1 ≤ 19 := by decide) : byteAt p off = byteAt (e.record h [0#8, 0#8]) (4 + off) :=
    hfield off 1 hoff
  have hdigest' : digestOf (slice p 19 32) = e.digest := by
    rw [hp', slice_append_skip hfront.le, hfront, Nat.sub_self, slice_append_self (by rw [slice_length, hlen]; rfl), hdigest,
      digestOf_digestBytes]
  have hcode : (ChunkState.ofCode (byteAt p 0)).getD .empty = e.state := by
    rw [hbyte 0, hstate']
    rcases hstate with hs | hs | hs <;> rw [hs] <;> rfl
  have hloc' : (if byteAt p 7 = 255 then none else some { bay := byteAt p 7, block := field p 8 8 }) = e.loc := by
    rw [hbyte 7, hfield 8 8, hbay, hblock]
    cases hl : e.loc with
    | none => rfl
    | some l =>
      obtain ⟨hlow, hhigh⟩ := hloc l hl
      rw [Option.elim_some, Option.elim_some, Nat.mod_eq_of_lt (by omega), Nat.mod_eq_of_lt (by omega)]
      exact if_neg (by omega)
  have hpayer' : (if byteAt p 16 = 1 then some (byteAt p 17, byteAt p 18) else none) = e.payer := by
    rw [hbyte 16, hbyte 17, hbyte 18]
    cases hl : e.payer with
    | none => exact if_neg (by rw [(hnone hl).1]; decide)
    | some pair =>
      obtain ⟨c, g⟩ := pair
      obtain ⟨hpresent, hclient, hgen⟩ := hsome c g hl
      obtain ⟨hc, hg⟩ := hpayer c g hl
      rw [if_pos hpresent, hclient, hgen, Nat.mod_eq_of_lt (by omega), Nat.mod_eq_of_lt hg]
  rw [imageChunk, hcode, hloc', hpayer', hdigest', hfield 1 3, hfield 4 3, hcount', hlength',
    Nat.mod_eq_of_lt hcount, Nat.mod_eq_of_lt hlength, ← hwriter]

theorem grant_readBack (s : State) (n : Nat) (pad : List Byte) (hlive : (s.grant n).live = true)
    (hclient : ∀ c, (s.grant n).grantee = .client c → c < 16) (halbum : ∀ a, (s.grant n).target = .album a → a < 1024)
    (hall : ∀ c, (s.grant n).target = .allOf c → c < 16) (hstart : (s.grant n).windowStart < 1440)
    (hend : (s.grant n).windowEnd < 1440) (hexpiry : ∀ t, (s.grant n).expiry = some t → t < 4294967296) :
    imageGrant (slice (s.grantRecord n) 0 16 ++ pad) = some (s.grant n) := by
  obtain ⟨hlen, -, hlive', hwho, hkind, htarget, hmode, hstart', hend', hnone, hsome, -⟩ := grantRecord_fields s n
  have hlong : 16 ≤ (s.grantRecord n).length := by omega
  generalize hp : slice (s.grantRecord n) 0 16 ++ pad = p
  have hfield (off len : Nat) (h : off + len ≤ 16 := by decide) : field p off len = field (s.grantRecord n) off len := by
    rw [← hp, field_cut h hlong]
  have hbyte (off : Nat) (h : off + 1 ≤ 16 := by decide) : byteAt p off = byteAt (s.grantRecord n) off := hfield off 1 h
  have hpresent : byteAt p 1 = 1 := by rw [hbyte 1, hlive', if_pos hlive]
  have hwho' : Grantee.ofCode (byteAt p 2) = some (s.grant n).grantee := by
    rw [hbyte 2, hwho]
    cases h : (s.grant n).grantee with
    | client c =>
      have hc := hclient c h
      have hmod : c % 256 = c := by omega
      exact (congrArg Grantee.ofCode hmod).trans (granteeOfCode_of (.inr ⟨hc, rfl⟩))
    | anyViewer => rfl
  have hon : Target.ofCode (byteAt p 3) (field p 4 2) = some (s.grant n).target := by
    rw [hbyte 3, hfield 4 2, hkind, htarget]
    cases h : (s.grant n).target with
    | album a =>
      have ha := halbum a h
      have hmod : a % 65536 = a := by omega
      exact (congrArg (Target.ofCode 1) hmod).trans (targetOfCode_of (.inl ⟨rfl, ha, rfl⟩))
    | allOf c =>
      have hc := hall c h
      have hmod : c % 65536 = c := by omega
      exact (congrArg (Target.ofCode 2) hmod).trans (targetOfCode_of (.inr ⟨rfl, hc, rfl⟩))
  have hmode' : Mode.ofCode (byteAt p 6) = some (s.grant n).mode := by
    rw [hbyte 6, hmode]
    cases (s.grant n).mode <;> rfl
  have hexpiry' : optionField p 11 4 = (s.grant n).expiry ∧ byteAt p 11 ≤ 1 := by
    rw [optionField, hbyte 11, hfield 12 4]
    cases h : (s.grant n).expiry with
    | none =>
      obtain ⟨hzero, -⟩ := hnone h
      exact ⟨if_neg (by rw [hzero]; decide), by rw [hzero]; decide⟩
    | some t =>
      obtain ⟨hone, hvalue, -⟩ := hsome t h
      exact ⟨by rw [if_pos hone, hvalue, Nat.mod_eq_of_lt (hexpiry t h)], by rw [hone]⟩
  have hstart'' : field p 7 2 = (s.grant n).windowStart := by
    rw [hfield 7 2, hstart', Nat.mod_eq_of_lt (by omega)]
  have hend'' : field p 9 2 = (s.grant n).windowEnd := by
    rw [hfield 9 2, hend', Nat.mod_eq_of_lt (by omega)]
  have hrange : ¬ (byteAt p 1 ≠ 1 ∨ 1439 < field p 7 2 ∨ 1439 < field p 9 2 ∨ 1 < byteAt p 11) := by
    obtain ⟨-, hflag⟩ := hexpiry'
    omega
  simp only [imageGrant, hwho', hon, hmode', if_neg hrange]
  rw [hstart'', hend'', hexpiry'.1, ← hlive]

end Sys2Proof.Machine
end

section
/-!
PROOFS. The parts of lists in the image: members in groups, recipes cut into continuations, and the sections in order (Table
12.3).
-/

namespace Sys2Proof.Machine

variable {s : State} {n : Nat}

/-! ### Runs of numbers -/

/-- A run of 4-byte numbers reads back, whatever stands before and after it. -/
theorem fieldsOf_run (ms : List Nat) (front pad : List Byte) (hms : ∀ m ∈ ms, m < 4294967296) :
    fieldsOf (front ++ (ms.flatMap (le 4) ++ pad)) front.length ms.length = ms := by
  induction ms generalizing front with
  | nil => rfl
  | cons m ms ih =>
    have hm : ofLe (le 4 m) = m := ofLe_le_of_lt (hms m List.mem_cons_self)
    have hbytes : front ++ ((m :: ms).flatMap (le 4) ++ pad) = (front ++ le 4 m) ++ (ms.flatMap (le 4) ++ pad) := by
      simp only [List.flatMap_cons, List.append_assoc]
    have hfirst : field (front ++ ((m :: ms).flatMap (le 4) ++ pad)) front.length 4 = m := by
      rw [field_append_skip (Nat.le_refl _), Nat.sub_self, List.flatMap_cons, List.append_assoc,
        field_append_self (le_length _ _), hm]
    have hrest := ih (front ++ le 4 m) fun k hk => hms k (List.mem_cons_of_mem _ hk)
    have hshift (i : Nat) : (front ++ le 4 m).length + 4 * i = front.length + 4 * (i + 1) := by
      rw [List.length_append, le_length]
      omega
    rw [← hbytes] at hrest
    simp only [fieldsOf, hshift] at hrest
    rw [fieldsOf, List.length_cons, List.range_succ_eq_map, List.map_cons, List.map_map, Nat.mul_zero, Nat.add_zero, hfirst]
    exact congrArg (m :: ·) hrest

theorem padTo_append (k : Nat) (p : List Byte) : ∃ pad, padTo k p = p ++ pad := ⟨_, rfl⟩

/-! ### Members (Table 12.3) -/

theorem mem_of_mem_pieces {α : Type} {k fuel : Nat} {xs p : List α} (hp : p ∈ pieces k fuel xs) {x : α} (hx : x ∈ p) : x ∈ xs := by
  induction fuel generalizing xs with
  | zero => simp [pieces] at hp
  | succ fuel ih =>
    cases xs with
    | nil => simp [pieces] at hp
    | cons y xs =>
      rw [pieces, List.mem_cons] at hp
      · rcases hp with rfl | hp
        · exact List.mem_of_mem_take hx
        · exact List.mem_of_mem_drop (ih hp)
      · simp

theorem pieces_flatten {α : Type} {k fuel : Nat} {xs : List α} (hk : 0 < k) (hfuel : xs.length ≤ fuel) :
    (pieces k fuel xs).flatten = xs := by
  induction fuel generalizing xs with
  | zero => simp [pieces, List.length_eq_zero_iff.1 (Nat.le_zero.1 hfuel)]
  | succ fuel ih =>
    cases xs with
    | nil => simp [pieces]
    | cons x xs =>
      rw [pieces, List.flatten_cons, ih, List.take_append_drop]
      · rw [List.length_drop]
        omega
      · simp

/-- The pieces by their places. -/
theorem pieces_eq {α : Type} {fuel : Nat} {xs : List α} (hfuel : xs.length ≤ fuel) :
    pieces 13 fuel xs = (List.range ((xs.length + 12) / 13)).map fun k => (xs.drop (13 * k)).take 13 := by
  induction fuel generalizing xs with
  | zero => simp [pieces, List.length_eq_zero_iff.1 (Nat.le_zero.1 hfuel)]
  | succ fuel ih =>
    cases xs with
    | nil => simp [pieces]
    | cons x xs =>
      have hdrop : ((x :: xs).drop 13).length = (x :: xs).length - 13 := List.length_drop
      have hcount : ((x :: xs).length + 12) / 13 = (((x :: xs).drop 13).length + 12) / 13 + 1 := by
        rw [hdrop, List.length_cons]
        omega
      rw [pieces, ih, hcount, List.range_succ_eq_map, List.map_cons, List.map_map, Nat.mul_zero, List.drop_zero]
      · refine congrArg _ (List.map_congr_left fun k _ => ?_)
        rw [List.drop_drop, Function.comp_apply, Nat.mul_succ, Nat.add_comm]
      · rw [hdrop]
        omega
      · simp

theorem members_readBack (members : List Nat) (hmembers : ∀ m ∈ members, m < 4294967296) :
    (pieces 13 members.length members).flatMap (fun p => fieldsOf (padTo 53 (p.flatMap (le 4))) 0 p.length) = members := by
  have hpiece : ∀ p ∈ pieces 13 members.length members, fieldsOf (padTo 53 (p.flatMap (le 4))) 0 p.length = p := fun p hp => by
    obtain ⟨pad, hpad⟩ := padTo_append 53 (p.flatMap (le 4))
    rw [hpad]
    exact fieldsOf_run p [] pad fun m hm => hmembers m (mem_of_mem_pieces hp hm)
  rw [List.flatMap_congr hpiece, List.flatMap_id']
  exact pieces_flatten (by decide) (Nat.le_refl _)

/-! ### Recipes (Table 12.3) -/

/-- The references that a continuation of an object carries, as they are read in. -/
def partRefs (part : List Byte) : List Ref :=
  let p := padTo 53 part
  if byteAt p 0 = 1 then (fieldsOf p 2 (byteAt p 1)).map Ref.indexed else [imagePrivate p]

/-- The continuation of a group of handles. -/
def groupPart (hs : List Nat) : List Byte := [1#8] ++ le 1 hs.length ++ hs.flatMap (le 4)

/-- The continuation of one PRIVATE reference. -/
def refPart (l : Option Loc) (n : Nat) (d : Digest) (m : Bool) : List Byte :=
  [2#8, if m = true then 1#8 else 0#8] ++ le 1 (l.elim 255 Loc.bay) ++ le 6 (l.elim 0 Loc.block) ++ le 3 n ++ digestBytes d

section
variable (g : List Nat) (rest : List Ref)

theorem recipeParts_nil : recipeParts g [] = if g = [] then [] else [groupPart g] := by
  rw [recipeParts, groupPart]

theorem recipeParts_indexed (h : Nat) :
    recipeParts g (.indexed h :: rest) =
      if g.length = 12 then groupPart g :: recipeParts [h] rest else recipeParts (g ++ [h]) rest := by
  rw [recipeParts, groupPart]
  split
  next hlen => rw [hlen]
  · rfl

theorem recipeParts_priv (l : Option Loc) (n : Nat) (d : Digest) (m : Bool) :
    recipeParts g (.priv l n d m :: rest) =
      (if g = [] then [] else [groupPart g]) ++ refPart l n d m :: recipeParts [] rest := by
  cases l with
  | none => exact rfl
  | some x => exact rfl

end

theorem partRefs_group {hs : List Nat} (hlen : hs.length ≤ 12) (hhs : ∀ h ∈ hs, h < 4294967296) :
    partRefs (groupPart hs) = hs.map Ref.indexed := by
  obtain ⟨pad, hpad⟩ := padTo_append 53 (groupPart hs)
  have hbytes : padTo 53 (groupPart hs) = ([1#8] ++ le 1 hs.length) ++ (hs.flatMap (le 4) ++ pad) := by
    rw [hpad, groupPart, List.append_assoc]
  have htag : byteAt (padTo 53 (groupPart hs)) 0 = 1 := by
    rw [hbytes]
    simp [byteAt]
  have hcount : byteAt (padTo 53 (groupPart hs)) 1 = hs.length := by
    rw [hbytes]
    simp [byteAt]
    omega
  have hfront : ([1#8] ++ le 1 hs.length).length = 2 := by simp
  rw [partRefs, if_pos htag, hcount, hbytes, ← hfront, fieldsOf_run hs _ pad hhs]

theorem partRefs_ref {l : Option Loc} {n : Nat} (d : Digest) (m : Bool) (hn : n < 16777216)
    (hl : ∀ x, l = some x → x.bay < 4 ∧ x.block < 17179869184) : partRefs (refPart l n d m) = [.priv l n d m] := by
  obtain ⟨pad, hpad⟩ := padTo_append 53 (refPart l n d m)
  generalize hp : padTo 53 (refPart l n d m) = p
  have hbytes : p = 2#8 :: (if m = true then 1#8 else 0#8) :: (le 1 (l.elim 255 Loc.bay) ++ (le 6 (l.elim 0 Loc.block)
      ++ (le 3 n ++ (digestBytes d ++ pad)))) := by
    rw [← hp, hpad, refPart]
    simp only [List.append_assoc, List.cons_append, List.nil_append]
  have htag : ¬ byteAt p 0 = 1 := by
    rw [hbytes]
    simp [byteAt]
  have hmark : decide (byteAt p 1 = 1) = m := by
    rw [hbytes]
    cases m <;> simp [byteAt]
  have hlength : field p 9 3 = n := by
    rw [hbytes]
    simp [Nat.mod_eq_of_lt hn]
  have hdigest : digestOf (slice p 12 32) = d := by
    rw [hbytes]
    simp [digestOf_digestBytes]
  have hloc : (if byteAt p 2 = 255 then none else some { bay := byteAt p 2, block := field p 3 6 }) = l := by
    have hbay : byteAt p 2 = l.elim 255 Loc.bay % 256 := by
      rw [hbytes]
      simp [byteAt]
    have hblock : field p 3 6 = l.elim 0 Loc.block % 281474976710656 := by
      rw [hbytes]
      simp
    rw [hbay, hblock]
    cases hx : l with
    | none => rfl
    | some x =>
      obtain ⟨hlow, hhigh⟩ := hl x hx
      rw [Option.elim_some, Option.elim_some, Nat.mod_eq_of_lt (by omega), Nat.mod_eq_of_lt (by omega)]
      exact if_neg (by omega)
  have hread : partRefs (refPart l n d m) = if byteAt p 0 = 1 then (fieldsOf p 2 (byteAt p 1)).map Ref.indexed
      else [imagePrivate p] := by rw [partRefs, hp]
  rw [hread, if_neg htag, imagePrivate, hloc, hlength, hdigest, hmark]

theorem openGroup_refs {g : List Nat} (hlen : g.length ≤ 12) (hg : ∀ h ∈ g, h < 4294967296) :
    (if g = [] then [] else [groupPart g]).flatMap partRefs = g.map Ref.indexed := by
  split
  next hempty =>
    rw [hempty, List.flatMap_nil, List.map_nil]
  · rw [List.flatMap_cons, List.flatMap_nil, List.append_nil, partRefs_group hlen hg]

/-- A recipe behind an open group comes back, the group first. -/
theorem recipeParts_readBack {g : List Nat} {recipe : List Ref} (hlen : g.length ≤ 12) (hg : ∀ h ∈ g, h < 4294967296)
    (hindexed : ∀ h, .indexed h ∈ recipe → h < 4294967296)
    (hpriv : ∀ l n d m, .priv l n d m ∈ recipe → n < 16777216 ∧ ∀ x, l = some x → x.bay < 4 ∧ x.block < 17179869184) :
    (recipeParts g recipe).flatMap partRefs = g.map Ref.indexed ++ recipe := by
  induction recipe generalizing g with
  | nil => rw [recipeParts_nil, openGroup_refs hlen hg, List.append_nil]
  | cons ref rest ih =>
    have hrest {g : List Nat} (hlen : g.length ≤ 12) (hg : ∀ h ∈ g, h < 4294967296) :
        (recipeParts g rest).flatMap partRefs = g.map Ref.indexed ++ rest :=
      ih hlen hg (fun h hh => hindexed h (List.mem_cons_of_mem _ hh))
        fun l n d m hh => hpriv l n d m (List.mem_cons_of_mem _ hh)
    cases ref with
    | indexed h =>
      have hh := hindexed h List.mem_cons_self
      rw [recipeParts_indexed]
      split
      · rw [List.flatMap_cons, partRefs_group hlen hg, hrest (Nat.le_of_ble_eq_true rfl) (by simpa using hh)]
        exact rfl
      · have hroom : (g ++ [h]).length ≤ 12 := by
          rw [List.length_append, List.length_singleton]
          omega
        rw [hrest hroom (by simpa [or_imp, forall_and] using ⟨hg, hh⟩), List.map_append, List.append_assoc]
        exact rfl
    | priv l n d m =>
      obtain ⟨hn, hl⟩ := hpriv l n d m List.mem_cons_self
      rw [recipeParts_priv, List.flatMap_append, openGroup_refs hlen hg, List.flatMap_cons, partRefs_ref d m hn hl,
        hrest (Nat.zero_le _) (by simp)]
      exact rfl

/-- A group of handles that stand in an open group or in a recipe. -/
def GroupOf (g : List Nat) (recipe : List Ref) (part : List Byte) : Prop :=
  ∃ hs : List Nat, 1 ≤ hs.length ∧ hs.length ≤ 12 ∧ (∀ h ∈ hs, h ∈ g ∨ .indexed h ∈ recipe) ∧ part = groupPart hs

theorem groupOf_open {g : List Nat} (hne : g ≠ []) (hlen : g.length ≤ 12) (recipe : List Ref) :
    GroupOf g recipe (groupPart g) := ⟨g, List.length_pos_iff.2 hne, hlen, fun _ hh => .inl hh, rfl⟩

/-- What a part of a recipe is. -/
theorem recipeParts_form {g : List Nat} {recipe : List Ref} (hlen : g.length ≤ 12) {part : List Byte}
    (hpart : part ∈ recipeParts g recipe) :
    GroupOf g recipe part ∨ ∃ l n d m, .priv l n d m ∈ recipe ∧ part = refPart l n d m := by
  induction recipe generalizing g with
  | nil =>
    rw [recipeParts_nil] at hpart
    split at hpart
    · contradiction
    next hne =>
      rw [List.mem_singleton.1 hpart]
      exact .inl (groupOf_open hne hlen _)
  | cons ref rest ih =>
    have hlater {g' : List Nat} (hlen' : g'.length ≤ 12) (hpart' : part ∈ recipeParts g' rest)
        (hg' : ∀ h ∈ g', h ∈ g ∨ .indexed h ∈ ref :: rest) :
        GroupOf g (ref :: rest) part ∨ ∃ l n d m, .priv l n d m ∈ ref :: rest ∧ part = refPart l n d m := by
      rcases ih hlen' hpart' with ⟨hs, hlow, hhigh, hmem, rfl⟩ | ⟨l, n, d, m, hmem, rfl⟩
      · exact .inl ⟨hs, hlow, hhigh, fun h hh => (hmem h hh).elim (hg' h) fun hr => .inr (List.mem_cons_of_mem _ hr), rfl⟩
      · exact .inr ⟨l, n, d, m, List.mem_cons_of_mem _ hmem, rfl⟩
    cases ref with
    | indexed h =>
      rw [recipeParts_indexed] at hpart
      split at hpart
      next hfull =>
        rcases List.mem_cons.1 hpart with rfl | hpart
        · exact .inl (groupOf_open (List.ne_nil_of_length_eq_add_one hfull) hlen _)
        · exact hlater (Nat.le_of_ble_eq_true rfl) hpart fun k hk => .inr (by simp [List.mem_singleton.1 hk])
      next hroom =>
        refine hlater (g' := g ++ [h]) ?_ hpart fun k hk => ?_
        · rw [List.length_append, List.length_singleton]
          omega
        · rcases List.mem_append.1 hk with hk | hk
          · exact .inl hk
          · exact .inr (by simp [List.mem_singleton.1 hk])
    | priv l n d m =>
      rw [recipeParts_priv] at hpart
      rcases List.mem_append.1 hpart with hpart | hpart
      · split at hpart
        · contradiction
        next hne =>
          rw [List.mem_singleton.1 hpart]
          exact .inl (groupOf_open hne hlen _)
      · rcases List.mem_cons.1 hpart with rfl | hpart
        · exact .inr ⟨l, n, d, m, List.mem_cons_self, rfl⟩
        · exact hlater (Nat.zero_le _) hpart fun k hk => absurd hk List.not_mem_nil

/-! ### The sections of the image (Table 12.3) -/

theorem imageParts_eq (code number : Nat) (contents : List (List Byte)) :
    imageParts code number contents = contents.mapIdx fun k content => imageRecord code k number content := by
  rw [imageParts, List.mapIdx_eq_zipIdx_map]

theorem members_groups (members : List Nat) :
    (pieces 13 members.length members).map (fun ms => ms.flatMap (le 4))
      = (List.range ((members.length + 12) / 13)).map fun k => ((members.drop (13 * k)).take 13).flatMap (le 4) := by
  rw [pieces_eq (Nat.le_refl _), List.map_map]
  exact rfl

theorem sections_eq (s : State) : s.sections = [1, 2, 3, 4, 5, 6, 7, 8, 9].map s.imageSection := rfl

theorem image_eq (s : State) :
    s.image = [1, 2, 3, 4, 5, 6, 7, 8, 9].flatMap s.imageSection
      ++ [imageRecord 10 0 0 ([1, 2, 3, 4, 5, 6, 7, 8, 9].flatMap fun k => le 4 (s.imageSection k).length)] := by
  rw [State.image, sections_eq, List.flatMap_map, ← List.flatMap_def]

/-- Settles O55: each record by its bytes, recipes by the parts they are cut into, and the sections as they are written. -/
theorem imageRecordsReadBack : Obligations.ImageRecordsReadBack := by
  refine ⟨imageRecord_readBack, settings_readBack, ?_, ?_, object_readBack, ?_, chunk_readBack, ?_, ?_, ?_, ?_, ?_⟩
  · intro s c hc x hactive hgen hrole haddress hlabel hquota hcharged hmissed hschedule
    exact client_readBack s c hc hactive hgen hrole haddress hlabel hquota hcharged hmissed hschedule
  · intro s n pad _ l hstate howner hgen hcreated hclosed hcount hmembers hreserved
    obtain ⟨hread, hlength⟩ := coll_readBack s n pad hstate howner hgen hcreated hclosed hcount hreserved
    exact ⟨hread, hlength, members_readBack _ hmembers⟩
  · intro recipe hindexed hpriv
    exact recipeParts_readBack (g := []) (Nat.zero_le _) (by simp) hindexed hpriv
  · intro s n pad _ g hlive hclient halbum hall hstart hend hexpiry
    exact grant_readBack s n pad hlive hclient halbum hall hstart hend hexpiry
  · intro s parts groups
    refine ⟨?_, ?_, ?_, ?_, rfl, rfl, ?_, ?_, ?_, image_eq s⟩
    · exact imageParts_eq 1 0 _
    · exact List.flatMap_congr fun c _ => imageParts_eq 2 c _
    · refine List.flatMap_congr fun x _ => ?_
      rw [members_groups]
      exact imageParts_eq 3 x.1 _
    · exact List.flatMap_congr fun x _ => imageParts_eq 4 x.1 _
    · rw [List.mapIdx_eq_zipIdx_map]
      refine List.map_congr_left fun x _ => ?_
      cases hx : x.1 <;> simp only [Order.bytes, hx]
    · rw [List.mapIdx_eq_zipIdx_map]
      exact rfl
    · rw [List.mapIdx_eq_zipIdx_map]
      exact rfl
  · intro o
    rw [Obj.head]
    cases o.state <;> exact rfl
  · intro recipe part hpart
    rcases recipeParts_form (Nat.zero_le _) hpart with ⟨hs, hlow, hhigh, hmem, rfl⟩ | hpriv
    · exact .inl ⟨hs, hlow, hhigh, fun h hh => (hmem h hh).resolve_left List.not_mem_nil, rfl⟩
    · exact .inr hpriv
  · intro pad
    exact ⟨fun n hn => order_coll_readBack hn pad, fun n hn => order_object_readBack hn pad,
      fun x hbay hblock hlength => extent_readBack x hbay hblock hlength pad⟩

end Sys2Proof.Machine
end
